-- ==== Sys2Proof/Word.lean ====
section
/-!
DEFINITION. Word.lean: the word types of the Pydon 8320 and the plainest containers the rest of the model uses.
Dictionary values (R334), bytes, the sparse table in which memories and settings are held.
-/

namespace Sys2Proof

/-- One byte. -/
abbrev Byte := BitVec 8

/-- A 32-bit word: an engine g register, a classroom word, a peripheral register. -/
abbrev Word := BitVec 32

/-- A dictionary key: `index * 256 + sub-index` (R333), so `0x2000_01` is entry 2000.01. -/
abbrev Key := Nat

/-- The dictionary initiators of R338: 0 ring port A, 1 ring port B, 2 PCI Express host, 3 application core,
4 control core. -/
abbrev Initiator := Fin 5

/-- A value of the dictionary (R334): a scalar as the number it encodes, or a byte block (STR, DOM). -/
inductive DVal where
  | num (v : Int)
  | bytes (b : List Byte)
  deriving DecidableEq, Repr

/-- A table with rising natural-number keys that lists only the entries that differ from what an unlisted key
reads as (`Machine/Sparse.lean` reads and writes it). -/
abbrev Sparse (α : Type) := List (Nat × α)

/-- `x` rounded up to the next multiple of `m`. -/
def ceilTo (m x : Nat) : Nat := (x + m - 1) / m * m

end Sys2Proof
end

