-- ==== Sys2Proof/Syntax.lean ====
section
/-!
DEFINITION. Syntax.lean: the commands of the Pydon 8320, one constructor per row of the command table, with the operands
that reach the part from outside (what a pin, a fibre, a bus partner, a requester or an instruction word brings).
-/

namespace Sys2Proof

/-- One item of a dictionary request, Table 13-3 (R343); `data` are the LENGTH bytes of a write. -/
structure Item where
  index : BitVec 16
  sub : BitVec 8
  /-- 1 read, 2 write, 3 shadow read. -/
  op : BitVec 8
  offset : BitVec 32 := 0
  length : BitVec 32
  generation : BitVec 32 := 0
  data : List Byte := []
  deriving DecidableEq, Repr

/-- A dictionary request (R343). -/
structure Request where
  group : Bool := false
  tag : BitVec 32 := 0
  items : List Item
  /-- The record as received breaks R343 (a wrong item count, or items that run past its end). -/
  broken : Bool := false
  /-- CHANNEL of the request-ring entry that names the record, which its completion returns (Table 15-3, R389). -/
  channel : BitVec 16 := 0
  deriving DecidableEq, Repr

/-- Where a request that a command names comes from: `direct` presents it to the
serialiser as the command runs, `dt` ns after the previous command; `queued` takes the request that the initiator has
already presented (by its port, frame or ring entry). -/
inductive Src where
  | direct (ini : Initiator) (tag : BitVec 32) (dt : Nat)
  | queued (ini : Initiator)
  deriving DecidableEq, Repr

/-- The entry, offset, length and generation of a read item (R343). -/
structure ReadArgs where
  index : BitVec 16
  sub : BitVec 8
  offset : BitVec 32 := 0
  length : BitVec 32
  generation : BitVec 32 := 0
  deriving DecidableEq, Repr

/-- The entry and data of a write item (R343). -/
structure WriteArgs where
  index : BitVec 16
  sub : BitVec 8
  data : List Byte
  deriving DecidableEq, Repr

/-- The four converter codes of one SMPCLK sample (R107). -/
structure Sample where
  c0 : BitVec 12
  c1 : BitVec 12
  c2 : BitVec 12
  c3 : BitVec 12
  deriving DecidableEq, Repr

/-- The two Raman converter codes of one RAMANCLK sample, anti-Stokes and Stokes (R131). -/
structure RamanSample where
  aS : BitVec 14
  s : BitVec 14
  deriving DecidableEq, Repr

/-- Where an engine operation issues: the engine, and how many ENGCLK cycles after the engine's previous bundle; 0 is
the same bundle. -/
structure At where
  eng : Fin 32
  adv : Nat
  deriving DecidableEq, Repr

/-- The guard of an M or A slot (R178). -/
structure Guard where
  ge : Bool
  gn : Bool
  gq : Fin 4
  deriving DecidableEq, Repr

/-- The guard of an L slot (R178). -/
structure LGuard where
  ge : Bool
  gq : Fin 4
  deriving DecidableEq, Repr

/-- The fields of the multiply format (Table 7-3); `zero` is [4:0]. -/
structure MulForm where
  ad : Fin 4
  sa : Fin 32
  sb : Fin 32
  ha : Bool
  hb : Bool
  ua : Bool
  ub : Bool
  frac : Bool
  sata : Bool
  zero : BitVec 5
  deriving DecidableEq, Repr

/-- The fields of the accumulator format (Table 7-3); `zero` is [5:0]. -/
structure AccForm where
  ad : Fin 4
  gr : Fin 32
  as_ : Fin 4
  sh : Fin 64
  rnd : Bool
  sat : Bool
  zero : BitVec 6
  deriving DecidableEq, Repr

/-- The fields of the register form of the A slot (Table 7-4); `zero` is [4:0]. -/
structure RegForm where
  d : Fin 32
  s1 : Fin 32
  s2 : Fin 32
  qs : Fin 4
  zero : BitVec 5
  deriving DecidableEq, Repr

/-- The fields of the immediate form (Table 7-4). -/
structure ImmForm where
  d : Fin 32
  s1 : Fin 32
  imm : BitVec 12
  deriving DecidableEq, Repr

/-- The fields of the long immediate form (Table 7-4); `zero` is [16]. -/
structure LongForm where
  d : Fin 32
  zero : Bool
  imm : BitVec 16
  deriving DecidableEq, Repr

/-- The fields of an L slot (Table 7-6). -/
structure LForm where
  gr : Fin 32
  pn : Fin 8
  size : Fin 4
  pm : Bool
  off : BitVec 6
  deriving DecidableEq, Repr

/-- The five slots of a bundle (R175), and which of L0 and L1 an L operation takes. -/
inductive Slot where
  | c | m | a | l0 | l1
  deriving DecidableEq, Repr

/-- A JoenLink frame as a ring port receives it: the port, `dt` ns and `ps` after the previous command, whether its FCS is
good, the residence beyond 480 ns in ps (R362), its payload after the EtherType. -/
structure RxFrame where
  port : Fin 2
  dt : Nat
  ps : Fin 1000 := 0
  fcsOk : Bool := true
  residence : Fin 160001 := 0
  payload : List Byte
  deriving DecidableEq, Repr

/-- The fields of a request-ring entry that its completion returns (Table 15-3). -/
structure EntryHead where
  opcode : BitVec 8
  cq : BitVec 8
  channel : BitVec 16
  tag : BitVec 32
  deriving DecidableEq, Repr

/-- What a barn read finds in one 64-bit word of its line (R318). -/
inductive WordError where
  /-- A single-bit error, with its syndrome. -/
  | corrected (syndrome : BitVec 8)
  /-- Uncorrectable, with its syndrome. -/
  | uncorrectable (syndrome : BitVec 8)
  deriving DecidableEq, Repr

/-- A failing cell that memory BIST or a slice reports (R480). -/
structure CellFault where
  kind : BitVec 8
  unit : BitVec 8
  bank : BitVec 8
  /-- 0 a spare row covers it, 1 a spare column, 2 none does. -/
  outcome : BitVec 8
  word : BitVec 32
  bit : BitVec 8
  deriving DecidableEq, Repr

/-- What logic BIST finds (R476, Table 19-5). -/
structure BistResult where
  /-- VDD_CORE in mV as source 0x27 reads it before each partition (R476). -/
  readings : Vector (BitVec 16) 8
  signatures : Vector (BitVec 32) 8
  vcoreMin : BitVec 16
  vcoreMax : BitVec 16
  dieTemp : BitVec 32
  duration : BitVec 32
  /-- The card's slot holds it when it is read back (R467, R477). -/
  cardHolds : Bool := true
  deriving DecidableEq, Repr

/-- What the read-back of a written black-box slot finds (R467). -/
inductive ReadBack where
  | holds
  /-- Other bytes than those of the record. -/
  | differs (found : List Byte)
  deriving DecidableEq, Repr

/-- What a start finds (Table 20-1, R325, R479): training of the two channels, the verification of restored training, the
failing cells of memory BIST, VHOLD, and the instants of steps 7, 8 and 9 in µs. -/
structure StartFacts where
  trained0 : Bool := true
  trained1 : Bool := true
  verified : Bool := true
  cells : List CellFault := []
  vholdOk : Bool := true
  times : Vector (BitVec 32) 3
  deriving DecidableEq, Repr

/-- The size of a supervisor core's access. -/
inductive AccessSize where
  | byte | half | word
  deriving DecidableEq, Repr

/-- The AMO operations of RV32A (R400). -/
inductive AmoOp where
  | swap | add | xor | and | or | min | max | minu | maxu
  deriving DecidableEq, Repr

/-- What a supervisor core does that the rest of the block sees, and what changes its own control state (R400, R402, R415). -/
inductive CoreOp where
  | load (size : AccessSize) (signed : Bool) (address : BitVec 32)
  | store (size : AccessSize) (address : BitVec 32) (value : BitVec 32)
  /-- The fetch of an instruction of two or four bytes. -/
  | fetch (short : Bool) (address : BitVec 32)
  | loadReserved (address : BitVec 32)
  | storeConditional (address : BitVec 32) (value : BitVec 32)
  | amo (op : AmoOp) (address : BitVec 32) (value : BitVec 32)
  | wfi
  | mret
  /-- A read of a control and status register, and the value written to it if one is. -/
  | csr (number : BitVec 12) (write : Option (BitVec 32))
  deriving DecidableEq, Repr

/-- What the debug module of a supervisor core is asked through DMI (R400, R446, R448). -/
inductive DebugOp where
  | status
  | halt
  | resume
  | step
  | readReg (r : Fin 32)
  | writeReg (r : Fin 32) (value : BitVec 32)
  /-- Abstract memory accesses. -/
  | readMem (size : AccessSize) (address : BitVec 32)
  | writeMem (size : AccessSize) (address : BitVec 32) (value : BitVec 32)
  /-- System-bus accesses. -/
  | readBus (size : AccessSize) (address : BitVec 32)
  | writeBus (size : AccessSize) (address : BitVec 32) (value : BitVec 32)
  deriving DecidableEq, Repr

/-- A change at the stream port: its link (R396), or its input STREAM_LOS, high for loss of signal (R399). -/
inductive StreamSignal where
  | link (up : Bool)
  | los (high : Bool)
  deriving DecidableEq, Repr

/-- A write to a register that has no row of its own (R7), and the other accesses that have none. -/
inductive RegWrite where
  /-- A BAR0 register of the endpoint (Table 15-2). -/
  | bar0 (offset : BitVec 16) (value : BitVec 32)
  /-- The power-management, link and MSI-X control registers of configuration space (R385, R391, R392). -/
  | pmcsr (value : BitVec 16)
  | linkControl (value : BitVec 16)
  | msixControl (value : BitVec 16)
  | deviceControl2 (value : BitVec 16)
  /-- A write of ones to the AER status of rows of Table 15-6, W1C (R385, R393). -/
  | aerClear (rows : BitVec 6)
  /-- A 32-bit read of BAR0 (Table 15-2). -/
  | bar0Read (offset : BitVec 16)
  /-- A 32-bit read of the function's type 0 header (R385). -/
  | configRead (offset : BitVec 12)
  /-- A received write whose TLP is poisoned (Table 15-6). -/
  | poisonedWrite
  /-- A 32-bit store of a supervisor core in the map of Table 16-1. -/
  | core (core : Fin 2) (address : BitVec 32) (value : BitVec 32)
  /-- What else a supervisor core does. -/
  | coreOp (core : Fin 2) (op : CoreOp)
  /-- A request to a supervisor core's debug module, through DMI. -/
  | debug (core : Fin 2) (op : DebugOp)
  /-- An opcode shifted into the instruction register of the TAP that Table 20-10 does not list (R501). -/
  | tapOpcode (opcode : BitVec 8)
  deriving DecidableEq, Repr

/-- The commands: every row of the command table. -/
inductive Instr where
  /-- BELL_START: R31. -/
  | bellStart
  /-- BELLS_STOPPED: R22, R34. -/
  | bellsStopped
  /-- ACQUISITION_WINDOW_CLOSE: R16, with the converter codes of the bell, one per ns from its start (0 beyond the list), and the Raman codes at 2 * ramanPhase + 8 * (m - 65) ns from its start for place m of the list. -/
  | acquisitionWindowClose (samples : List Sample) (raman : List RamanSample) (ramanPhase : Fin 4)
  /-- LAUNCH_WINDOW_CLOSE: R52. -/
  | launchWindowClose
  /-- TRACE_END_KNOWN: R270. -/
  | traceEndKnown
  /-- OFFSET_ESTIMATE: R109, with the sums of the 3,000 codes of each converter in the estimation window. -/
  | offsetEstimate (sums : Vector Int 4)
  /-- LESSON_START: R155. -/
  | lessonStart
  /-- LESSON_DEADLINE: R228. -/
  | lessonDeadline
  /-- REF_IN_LOST: R38: `dt` ns after the previous command. -/
  | refInLost (dt : Nat)
  /-- REF_IN_RETURN: R39. -/
  | refInReturn (dt : Nat)
  /-- PLL_LOCK: R39. -/
  | pllLock (dt : Nat)
  /-- PPS_IN_EDGE: R41: the edge comes `dt` ns and `frac` 128ths of a ns after the previous command. -/
  | ppsInEdge (dt : Nat) (frac : Fin 128)
  /-- TIME_COAST: R42. -/
  | timeCoast
  /-- TDC_EDGE: R43. -/
  | tdcEdge (dt : Nat) (frac : Fin 128) (chan : Fin 8) (rising : Bool)
  /-- TDC_POP_LO: R50, read by core 0 (control) or 1 (application). -/
  | tdcPopLo (core : Fin 2) (chan : Fin 8)
  /-- TDC_STATUS_CLEAR: R51. -/
  | tdcStatusClear (core : Fin 2) (chan : Fin 8) (value : BitVec 32)
  /-- FINE_CALIBRATION: R49. -/
  | fineCalibration
  /-- BELL_RUN_ARM: R33. -/
  | bellRunArm (src : Src)
  /-- BELL_RUN_STOP: R34. -/
  | bellRunStop (src : Src)
  /-- DEVICE_TIME_WRITE: R61. -/
  | deviceTimeWrite (src : Src) (value : BitVec 64)
  /-- TIME_SOURCE_SELECT: R42. -/
  | timeSourceSelect (src : Src) (value : BitVec 8)
  /-- TDC_OWNER_CHANGE: R44. -/
  | tdcOwnerChange (src : Src) (chan : Fin 8) (value : BitVec 8)
  /-- PWM_PERIOD_START: R88. -/
  | pwmPeriodStart (line : Fin 8)
  /-- GATE_LINE_FIRE: R88. -/
  | gateLineFire (line : Fin 8)
  /-- GATE_LINE_END: R88. -/
  | gateLineEnd (line : Fin 8)
  /-- COMPLIANCE_JUDGEMENT: R93: measured current (0.1 mA), pin voltage (mV), and whether the gate drive is at its 3.0 V limit. -/
  | complianceJudgement (line : Fin 8) (current pinMv : Nat) (gateLimit : Bool)
  /-- PROVING_PULSE_START: R94. -/
  | provingPulseStart (line : Fin 8)
  /-- PROVING_VERDICT: R94: measured current (0.1 mA) and pin voltage (mV). -/
  | provingVerdict (line : Fin 8) (current pinMv : Nat)
  /-- FAULT_CLEAR: R96. -/
  | faultClear (src : Src) (value : BitVec 8)
  /-- INTERLOCK_ASSERT: R99: INTERLOCK_N goes low, for at least 200 ns. -/
  | interlockAssert (dt : Nat)
  /-- INTERLOCK_RELEASE: R100. -/
  | interlockRelease (dt : Nat)
  /-- DRIVE_ENABLE_HOLDOFF_END: R100. -/
  | driveEnableHoldoffEnd
  /-- DRIVE_RESTORE: R100. -/
  | driveRestore (src : Src)
  /-- DRIVE_REMOVE: R100. -/
  | driveRemove (src : Src)
  /-- DISSIPATION_AVERAGE: R102: measured dissipation of all on-chip lines. -/
  | dissipationAverage (milliwatts : Nat)
  /-- CAP_SCALE_APPLY: R102. -/
  | capScaleApply
  /-- CAP_SCALE_RAISE: R102. -/
  | capScaleRaise
  /-- SHADOW_APPLY_STOPPED: R348. -/
  | shadowApplyStopped
  /-- CAL_RUN: R110. -/
  | calRun (src : Src)
  /-- CONVERTER_CAL_DONE: R110, with the measured gains (32,768 = 1) and skews (ps). -/
  | converterCalDone (gains : Vector (BitVec 16) 4) (skews : Vector Int 4)
  /-- CAPTURE_ARM: R130. -/
  | captureArm (src : Src)
  /-- CAPTURE_COMPLETE: R130. -/
  | captureComplete
  /-- CAPTURE_OVERRUN: R130, with the entries per stream written by then. -/
  | captureOverrun (entries : Nat)
  /-- DTS_BLOCK_COPY_DONE: R135. -/
  | dtsBlockCopyDone
  /-- PROFILE_STORE: R268. -/
  | profileStore
  /-- CAL_RESET: R267. -/
  | calReset (src : Src)
  /-- TRACE_END_LEARN: R276. -/
  | traceEndLearn (src : Src)
  /-- TRACE_END_LEARN_DONE: R276. -/
  | traceEndLearnDone
  /-- MUL: R184. -/
  | engMul (at_ : At) (gd : Guard) (f : MulForm)
  /-- MAC: R184. -/
  | engMac (at_ : At) (gd : Guard) (f : MulForm)
  /-- MSU: R184. -/
  | engMsu (at_ : At) (gd : Guard) (f : MulForm)
  /-- MULN: R184. -/
  | engMuln (at_ : At) (gd : Guard) (f : MulForm)
  /-- ACLR: R185. -/
  | engAclr (at_ : At) (gd : Guard) (f : AccForm)
  /-- AMOV: R185. -/
  | engAmov (at_ : At) (gd : Guard) (f : AccForm)
  /-- AADD: R185. -/
  | engAadd (at_ : At) (gd : Guard) (f : AccForm)
  /-- ASUB: R185. -/
  | engAsub (at_ : At) (gd : Guard) (f : AccForm)
  /-- ALDG: R185. -/
  | engAldg (at_ : At) (gd : Guard) (f : AccForm)
  /-- AEXT: R185. -/
  | engAext (at_ : At) (gd : Guard) (f : AccForm)
  /-- AEX16: R185. -/
  | engAex16 (at_ : At) (gd : Guard) (f : AccForm)
  /-- ASHR: R185. -/
  | engAshr (at_ : At) (gd : Guard) (f : AccForm)
  /-- NOP: R175. -/
  | engNop (at_ : At) (slot : Slot)
  /-- ADD: R187. -/
  | engAdd (at_ : At) (gd : Guard) (f : RegForm)
  /-- SUB: R187. -/
  | engSub (at_ : At) (gd : Guard) (f : RegForm)
  /-- ADDS: R187. -/
  | engAdds (at_ : At) (gd : Guard) (f : RegForm)
  /-- SUBS: R187. -/
  | engSubs (at_ : At) (gd : Guard) (f : RegForm)
  /-- AND: R187. -/
  | engAnd (at_ : At) (gd : Guard) (f : RegForm)
  /-- OR: R187. -/
  | engOr (at_ : At) (gd : Guard) (f : RegForm)
  /-- XOR: R187. -/
  | engXor (at_ : At) (gd : Guard) (f : RegForm)
  /-- SHL: R187. -/
  | engShl (at_ : At) (gd : Guard) (f : RegForm)
  /-- SHR: R187. -/
  | engShr (at_ : At) (gd : Guard) (f : RegForm)
  /-- SAR: R187. -/
  | engSar (at_ : At) (gd : Guard) (f : RegForm)
  /-- MIN: R187. -/
  | engMin (at_ : At) (gd : Guard) (f : RegForm)
  /-- MAX: R187. -/
  | engMax (at_ : At) (gd : Guard) (f : RegForm)
  /-- ABS: R187. -/
  | engAbs (at_ : At) (gd : Guard) (f : RegForm)
  /-- ADD2: R187. -/
  | engAdd2 (at_ : At) (gd : Guard) (f : RegForm)
  /-- SUB2: R187. -/
  | engSub2 (at_ : At) (gd : Guard) (f : RegForm)
  /-- ADDS2: R187. -/
  | engAdds2 (at_ : At) (gd : Guard) (f : RegForm)
  /-- SUBS2: R187. -/
  | engSubs2 (at_ : At) (gd : Guard) (f : RegForm)
  /-- SXL: R187. -/
  | engSxl (at_ : At) (gd : Guard) (f : RegForm)
  /-- SXH: R187. -/
  | engSxh (at_ : At) (gd : Guard) (f : RegForm)
  /-- PACK: R187. -/
  | engPack (at_ : At) (gd : Guard) (f : RegForm)
  /-- SEL: R187. -/
  | engSel (at_ : At) (gd : Guard) (f : RegForm)
  /-- MOV: R187. -/
  | engMov (at_ : At) (gd : Guard) (f : RegForm)
  /-- CMPEQ: R187. -/
  | engCmpeq (at_ : At) (gd : Guard) (f : RegForm)
  /-- CMPLT: R187. -/
  | engCmplt (at_ : At) (gd : Guard) (f : RegForm)
  /-- CMPLTU: R187. -/
  | engCmpltu (at_ : At) (gd : Guard) (f : RegForm)
  /-- CMPLE: R187. -/
  | engCmple (at_ : At) (gd : Guard) (f : RegForm)
  /-- PAND: R187. -/
  | engPand (at_ : At) (gd : Guard) (f : RegForm)
  /-- POR: R187. -/
  | engPor (at_ : At) (gd : Guard) (f : RegForm)
  /-- PNOT: R187. -/
  | engPnot (at_ : At) (gd : Guard) (f : RegForm)
  /-- PSETI: R187. -/
  | engPseti (at_ : At) (gd : Guard) (f : ImmForm)
  /-- PTST: R188. -/
  | engPtst (at_ : At) (gd : Guard) (f : RegForm)
  /-- PCLR: R188. -/
  | engPclr (at_ : At) (gd : Guard) (f : RegForm)
  /-- PSET: R188. -/
  | engPset (at_ : At) (gd : Guard) (f : RegForm)
  /-- ADDI: R187. -/
  | engAddi (at_ : At) (gd : Guard) (f : ImmForm)
  /-- ANDI: R187. -/
  | engAndi (at_ : At) (gd : Guard) (f : ImmForm)
  /-- ORI: R187. -/
  | engOri (at_ : At) (gd : Guard) (f : ImmForm)
  /-- XORI: R187. -/
  | engXori (at_ : At) (gd : Guard) (f : ImmForm)
  /-- SHLI: R187. -/
  | engShli (at_ : At) (gd : Guard) (f : ImmForm)
  /-- SHRI: R187. -/
  | engShri (at_ : At) (gd : Guard) (f : ImmForm)
  /-- SARI: R187. -/
  | engSari (at_ : At) (gd : Guard) (f : ImmForm)
  /-- CMPEQI: R187. -/
  | engCmpeqi (at_ : At) (gd : Guard) (f : ImmForm)
  /-- CMPLTI: R187. -/
  | engCmplti (at_ : At) (gd : Guard) (f : ImmForm)
  /-- MOVIL: R187. -/
  | engMovil (at_ : At) (gd : Guard) (f : LongForm)
  /-- MOVIH: R187. -/
  | engMovih (at_ : At) (gd : Guard) (f : LongForm)
  /-- MOVTP: R187. -/
  | engMovtp (at_ : At) (gd : Guard) (f : RegForm)
  /-- MOVTM: R187. -/
  | engMovtm (at_ : At) (gd : Guard) (f : RegForm)
  /-- MOVTL: R187. -/
  | engMovtl (at_ : At) (gd : Guard) (f : RegForm)
  /-- MOVFP: R187. -/
  | engMovfp (at_ : At) (gd : Guard) (f : RegForm)
  /-- MOVFM: R187. -/
  | engMovfm (at_ : At) (gd : Guard) (f : RegForm)
  /-- MOVFL: R187. -/
  | engMovfl (at_ : At) (gd : Guard) (f : RegForm)
  /-- LD: R190. -/
  | engLd (at_ : At) (second : Bool) (gd : LGuard) (f : LForm)
  /-- ST: R190. -/
  | engSt (at_ : At) (second : Bool) (gd : LGuard) (f : LForm)
  /-- PMOD: R190. -/
  | engPmod (at_ : At) (second : Bool) (gd : LGuard) (f : LForm)
  /-- POST: R192. -/
  | engPost (at_ : At) (second : Bool) (gd : LGuard) (f : LForm)
  /-- BR: R195. -/
  | engBr (at_ : At) (target : BitVec 12)
  /-- BRT: R195. -/
  | engBrt (at_ : At) (qb : Fin 4) (target : BitVec 12)
  /-- BRF: R195. -/
  | engBrf (at_ : At) (qb : Fin 4) (target : BitVec 12)
  /-- REP: R196. -/
  | engRep (at_ : At) (rot : Bool) (count : BitVec 7) (len : BitVec 6)
  /-- SEG: R197. -/
  | engSeg (at_ : At)
  /-- END: R198. -/
  | engEnd (at_ : At)
  /-- REPLAY: R162. -/
  | replay (at_ : At)
  /-- ENGINE_HALT_AT_SAFE_POINT: R159. -/
  | engineHaltAtSafePoint (at_ : At)
  /-- SAFE_POINT_TIMEOUT: R159: `adv` cycles after the engine's previous bundle. -/
  | safePointTimeout (eng : Fin 32) (adv : Nat)
  /-- SPARE_MAPPING_START: R166. -/
  | spareMappingStart
  /-- CLASSROOM_FAULT: R169. -/
  | classroomFault (room : Fin 4)
  /-- PREFETCH_COMPLETE: R216: the oldest prefetch of the classroom. -/
  | prefetchComplete (room : Fin 4) (dt : Nat)
  /-- STATUS: R171. -/
  | dbgStatus (eng : Fin 32) (dt : Nat)
  /-- HALT: R171. -/
  | dbgHalt (eng : Fin 32) (dt : Nat)
  /-- RESUME: R171. -/
  | dbgResume (eng : Fin 32) (dt : Nat)
  /-- STEP: R171. -/
  | dbgStep (eng : Fin 32) (dt : Nat)
  /-- READ_REG: R171. -/
  | dbgReadReg (eng : Fin 32) (addr : BitVec 24) (dt : Nat)
  /-- WRITE_REG: R171. -/
  | dbgWriteReg (eng : Fin 32) (addr : BitVec 24) (data : BitVec 32) (dt : Nat)
  /-- READ_MEM: R171. -/
  | dbgReadMem (eng : Fin 32) (addr : BitVec 24) (dt : Nat)
  /-- WRITE_MEM: R171. -/
  | dbgWriteMem (eng : Fin 32) (addr : BitVec 24) (data : BitVec 32) (dt : Nat)
  /-- SET_BREAK: R171. -/
  | dbgSetBreak (eng : Fin 32) (addr : BitVec 24) (data : BitVec 32) (dt : Nat)
  /-- CLEAR_BREAK: R171. -/
  | dbgClearBreak (eng : Fin 32) (addr : BitVec 24) (dt : Nat)
  /-- FAULT_INJECT: R173. -/
  | faultInject (src : Src) (value : BitVec 16)
  /-- TT_LOAD: R225. -/
  | ttLoad (src : Src)
  /-- TT_IMAGE_PIECE: R347. -/
  | ttImagePiece (src : Src) (offset : BitVec 32) (data : List Byte)
  /-- BELL_SWITCH_LOAD_DONE: R223. -/
  | bellSwitchLoadDone
  /-- MANUAL_TRIGGER: R247. -/
  | manualTrigger (src : Src) (value : BitVec 16)
  /-- TRIGGER_NEXT: R259: a read of the whole entry. -/
  | triggerNext (src : Src)
  /-- HARVEST_COMPLETE: R253: the last row of harvest `seq` is copied. -/
  | harvestComplete (seq : BitVec 32) (dt : Nat)
  /-- HARVEST_RELEASE: R253. -/
  | harvestRelease (src : Src) (value : BitVec 32)
  /-- HARVEST_AREA_RESIZE: R253. -/
  | harvestAreaResize (src : Src) (value : BitVec 64)
  /-- HK_TIMER_START: R280. -/
  | hkTimerStart
  /-- HK_PWM_EDGE_START: R280. -/
  | hkPwmEdgeStart
  /-- HK_START_ENTRY: R282. -/
  | hkStartEntry (src : Src)
  /-- HK_START_REGISTER: R282. -/
  | hkStartRegister (core : Fin 2) (value : BitVec 32) (dt : Nat)
  /-- HK_SAMPLE: R281: raw codes of both converters, and whether the open comparators of their sensor channels tripped since the slot's last sample instant. -/
  | hkSample (rawA rawB : BitVec 12) (openA openB : Bool)
  /-- HK_SLOT_END: R285. -/
  | hkSlotEnd
  /-- HK_CAL_RUN: R291. -/
  | hkCalRun (src : Src)
  /-- HK_SELF_CAL_DONE: R291: the 68 measured factors in the order of Table 11-12. -/
  | hkSelfCalDone (factors : List Int)
  /-- HK_STATUS_CLEAR: R295. -/
  | hkStatusClear (core : Fin 2) (value : BitVec 32) (dt : Nat)
  /-- STICKY_CLEAR: R297. -/
  | stickyClear (src : Src) (value : BitVec 8)
  /-- BARN_REQUEST: R310: a read, or a write of the listed bytes of the line. -/
  | barnRequest (requester : Fin 14) (line : BitVec 29) (write : Option (List (Fin 64 × Byte))) (dt : Nat)
  /-- BARN_READ_COMPLETE: R318: the read next in the order of R311 returns. -/
  | barnReadComplete (chan : Fin 2) (errors : List (Fin 8 × WordError)) (dt : Nat)
  /-- BARN_WRITE_BURST: R317: one entry is issued. -/
  | barnWriteBurst (chan : Fin 2) (dt : Nat)
  /-- BARN_ALERT: R319: ALERT_N low for `cycles` MEMCLK cycles for a command or write of that line. -/
  | barnAlert (chan : Fin 2) (requester : Fin 14) (line : BitVec 29) (cycles : Nat) (dt : Nat)
  /-- REFRESH_DUE: R324. -/
  | refreshDue (chan : Fin 2)
  /-- RECAL_STEP: R326. -/
  | recalStep (chan : Fin 2) (dt : Nat)
  /-- SCRUB_PASS_END: R323. -/
  | scrubPassEnd (dt : Nat)
  /-- SELF_REFRESH_ENTRY: R327. -/
  | selfRefreshEntry
  /-- LOG_CLEAR: R330. -/
  | logClear (src : Src) (value : BitVec 8)
  /-- DICT_READ: R342. -/
  | dictRead (src : Src) (args : ReadArgs)
  /-- DICT_SHADOW_READ: R348. -/
  | dictShadowRead (src : Src) (args : ReadArgs)
  /-- DICT_WRITE: R335. -/
  | dictWrite (src : Src) (args : WriteArgs)
  /-- DICT_GROUP_WRITE: R349. -/
  | dictGroupWrite (src : Src) (items : List Item)
  /-- DP_GO: R350. -/
  | dpGo (value : BitVec 32) (dt : Nat)
  /-- DP_STATUS_CLEAR: R350. -/
  | dpStatusClear (value : BitVec 32) (dt : Nat)
  /-- OP_START_TIMETABLE_LOAD: R351. -/
  | opStartTimetableLoad (src : Src) (arg : BitVec 8)
  /-- OP_START_PROFILE_SAVE: R351. -/
  | opStartProfileSave (src : Src) (arg : BitVec 8)
  /-- OP_START_PROFILE_APPLY: R356. -/
  | opStartProfileApply (src : Src) (arg : BitVec 8)
  /-- OP_START_FLASH_PROGRAM: R351. -/
  | opStartFlashProgram (src : Src) (arg : BitVec 8)
  /-- STAGED_OP_STEP_DONE: R352: the step in progress of operation 7010 + k. -/
  | stagedOpStepDone (k : Fin 8) (dt : Nat)
  /-- STAGED_OP_STEP_REPORT: R352. -/
  | stagedOpStepReport (k : Fin 8) (dt : Nat)
  /-- OP_ABORT: R354. -/
  | opAbort (src : Src) (value : BitVec 32)
  /-- LATCH_CLEAR: R358. -/
  | latchClear (src : Src) (value : BitVec 32)
  /-- FOREIGN_FRAME: R361. -/
  | foreignFrame (rx : RxFrame)
  /-- JOENLINK_FRAME_UNKNOWN: R364. -/
  | joenlinkFrameUnknown (rx : RxFrame)
  /-- CARRIAGE_FRAME: R365. -/
  | carriageFrame (rx : RxFrame)
  /-- CARRIAGE_REQUEST: R367: the downlink slot of the frame has arrived. -/
  | carriageRequest (rx : RxFrame)
  /-- CARRIAGE_REFETCH: R367. -/
  | carriageRefetch (rx : RxFrame)
  /-- MAILBOX: R370. -/
  | mailbox (rx : RxFrame)
  /-- POLL: R370. -/
  | poll (rx : RxFrame)
  /-- ROLL_CALL: R371. -/
  | rollCall (rx : RxFrame)
  /-- SWEEP: R377. -/
  | sweep (rx : RxFrame)
  /-- BELL_MARK: R379. -/
  | bellMark (rx : RxFrame)
  /-- LINK_DOWN: R373. -/
  | linkDown (port : Fin 2) (dt : Nat)
  /-- LOOP_END: R375. -/
  | loopEnd (port : Fin 2)
  /-- LINK_DELAY_WRITE: R378. -/
  | linkDelayWrite (src : Src) (port : Fin 2) (value : BitVec 32)
  /-- RQ_DOORBELL: R387. -/
  | rqDoorbell (value : BitVec 32) (dt : Nat)
  /-- HOST_DICT_REQUEST: R387. -/
  | hostDictRequest (cq : Fin 4) (tag : BitVec 32) (dst : BitVec 64) (dstLen : BitVec 32) (req : Request) (dt : Nat)
  /-- HOST_BUFFER_POST: R387. -/
  | hostBufferPost (cq : Fin 4) (channel : Fin 16) (tag : BitVec 32) (addr : BitVec 64) (len : BitVec 32) (dt : Nat)
  /-- HOST_ENABLE: R387. -/
  | hostEnable (value : Bool) (dt : Nat)
  /-- RESET_QUEUES: R392. -/
  | resetQueues (dt : Nat)
  /-- HOST_STATUS_CLEAR: R386. -/
  | hostStatusClear (value : BitVec 32) (dt : Nat)
  /-- CQ_HEAD_WRITE: R390. -/
  | cqHeadWrite (ring : Fin 4) (value : BitVec 32) (dt : Nat)
  /-- MOD_TIMER_EXPIRY: R391. -/
  | modTimerExpiry (ring : Fin 4)
  /-- MSIX_UNMASK: R391: unmask a vector, or enable MSI-X and unmask the function. -/
  | msixUnmask (vector : Option (Fin 32)) (dt : Nat)
  /-- ASPM_L1_ENTRY: R392. -/
  | aspmL1Entry
  /-- HOST_D3HOT_ENTRY: R392. -/
  | hostD3hotEntry (dt : Nat)
  /-- HOST_D0_RETURN: R392. -/
  | hostD0Return (dt : Nat)
  /-- HOST_HOT_RESET: R392. -/
  | hostHotReset (linkDown : Bool) (dt : Nat)
  /-- TDC_FLUSH_EXPIRY: R388. -/
  | tdcFlushExpiry (chan : Fin 8)
  /-- BAR2_READ: R386. -/
  | bar2Read (offset : BitVec 32) (len : Nat) (dt : Nat)
  /-- BAR2_WRITE: R386. -/
  | bar2Write (offset : BitVec 32) (data : List Byte) (dt : Nat)
  /-- ARP_REQUEST: R394. -/
  | arpRequest (ip : BitVec 32) (senderMac : BitVec 48) (senderIp : BitVec 32) (dt : Nat)
  /-- STREAM_RX_DISCARD: R394. -/
  | streamRxDiscard (dt : Nat)
  /-- DATAGRAM_SEND: R396. -/
  | datagramSend (dt : Nat)
  /-- STREAM_LINK_CHANGE: R396. -/
  | streamLinkChange (up : StreamSignal) (dt : Nat)
  /-- IC_PENDING_CLEAR: R412. -/
  | icPendingClear (core : Fin 2) (word : Fin 6) (value : BitVec 32) (dt : Nat)
  /-- IC_ROUTE_WRITE: R416. -/
  | icRouteWrite (core : Fin 2) (word : Fin 24) (value : BitVec 32) (dt : Nat)
  /-- IC_TARGET_WRITE: R413. -/
  | icTargetWrite (core : Fin 2) (target : Fin 4) (value : BitVec 32) (dt : Nat)
  /-- IC_TAKE: R417. -/
  | icTake (core : Fin 2) (target : Fin 2) (dt : Nat)
  /-- IC_SOFT: R411. -/
  | icSoft (core : Fin 2) (value : BitVec 32) (dt : Nat)
  /-- PENDING_CLEAR: R412. -/
  | pendingClear (src : Src) (data : List Byte)
  /-- ROUTES_WRITE: R416. -/
  | routesWrite (src : Src) (data : List Byte)
  /-- TARGET_DISABLE: R413. -/
  | targetDisable (src : Src) (value : BitVec 8)
  /-- MTIME_LO_READ: R405. -/
  | mtimeLoRead (core : Fin 2) (dt : Nat)
  /-- MTIME_COMPARE: R405. -/
  | mtimeCompare (core : Fin 2)
  /-- APP_CORE_HOLD: R410. -/
  | appCoreHold (src : Src)
  /-- APP_CORE_RELEASE: R410. -/
  | appCoreRelease (src : Src)
  /-- APP_CORE_LOAD_DONE: R410. -/
  | appCoreLoadDone (dt : Nat)
  /-- WATCHDOG_EXPIRY: R494. -/
  | watchdogExpiry (dt : Nat)
  /-- POWER_EVALUATION: R424. -/
  | powerEvaluation
  /-- WEIGHT_EVALUATION: R425. -/
  | weightEvaluation
  /-- FADE_EVALUATION: R426. -/
  | fadeEvaluation
  /-- THERMAL_CAUSE_CLEAR: R428. -/
  | thermalCauseClear
  /-- HOLDOVER_LIMIT_EXPIRY: R429. -/
  | holdoverLimitExpiry
  /-- LEVEL_DWELL_RETURN: R434. -/
  | levelDwellReturn
  /-- LEVEL_RETURN: R433. -/
  | levelReturn (src : Src)
  /-- LIFECYCLE_ADVANCE: R438. -/
  | lifecycleAdvance (src : Src) (value : BitVec 8)
  /-- KEY_PROGRAM: R441. -/
  | keyProgram (src : Src) (data : List Byte)
  /-- KEY_REVOKE: R441. -/
  | keyRevoke (src : Src) (value : BitVec 8)
  /-- NONCE: R442: a read of 6020 + ini .01. -/
  | nonce (src : Src) (ini : Fin 3)
  /-- SESSION_OPEN: R442. -/
  | sessionOpen (src : Src) (ini : Fin 3) (data : List Byte)
  /-- SESSION_CLOSE: R443. -/
  | sessionClose (src : Src) (ini : Fin 3)
  /-- SESSION_IDLE_EXPIRY: R443. -/
  | sessionIdleExpiry (ini : Fin 3)
  /-- LOCKOUT_EXPIRY: R444. -/
  | lockoutExpiry (ini : Fin 3)
  /-- WINDOW_WRITE: R447. -/
  | windowWrite (src : Src) (window : Fin 3) (data : List Byte)
  /-- WINDOW_CHANGE: R447. -/
  | windowChange (window : Fin 3)
  /-- DEBUG_REQUEST: R449; bit k of `stuck`: key register k does not read back zero on an entry into Scan. -/
  | debugRequest (src : Src) (value : BitVec 8) (stuck : BitVec 2)
  /-- POWER_REQUEST_RUN: R452. -/
  | powerRequestRun (src : Src)
  /-- POWER_REQUEST_WATCH: R452. -/
  | powerRequestWatch (src : Src)
  /-- POWER_REQUEST_STANDBY: R452. -/
  | powerRequestStandby (src : Src)
  /-- POWER_REQUEST_SHUTDOWN: R495. -/
  | powerRequestShutdown (src : Src)
  /-- POWER_TRANSITION_DONE: R452. -/
  | powerTransitionDone (dt : Nat)
  /-- SHUTDOWN_COMPLETE: R495. -/
  | shutdownComplete (bist : BistResult) (dt : Nat)
  /-- SUPPLY_WARNING: R455. -/
  | supplyWarning (rail : Fin 3) (dt : Nat)
  /-- BRACE_END: R456: lowest voltage (mV) and time below warning + 20 mV (ns) of each rail. -/
  | braceEnd (minima : Vector (BitVec 16) 3) (durations : Vector (BitVec 32) 3) (dt : Nat)
  /-- SUPPLY_RESET: R457. -/
  | supplyReset (rail : Fin 3) (dt : Nat)
  /-- BB_RECORD_WRITE: R467. -/
  | bbRecordWrite (readsBack : ReadBack) (dt : Nat)
  /-- IN_SERVICE_SLICE: R481, one slice of the target in turn; `passEnds` says that it is the last slice of that target, and so of the pass where the target is the last one. -/
  | inServiceSlice (fault : Option CellFault) (passEnds : Bool)
  /-- RESET_ASSERT: R485: RESET_N goes low for `low` ns. -/
  | resetAssert (low : Nat) (dt : Nat)
  /-- TAP_RESET: R485. -/
  | tapReset
  /-- DEVICE_START: R488. -/
  | deviceStart (facts : StartFacts)
  /-- START_BELLS_STEP: R491. -/
  | startBellsStep
  /-- IDCODE: R501. -/
  | tapIdcode
  /-- BYPASS: R501. -/
  | tapBypass
  /-- SAMPLE_PRELOAD: R501. -/
  | tapSamplePreload
  /-- EXTEST: R501. -/
  | tapExtest
  /-- CLAMP: R501. -/
  | tapClamp
  /-- HIGHZ: R501. -/
  | tapHighz
  /-- DTMCS: R501. -/
  | tapDtmcs
  /-- DMI: R501. -/
  | tapDmi
  /-- ENG_DEBUG: R170. -/
  | tapEngDebug
  /-- SCAN_CHAIN: R501. -/
  | tapScanChain (p : Fin 8)
  /-- REGISTER_WRITE: R7. -/
  | registerWrite (reg : RegWrite) (dt : Nat)
  /-- RING_LINK_UP: R375. -/
  | ringLinkUp (port : Fin 2) (dt : Nat)
  /-- HOST_LINK_UP: R397. -/
  | hostLinkUp (speed : BitVec 2) (width : BitVec 3) (dt : Nat)
  /-- FETCH_COMPLETION_TIMEOUT: R393: the fetch of the entry itself (none), or of the request record that a fetched entry names. -/
  | fetchCompletionTimeout (head : Option EntryHead) (dt : Nat)
  /-- FETCH_COMPLETION_ERROR: R393. -/
  | fetchCompletionError (head : Option EntryHead) (poisoned : Bool) (dt : Nat)
  /-- MALFORMED_REQUEST_ENTRY: R393. -/
  | malformedRequestEntry (head : EntryHead) (dt : Nat)
  deriving DecidableEq, Repr

end Sys2Proof
end

