-- ==== Sys2Proof/Config.lean ====
section
/-!
DEFINITION. Config.lean: what one unit's fuses and firmware fix, and the free values the manual leaves open.
Every constant here is opaque: nothing in Lean can evaluate it, so a theorem holds whatever it is.
-/

namespace Sys2Proof

/-- A fresh free value: the n-th one drawn (`State.free` counts them).  Log entry 3. -/
opaque Config.freeNat : Nat → Nat

/-- UNIT_ID of R357, set in the fuses.  Log entry 4. -/
opaque Config.unitId : BitVec 64

/-- SILICON_STEP of R357, set in the fuses.  Log entry 4. -/
opaque Config.siliconStep : BitVec 8

/-- The Calweyr manufacturer identity held in fuses (R502).  Log entry 4. -/
opaque Config.manufacturer : BitVec 11

/-- BOOT_ROM_VERSION of R357.  Log entry 4. -/
opaque Config.bootRomVersion : BitVec 32

/-- Hash of the Calweyr key that the boot ROM holds (R408).  Log entry 4. -/
opaque Config.calweyrKeyHash : List Byte

/-- The droop compensator's coefficient pairs 0 to 14 of a mode, in units of 2^-24, where they are flat across the passband: the manual
says that of them and not what they are (R116).  Log entry 8. -/
opaque Config.compTap : Nat → Nat → Int

/-- Which whole sample beside the 15.5 of the droop compensator's group delay a mode's output is lined up with, 15 if even and 16 if odd
(R116).  Log entry 8. -/
opaque Config.compLead : Nat → Nat

/-- The CORDIC's error for a non-zero product, of which R124 gives only the bound of 1 LSB.  Log entry 8. -/
opaque Config.phaseError : Int → Int → Nat

/-- The error of the phase unit's magnitude, of which R125 gives only the bound of 1 part in 2^14. Log entry 8. -/
opaque Config.magnitudeError : Int → Int → Nat

/-- Which of two results of one slot that land in one register in one cycle is kept: R149 orders slots only.  By engine
and cycle.  Log entry 11. -/
opaque Config.laterKept : Nat → Nat → Bool

/-- The signature of logic-BIST partition p that the boot ROM holds (R476).  Log entry 4. -/
opaque Config.bistSignature : Nat → BitVec 32

end Sys2Proof
end

