-- ==== Sys2Proof/Machine/Bytes.lean ====
section
/-!
DEFINITION. Machine/Bytes.lean: little-endian encodings (R334), two's complement, the CRC-32 of IEEE 802.3 that records,
images and report cards carry (R207, R407, R462, R477), and small numeric helpers.
-/

namespace Sys2Proof.Machine

/-- The low `n` bytes of `v`, little-endian (R334). -/
def leBytes : Nat → Nat → List Byte
  | 0, _ => []
  | n + 1, v => BitVec.ofNat 8 v :: leBytes n (v / 256)

/-- The low `n` bytes of a number, big-endian. -/
def beBytes (n v : Nat) : List Byte := (leBytes n v).reverse

/-- The number that little-endian bytes encode. -/
def leNat : List Byte → Nat
  | [] => 0
  | b :: bs => b.toNat + 256 * leNat bs

/-- Two's complement reading of a `w`-bit number. -/
def toSigned (w v : Nat) : Int := if v < 2 ^ (w - 1) then (v : Int) else (v : Int) - (2 ^ w : Nat)

/-- Two's complement encoding of `v` in `w` bits. -/
def ofSigned (w : Nat) (v : Int) : Nat := (v % (2 ^ w : Nat)).toNat

/-- `n` bytes from offset `o` of a block; bytes beyond its end read 0. -/
def slice (o n : Nat) (b : List Byte) : List Byte :=
  let x := (b.drop o).take n
  x ++ List.replicate (n - x.length) 0

/-- The little-endian number in `n` bytes at offset `o` of a block. -/
def fieldAt (o n : Nat) (b : List Byte) : Nat := leNat (slice o n b)

/-- Block `b` with the bytes `x` written at offset `o`, extended with 0 as needed. -/
def overlay (o : Nat) (x b : List Byte) : List Byte :=
  slice 0 o b ++ x ++ b.drop (o + x.length)

/-- `n` bytes of 0. -/
def zeros (n : Nat) : List Byte := List.replicate n 0

/-- One bit step of the reflected CRC-32. -/
def crcBit (c : Nat) : Nat := if c % 2 = 1 then (c / 2) ^^^ 0xEDB88320 else c / 2

/-- One byte step of the reflected CRC-32. -/
def crcByte (c : Nat) (b : Byte) : Nat :=
  crcBit (crcBit (crcBit (crcBit (crcBit (crcBit (crcBit (crcBit (c ^^^ b.toNat))))))))

/-- The CRC-32 of IEEE 802.3. -/
def crc32 (b : List Byte) : Nat := (b.foldl crcByte 0xFFFFFFFF) ^^^ 0xFFFFFFFF

/-- `x` limited to `lo` to `hi`. -/
def clampInt (lo hi x : Int) : Int := if x < lo then lo else if hi < x then hi else x

/-- Bit `i` of a number. -/
def bitOf (v i : Nat) : Bool := v / 2 ^ i % 2 = 1

/-- A Boolean as 0 or 1. -/
def b2n (b : Bool) : Nat := if b then 1 else 0

/-- The number whose bit `i` is `f i`, for `i` below `n`. -/
def bitsOf (f : Nat → Bool) : Nat → Nat
  | 0 => 0
  | n + 1 => bitsOf f n + (if f n then 2 ^ n else 0)

/-- Division rounded to the nearest integer, halves away from zero. -/
def roundDiv (x : Int) (d : Nat) : Int :=
  if x < 0 then -((((-x) * 2 + d) / (2 * d)) : Int) else (x * 2 + d) / (2 * d)

/-- UTF-8 validity of a byte string (R334: a STR is UTF-8). -/
def utf8Ok : Nat → List Byte → Bool
  | 0, _ => false
  | _, [] => true
  | n + 1, a :: rest =>
    let cont (b : Byte) : Bool := 0x80 ≤ b.toNat && b.toNat < 0xC0
    let v := a.toNat
    if v < 0x80 then utf8Ok n rest
    else if 0xC2 ≤ v && v < 0xE0 then
      match rest with
      | b :: r => cont b && utf8Ok n r
      | [] => false
    else if 0xE0 ≤ v && v < 0xF0 then
      match rest with
      | b :: c :: r => cont b && cont c && (v ≠ 0xE0 || 0xA0 ≤ b.toNat) && (v ≠ 0xED || b.toNat < 0xA0) && utf8Ok n r
      | _ => false
    else if 0xF0 ≤ v && v < 0xF5 then
      match rest with
      | b :: c :: d :: r =>
        cont b && cont c && cont d && (v ≠ 0xF0 || 0x90 ≤ b.toNat) && (v ≠ 0xF4 || b.toNat < 0x90) && utf8Ok n r
      | _ => false
    else false

end Sys2Proof.Machine
end

