-- ==== Sys2Proof/Machine/Keys.lean ====
section
/-!
DEFINITION. Machine/Keys.lean: the dictionary keys by the names of the entry tables (R60 to R62, R81 to R83, R103 to
R105, R137 to R140, R173, R174, R232, R233, R259 to R261, R267, R276, R297 to R300, R330 to R332, R357 to R360, R382,
R383, R397, R398, R421, R437, R450, R460, R461, R483, R484, R493).  A key is index * 256 + sub-index (R333); the entries
of an indexed table take the index offset, those of a numbered run of sub-indices the sub-index offset.
-/

namespace Sys2Proof.Machine.K

/-- VENDOR. -/
abbrev vendor : Key := 0x1000_01
/-- PRODUCT. -/
abbrev product : Key := 0x1000_02
/-- SILICON_STEP. -/
abbrev siliconStep : Key := 0x1000_03
/-- UNIT_ID. -/
abbrev unitId : Key := 0x1000_04
/-- LIFECYCLE. -/
abbrev lifecycle : Key := 0x1000_05
/-- BOOT_ROM_VERSION. -/
abbrev bootRomVersion : Key := 0x1000_06
/-- CONTROL_FW_VERSION. -/
abbrev controlFwVersion : Key := 0x1000_07
/-- APP_FW_VERSION. -/
abbrev appFwVersion : Key := 0x1000_08
/-- DICT_FORMAT. -/
abbrev dictFormat : Key := 0x1000_09
/-- DEVICE_NAME. -/
abbrev deviceName : Key := 0x1000_0a
/-- STATUS_NOW. -/
abbrev statusNow : Key := 0x1100_01
/-- STATUS_LATCH. -/
abbrev statusLatch : Key := 0x1100_02
/-- LATCH_CLEAR. -/
abbrev latchClear : Key := 0x1100_03
/-- CSN_LAST. -/
abbrev csnLast : Key := 0x1100_04
/-- CSN_IN_EFFECT. -/
abbrev csnInEffect : Key := 0x1100_05
/-- REQUESTS_SERVED. -/
abbrev requestsServed : Key := 0x1100_06
/-- REFUSALS. -/
abbrev refusals : Key := 0x1100_07
/-- LAST_REFUSAL. -/
abbrev lastRefusal : Key := 0x1100_08
/-- BELL_PERIOD. -/
abbrev bellPeriod : Key := 0x2000_01
/-- SPATIAL_MODE. -/
abbrev spatialMode : Key := 0x2000_02
/-- PHASE_POINTS. -/
abbrev phasePoints : Key := 0x2000_03
/-- BELL_RUN. -/
abbrev bellRun : Key := 0x2000_04
/-- BELL_START_TIME. -/
abbrev bellStartTime : Key := 0x2000_05
/-- BELL_NUMBER_NEXT. -/
abbrev bellNumberNext : Key := 0x2000_06
/-- BELL_STATE. -/
abbrev bellState : Key := 0x2000_07
/-- BELL_MARK. -/
abbrev bellMark : Key := 0x2000_08
/-- MIN_BELL_PERIOD. -/
abbrev minBellPeriod : Key := 0x2000_09
/-- TIME_SOURCE. -/
abbrev timeSource : Key := 0x2100_01
/-- DEVICE_TIME. -/
abbrev deviceTime : Key := 0x2100_02
/-- TIME_STATE. -/
abbrev timeState : Key := 0x2100_03
/-- TIME_OFFSET. -/
abbrev timeOffset : Key := 0x2100_04
/-- FREQ_TRIM. -/
abbrev freqTrim : Key := 0x2100_05
/-- SLEW_LIMIT. -/
abbrev slewLimit : Key := 0x2100_06
/-- PPS_NEXT_SECOND. -/
abbrev ppsNextSecond : Key := 0x2100_07
/-- PPS_DELAY. -/
abbrev ppsDelay : Key := 0x2100_08
/-- REF_STATE. -/
abbrev refState : Key := 0x2100_09
/-- HOLDOVER_COUNT. -/
abbrev holdoverCount : Key := 0x2100_0a
/-- TDC_ENABLE. -/
abbrev tdcEnable : Key := 0x2200_01
/-- LAUNCH_DELAY. -/
abbrev launchDelay : Key := 0x2200_02
/-- RECEIVE_PATH_DELAY. -/
abbrev receivePathDelay : Key := 0x2200_03
/-- FINE_CAL_PERIOD. -/
abbrev fineCalPeriod : Key := 0x2200_04
/-- LAUNCH_NOMINAL. -/
abbrev launchNominal : Key := 0x2200_05
/-- THRESHOLD. -/
abbrev threshold (i : Nat) : Key := 0x2210_01 + i * 256
/-- SLOPE. -/
abbrev slope (i : Nat) : Key := 0x2210_02 + i * 256
/-- OWNER. -/
abbrev owner (i : Nat) : Key := 0x2210_03 + i * 256
/-- WATERMARK. -/
abbrev watermark (i : Nat) : Key := 0x2210_04 + i * 256
/-- STAMP_COUNT. -/
abbrev stampCount (i : Nat) : Key := 0x2210_05 + i * 256
/-- LOST_COUNT. -/
abbrev lostCount (i : Nat) : Key := 0x2210_06 + i * 256
/-- CLOSE_COUNT. -/
abbrev closeCount (i : Nat) : Key := 0x2210_07 + i * 256
/-- SEQ_LENGTH. -/
abbrev seqLength : Key := 0x2400_01
/-- CROSSFADE_BELLS. -/
abbrev crossfadeBells : Key := 0x2400_02
/-- DAC_ENABLE. -/
abbrev dacEnable : Key := 0x2400_03
/-- DAC_FULL_SCALE. -/
abbrev dacFullScale : Key := 0x2400_04
/-- IQ_GAIN. -/
abbrev iqGain : Key := 0x2400_05
/-- IQ_PHASE. -/
abbrev iqPhase : Key := 0x2400_06
/-- OFFSET_I. -/
abbrev offsetI : Key := 0x2400_07
/-- OFFSET_Q. -/
abbrev offsetQ : Key := 0x2400_08
/-- GATE_LEAD. -/
abbrev gateLead : Key := 0x2400_09
/-- GATE_LAG. -/
abbrev gateLag : Key := 0x2400_0a
/-- GATE_POLARITY. -/
abbrev gatePolarity : Key := 0x2400_0b
/-- SEQ_POSITION. -/
abbrev seqPosition : Key := 0x2400_0c
/-- PATTERN_IN_EFFECT. -/
abbrev patternInEffect : Key := 0x2400_0d
/-- SETTLING_REMAIN. -/
abbrev settlingRemain : Key := 0x2400_0e
/-- EXC_REFUSAL. -/
abbrev excRefusal : Key := 0x2400_0f
/-- DAC_CLIP_COUNT. -/
abbrev dacClipCount : Key := 0x2400_11
/-- SEQ_ENTRY. -/
abbrev seqEntry (k : Nat) : Key := 0x2402_01 + k
/-- BANDS. -/
abbrev bands (i : Nat) : Key := 0x2410_01 + i * 256
/-- GATE_MASK. -/
abbrev gateMask (i : Nat) : Key := 0x2410_02 + i * 256
/-- SUBPULSE_ENABLE. -/
abbrev subpulseEnable (i : Nat) : Key := 0x2410_03 + i * 256
/-- START. -/
abbrev pulseStart (i : Nat) (j : Nat) : Key := 0x2410_10 + i * 256 + j * 16
/-- WIDTH. -/
abbrev pulseWidth (i : Nat) (j : Nat) : Key := 0x2410_11 + i * 256 + j * 16
/-- FREQ. -/
abbrev pulseFreq (i : Nat) (j : Nat) : Key := 0x2410_12 + i * 256 + j * 16
/-- CHIRP. -/
abbrev pulseChirp (i : Nat) (j : Nat) : Key := 0x2410_13 + i * 256 + j * 16
/-- AMPLITUDE. -/
abbrev pulseAmplitude (i : Nat) (j : Nat) : Key := 0x2410_14 + i * 256 + j * 16
/-- START_PHASE. -/
abbrev pulsePhase (i : Nat) (j : Nat) : Key := 0x2410_15 + i * 256 + j * 16
/-- DRIVE_ENABLE. -/
abbrev driveEnable : Key := 0x2500_01
/-- GLOBAL_SCALE. -/
abbrev globalScale : Key := 0x2500_02
/-- PROVE_PERIOD. -/
abbrev provePeriod : Key := 0x2500_03
/-- INTERLOCK_STATE. -/
abbrev interlockState : Key := 0x2500_04
/-- INTERLOCK_COUNT. -/
abbrev interlockCount : Key := 0x2500_05
/-- SINK_POWER. -/
abbrev sinkPower : Key := 0x2500_06
/-- CAP_SCALE. -/
abbrev capScale : Key := 0x2500_07
/-- FAULT_SUMMARY. -/
abbrev faultSummary : Key := 0x2500_08
/-- FAULT_CLEAR. -/
abbrev faultClear : Key := 0x2500_09
/-- MODE. -/
abbrev mode (i : Nat) : Key := 0x2510_01 + i * 256
/-- PASS. -/
abbrev pass (i : Nat) : Key := 0x2510_02 + i * 256
/-- LINE_SET. -/
abbrev lineSet (i : Nat) : Key := 0x2510_03 + i * 256
/-- SHUNT_MOHM. -/
abbrev shuntMohm (i : Nat) : Key := 0x2510_04 + i * 256
/-- PWM_BITS. -/
abbrev pwmBits (i : Nat) : Key := 0x2510_05 + i * 256
/-- PWM_DUTY. -/
abbrev pwmDuty (i : Nat) : Key := 0x2510_06 + i * 256
/-- PWM_SYNC. -/
abbrev pwmSync (i : Nat) : Key := 0x2510_07 + i * 256
/-- GATE_DELAY. -/
abbrev gateDelay (i : Nat) : Key := 0x2510_08 + i * 256
/-- GATE_WIDTH. -/
abbrev gateWidth (i : Nat) : Key := 0x2510_09 + i * 256
/-- SHORT_THRESHOLD. -/
abbrev shortThreshold (i : Nat) : Key := 0x2510_0a + i * 256
/-- DARK_CHECK. -/
abbrev darkCheck (i : Nat) : Key := 0x2510_0b + i * 256
/-- COMP_INPUT. -/
abbrev compInput (i : Nat) : Key := 0x2510_0c + i * 256
/-- SAFE_SET. -/
abbrev safeSet (i : Nat) : Key := 0x2510_0d + i * 256
/-- LINE_STATUS. -/
abbrev lineStatus (i : Nat) : Key := 0x2510_0e + i * 256
/-- LINE_CURRENT. -/
abbrev lineCurrent (i : Nat) : Key := 0x2510_0f + i * 256
/-- PIN_VOLTAGE. -/
abbrev pinVoltage (i : Nat) : Key := 0x2510_10 + i * 256
/-- FAULT_COUNT. -/
abbrev faultCount (i : Nat) : Key := 0x2510_11 + i * 256
/-- COMP_CURRENT. -/
abbrev compC (i : Nat) (k : Nat) : Key := 0x2520_01 + i * 256 + k
/-- COMP_FACTOR. -/
abbrev compF (i : Nat) (k : Nat) : Key := 0x2520_11 + i * 256 + k
/-- OFFSET_TRACK. -/
abbrev offsetTrack : Key := 0x2800_01
/-- OFFSET_TC. -/
abbrev offsetTc : Key := 0x2800_02
/-- MF_SHIFT. -/
abbrev mfShift : Key := 0x2800_03
/-- MAG_SHIFT. -/
abbrev magShift : Key := 0x2800_04
/-- CAL_RUN. -/
abbrev calRun : Key := 0x2800_05
/-- CAL_STATE. -/
abbrev calState : Key := 0x2800_06
/-- SAT_SUMMARY. -/
abbrev satSummary : Key := 0x2800_07
/-- MF_SAT_COUNT. -/
abbrev mfSatCount : Key := 0x2800_08
/-- NCO_WORD. -/
abbrev ncoWord (k : Nat) : Key := 0x2800_09 + k
/-- GAUGE_SPACINGS. -/
abbrev gaugeSpacings : Key := 0x2800_20
/-- OFFSET_EST. -/
abbrev offsetEst (i : Nat) : Key := 0x2801_01 + i * 256
/-- OFFSET_MANUAL. -/
abbrev offsetManual (i : Nat) : Key := 0x2801_02 + i * 256
/-- GAIN_TRIM. -/
abbrev gainTrim (i : Nat) : Key := 0x2801_03 + i * 256
/-- SKEW_TRIM. -/
abbrev skewTrim (i : Nat) : Key := 0x2801_04 + i * 256
/-- CAL_GAIN. -/
abbrev calGain (i : Nat) : Key := 0x2801_05 + i * 256
/-- CLIP_COUNT. -/
abbrev clipCount (i : Nat) : Key := 0x2801_06 + i * 256
/-- RXIQ_GAIN. -/
abbrev rxiqGain (i : Nat) : Key := 0x2808_01 + i * 256
/-- RXIQ_PHASE. -/
abbrev rxiqPhase (i : Nat) : Key := 0x2808_02 + i * 256
/-- COEF_SET. -/
abbrev coefSet (i : Nat) : Key := 0x2810_01 + i * 256
/-- COEF_FADE_REMAIN. -/
abbrev coefFadeRemain (i : Nat) : Key := 0x2810_02 + i * 256
/-- CAP_POINT. -/
abbrev capPoint : Key := 0x2820_01
/-- CAP_BAND. -/
abbrev capBand : Key := 0x2820_02
/-- CAP_BELL. -/
abbrev capBell : Key := 0x2820_03
/-- CAP_OFFSET. -/
abbrev capOffset : Key := 0x2820_04
/-- CAP_LENGTH. -/
abbrev capLength : Key := 0x2820_05
/-- CAP_ARM. -/
abbrev capArm : Key := 0x2820_06
/-- CAP_STATE. -/
abbrev capState : Key := 0x2820_07
/-- CAP_DATA. -/
abbrev capData : Key := 0x2820_08
/-- RAMAN_ENABLE. -/
abbrev ramanEnable : Key := 0x2900_01
/-- RAMAN_DELAY. -/
abbrev ramanDelay : Key := 0x2900_02
/-- AVG_BELLS. -/
abbrev avgBells : Key := 0x2900_03
/-- RAMAN_LINE. -/
abbrev ramanLine : Key := 0x2900_04
/-- AVG_STATE. -/
abbrev avgState : Key := 0x2900_05
/-- BLOCK_SEQ. -/
abbrev blockSeq : Key := 0x2900_06
/-- RAMAN_CLIP_AS. -/
abbrev ramanClipAs : Key := 0x2900_07
/-- RAMAN_CLIP_S. -/
abbrev ramanClipS : Key := 0x2900_08
/-- LAST_BLOCK. -/
abbrev lastBlock : Key := 0x2900_09
/-- UPDATE_PERIOD. -/
abbrev updatePeriod : Key := 0x2900_10
/-- CAL_MODE. -/
abbrev calMode : Key := 0x2900_11
/-- GAMMA. -/
abbrev gamma : Key := 0x2900_12
/-- DIFF_ATTEN. -/
abbrev diffAtten : Key := 0x2900_13
/-- COIL1_FIRST. -/
abbrev coil1First : Key := 0x2900_14
/-- COIL1_COUNT. -/
abbrev coil1Count : Key := 0x2900_15
/-- COIL1_SENSOR. -/
abbrev coil1Sensor : Key := 0x2900_16
/-- COIL2_FIRST. -/
abbrev coil2First : Key := 0x2900_17
/-- COIL2_COUNT. -/
abbrev coil2Count : Key := 0x2900_18
/-- COIL2_SENSOR. -/
abbrev coil2Sensor : Key := 0x2900_19
/-- CAL_RESET. -/
abbrev calReset : Key := 0x2900_1a
/-- CAL_STATE. -/
abbrev dtsCalState : Key := 0x2900_1b
/-- CAL_OFFSET. -/
abbrev calOffset : Key := 0x2900_1c
/-- CAL_GAMMA. -/
abbrev calGamma : Key := 0x2900_1d
/-- CAL_DIFF_ATTEN. -/
abbrev calDiffAtten : Key := 0x2900_1e
/-- PROFILE_STATE. -/
abbrev profileState : Key := 0x2900_20
/-- PROFILE_SEQ. -/
abbrev profileSeq : Key := 0x2900_21
/-- LAST_PROFILE. -/
abbrev lastProfile : Key := 0x2900_22
/-- TRACE_END_ENABLE. -/
abbrev traceEndEnable : Key := 0x2900_30
/-- END_LEVEL. -/
abbrev endLevel : Key := 0x2900_31
/-- TRACE_END_REF. -/
abbrev traceEndRef : Key := 0x2900_32
/-- TRACE_END_LEARN. -/
abbrev traceEndLearn : Key := 0x2900_33
/-- TRACE_END. -/
abbrev traceEnd : Key := 0x2900_34
/-- TRACE_END_POINT. -/
abbrev traceEndPoint : Key := 0x2900_35
/-- BREAK_STATE. -/
abbrev breakState : Key := 0x2900_36
/-- BREAK_COUNT. -/
abbrev breakCount : Key := 0x2900_37
/-- LAST_BREAK. -/
abbrev lastBreak : Key := 0x2900_38
/-- ARRAY_STATE. -/
abbrev arrayState : Key := 0x3000_01
/-- ENGINES_IN_SERVICE. -/
abbrev enginesInService : Key := 0x3000_02
/-- SPARE_MAP. -/
abbrev spareMap : Key := 0x3000_03
/-- CLASSROOM_MAP. -/
abbrev classroomMap : Key := 0x3000_04
/-- REPLAY_TOTAL. -/
abbrev replayTotal : Key := 0x3000_05
/-- POISONED_POINTS. -/
abbrev poisonedPoints : Key := 0x3000_06
/-- STATE_POISON_COUNT. -/
abbrev statePoisonCount : Key := 0x3000_07
/-- FAULT_INJECT. -/
abbrev faultInject : Key := 0x3000_08
/-- TT_SOURCE. -/
abbrev ttSource : Key := 0x3000_10
/-- TT_IMAGE. -/
abbrev ttImage : Key := 0x3000_11
/-- TT_LOAD. -/
abbrev ttLoad : Key := 0x3000_12
/-- TT_LOAD_STATE. -/
abbrev ttLoadState : Key := 0x3000_13
/-- TT_ERROR. -/
abbrev ttError : Key := 0x3000_14
/-- TT_ACTIVE_SLOT. -/
abbrev ttActiveSlot : Key := 0x3000_15
/-- TT_SLOT0_ID. -/
abbrev ttSlot0Id : Key := 0x3000_16
/-- TT_SLOT1_ID. -/
abbrev ttSlot1Id : Key := 0x3000_17
/-- VARIANT_IN_EFFECT. -/
abbrev variantInEffect : Key := 0x3000_18
/-- VARIANT_FORCE. -/
abbrev variantForce : Key := 0x3000_19
/-- BUDGET_CYCLES. -/
abbrev budgetCycles : Key := 0x3000_1a
/-- OVERRUN_COUNT. -/
abbrev overrunCount : Key := 0x3000_1b
/-- COMPLIANCE_FAULTS. -/
abbrev complianceFaults : Key := 0x3000_1c
/-- PREFETCH_LATE. -/
abbrev prefetchLate : Key := 0x3000_1d
/-- SWITCH_COUNT. -/
abbrev switchCount : Key := 0x3000_1e
/-- SWITCH_STATE. -/
abbrev switchState : Key := 0x3000_1f
/-- FIT_CODE. -/
abbrev fitCode : Key := 0x3000_20
/-- ENGINE_STATE. -/
abbrev engineState (i : Nat) : Key := 0x3020_01 + i * 256
/-- PARITY_EVENTS. -/
abbrev parityEvents (i : Nat) : Key := 0x3020_02 + i * 256
/-- REPLAYS. -/
abbrev replays (i : Nat) : Key := 0x3020_03 + i * 256
/-- HARD_WORDS. -/
abbrev hardWords (i : Nat) : Key := 0x3020_04 + i * 256
/-- LAST_FAULT. -/
abbrev lastFault (i : Nat) : Key := 0x3020_05 + i * 256
/-- PEAK_CYCLES. -/
abbrev peakCycles (i : Nat) : Key := 0x3020_06 + i * 256
/-- SCHEDULE_FAULTS. -/
abbrev scheduleFaults (i : Nat) : Key := 0x3020_07 + i * 256
/-- PRESENT. -/
abbrev present (i : Nat) : Key := 0x3040_01 + i * 256
/-- FITS. -/
abbrev fits (i : Nat) : Key := 0x3040_02 + i * 256
/-- LESSON_MAX. -/
abbrev lessonMax (i : Nat) : Key := 0x3040_03 + i * 256
/-- SEGMENT_MAX. -/
abbrev segmentMax (i : Nat) : Key := 0x3040_04 + i * 256
/-- MIN_BELL. -/
abbrev minBell (i : Nat) : Key := 0x3040_05 + i * 256
/-- LOAD_TIME. -/
abbrev loadTime (i : Nat) : Key := 0x3040_06 + i * 256
/-- PREFETCH_MAX. -/
abbrev prefetchMax (i : Nat) : Key := 0x3040_07 + i * 256
/-- LEVEL. -/
abbrev level (i : Nat) : Key := 0x3040_08 + i * 256
/-- DETECT_ENABLE. -/
abbrev detectEnable : Key := 0x3800_01
/-- TRIGGER_COUNT. -/
abbrev triggerCount : Key := 0x3800_02
/-- TRIGGER_QUEUED. -/
abbrev triggerQueued : Key := 0x3800_03
/-- TRIGGER_NEXT. -/
abbrev triggerNext : Key := 0x3800_04
/-- TRIGGER_LOST. -/
abbrev triggerLost : Key := 0x3800_05
/-- TRIGGER_WATERMARK. -/
abbrev triggerWatermark : Key := 0x3800_06
/-- SUPPRESSED_COUNT. -/
abbrev suppressedCount : Key := 0x3800_07
/-- STATS_MISSING. -/
abbrev statsMissing : Key := 0x3800_08
/-- MANUAL_TRIGGER. -/
abbrev manualTrigger : Key := 0x3800_09
/-- DETECT_REFUSAL. -/
abbrev detectRefusal : Key := 0x3800_0a
/-- ZONES_SUSPENDED. -/
abbrev zonesSuspended : Key := 0x3800_0b
/-- ZONE_BLOCK. -/
abbrev zoneBlock (i : Nat) : Key := 0x3810_01 + i * 256
/-- DETECTOR_BLOCK. -/
abbrev detectorBlock (i : Nat) : Key := 0x3850_01 + i * 256
/-- GRANARY_BYTES. -/
abbrev granaryBytes : Key := 0x3900_01
/-- GRANARY_SLOTS. -/
abbrev granarySlots : Key := 0x3900_02
/-- SLOT_BYTES. -/
abbrev slotBytes : Key := 0x3900_03
/-- GRANARY_FIRST_BELL. -/
abbrev granaryFirstBell : Key := 0x3900_04
/-- LAST_HEADER. -/
abbrev lastHeader : Key := 0x3900_05
/-- HARVEST_AREA_BYTES. -/
abbrev harvestAreaBytes : Key := 0x3900_06
/-- HARVESTS_HELD. -/
abbrev harvestsHeld : Key := 0x3900_07
/-- HARVEST_NEXT. -/
abbrev harvestNext : Key := 0x3900_08
/-- HARVEST_RELEASE. -/
abbrev harvestRelease : Key := 0x3900_09
/-- HARVEST_COUNT. -/
abbrev harvestCount : Key := 0x3900_0a
/-- HARVEST_DROPPED. -/
abbrev harvestDropped : Key := 0x3900_0b
/-- HARVEST_FORMING. -/
abbrev harvestForming : Key := 0x3900_0c
/-- STREAMS_SERVED. -/
abbrev streamsServed : Key := 0x3a00_01
/-- STREAM_ENABLE. -/
abbrev streamEnable (i : Nat) : Key := 0x3a10_01 + i * 256
/-- STREAM_KIND. -/
abbrev streamKind (i : Nat) : Key := 0x3a10_02 + i * 256
/-- POINT_FIRST. -/
abbrev pointFirst (i : Nat) : Key := 0x3a10_03 + i * 256
/-- POINT_COUNT. -/
abbrev pointCount (i : Nat) : Key := 0x3a10_04 + i * 256
/-- SPATIAL_DECIM. -/
abbrev spatialDecim (i : Nat) : Key := 0x3a10_05 + i * 256
/-- TEMPORAL_DECIM. -/
abbrev temporalDecim (i : Nat) : Key := 0x3a10_06 + i * 256
/-- ROUTE. -/
abbrev route (i : Nat) : Key := 0x3a10_07 + i * 256
/-- STREAM_STATE. -/
abbrev streamState (i : Nat) : Key := 0x3a10_08 + i * 256
/-- RECORD_BYTES. -/
abbrev recordBytes (i : Nat) : Key := 0x3a10_09 + i * 256
/-- RECORDS_RELEASED. -/
abbrev recordsReleased (i : Nat) : Key := 0x3a10_0a + i * 256
/-- RECORDS_LOST. -/
abbrev recordsLost (i : Nat) : Key := 0x3a10_0b + i * 256
/-- HK_MODE. -/
abbrev hkMode : Key := 0x4800_01
/-- TIMER_PERIOD. -/
abbrev timerPeriod : Key := 0x4800_02
/-- PWM_LINE. -/
abbrev pwmLine : Key := 0x4800_03
/-- PWM_DELAY. -/
abbrev pwmDelay : Key := 0x4800_04
/-- SEQ_LENGTH. -/
abbrev hkSeqLength : Key := 0x4800_05
/-- HK_START. -/
abbrev hkStart : Key := 0x4800_06
/-- HK_STATE. -/
abbrev hkState : Key := 0x4800_07
/-- RUN_COUNT. -/
abbrev runCount : Key := 0x4800_08
/-- MISSED_STARTS. -/
abbrev missedStarts : Key := 0x4800_09
/-- HK_CAL_RUN. -/
abbrev hkCalRun : Key := 0x4800_0a
/-- HK_CAL_STATE. -/
abbrev hkCalState : Key := 0x4800_0b
/-- TEST_DAC. -/
abbrev testDac : Key := 0x4800_0c
/-- STICKY_CLEAR. -/
abbrev stickyClear : Key := 0x4800_0d
/-- SLOT. -/
abbrev slot (k : Nat) : Key := 0x4810_01 + k
/-- CODE. -/
abbrev hkCode (i : Nat) : Key := 0x4820_01 + i * 256
/-- CODE_FINE. -/
abbrev hkCodeFine (i : Nat) : Key := 0x4820_02 + i * 256
/-- IN_FLAGS. -/
abbrev hkInFlags (i : Nat) : Key := 0x4820_03 + i * 256
/-- VALUE. -/
abbrev hkValue (i : Nat) : Key := 0x4820_04 + i * 256
/-- LIMIT_LOW. -/
abbrev limitLow (i : Nat) : Key := 0x4820_05 + i * 256
/-- LIMIT_HIGH. -/
abbrev limitHigh (i : Nat) : Key := 0x4820_06 + i * 256
/-- LIMIT_CONSEC. -/
abbrev limitConsec (i : Nat) : Key := 0x4820_07 + i * 256
/-- LIMIT_EVENTS. -/
abbrev limitEvents (i : Nat) : Key := 0x4820_08 + i * 256
/-- TEST_CODE. -/
abbrev testCode (i : Nat) : Key := 0x4820_09 + i * 256
/-- OPEN_COUNT. -/
abbrev openCount (i : Nat) : Key := 0x4820_0a + i * 256
/-- SENS_TYPE. -/
abbrev sensType (i : Nat) : Key := 0x4860_01 + i * 256
/-- EXC_STEP. -/
abbrev excStep (i : Nat) : Key := 0x4860_02 + i * 256
/-- GAIN_STEP. -/
abbrev gainStep (i : Nat) : Key := 0x4860_03 + i * 256
/-- BURNOUT. -/
abbrev burnout (i : Nat) : Key := 0x4860_04 + i * 256
/-- R_NOMINAL. -/
abbrev rNominal (i : Nat) : Key := 0x4860_05 + i * 256
/-- BETA. -/
abbrev beta (i : Nat) : Key := 0x4860_06 + i * 256
/-- LEAD_MOHM. -/
abbrev leadMohm (i : Nat) : Key := 0x4860_07 + i * 256
/-- RESISTANCE. -/
abbrev resistance (i : Nat) : Key := 0x4860_08 + i * 256
/-- TEMPERATURE. -/
abbrev temperature (i : Nat) : Key := 0x4860_09 + i * 256
/-- SENS_FLAGS. -/
abbrev sensFlags (i : Nat) : Key := 0x4860_0a + i * 256
/-- OFFSET_A. -/
abbrev offsetA : Key := 0x4870_01
/-- GAIN_A. -/
abbrev gainA : Key := 0x4870_02
/-- OFFSET_B. -/
abbrev offsetB : Key := 0x4870_03
/-- GAIN_B. -/
abbrev gainB : Key := 0x4870_04
/-- PGA_FACTOR. -/
abbrev pgaFactor (i : Nat) (k : Nat) : Key := 0x4878_01 + i * 256 + k
/-- EXC_FACTOR. -/
abbrev excFactor (i : Nat) (k : Nat) : Key := 0x4878_11 + i * 256 + k
/-- BARN_STATE. -/
abbrev barnState : Key := 0x5400_01
/-- BARN_BYTES. -/
abbrev barnBytes : Key := 0x5400_02
/-- SUP_AREA_BYTES. -/
abbrev supAreaBytes : Key := 0x5400_03
/-- RING_AREA_BYTES. -/
abbrev ringAreaBytes : Key := 0x5400_04
/-- LAYOUT. -/
abbrev layout : Key := 0x5400_05
/-- REFRESH_MODE. -/
abbrev refreshMode : Key := 0x5400_06
/-- REFRESH_DOUBLE. -/
abbrev refreshDouble : Key := 0x5400_07
/-- RECAL_PERIOD. -/
abbrev recalPeriod : Key := 0x5400_08
/-- SCRUB_PERIOD. -/
abbrev scrubPeriod : Key := 0x5400_09
/-- SR_ENTRY_DELAY. -/
abbrev srEntryDelay : Key := 0x5400_0a
/-- SR_CANCEL_COUNT. -/
abbrev srCancelCount : Key := 0x5400_0b
/-- SR_WAKE_COUNT. -/
abbrev srWakeCount : Key := 0x5400_0c
/-- LAST_SR_WAKE. -/
abbrev lastSrWake : Key := 0x5400_0d
/-- SCHED_LATE. -/
abbrev schedLate : Key := 0x5400_0e
/-- SCRUB_PASSES. -/
abbrev scrubPasses : Key := 0x5400_0f
/-- LOG_CLEAR. -/
abbrev logClear : Key := 0x5400_10
/-- MAP_STATE. -/
abbrev mapState : Key := 0x5400_11
/-- POPULATED. -/
abbrev populated (i : Nat) : Key := 0x5410_01 + i * 256
/-- DEVICE_WIDTH. -/
abbrev deviceWidth (i : Nat) : Key := 0x5410_02 + i * 256
/-- DENSITY_GB. -/
abbrev densityGb (i : Nat) : Key := 0x5410_03 + i * 256
/-- RANKS. -/
abbrev ranks (i : Nat) : Key := 0x5410_04 + i * 256
/-- CAS_LATENCY. -/
abbrev casLatency (i : Nat) : Key := 0x5410_05 + i * 256
/-- TRAINING_STATE. -/
abbrev trainingState (i : Nat) : Key := 0x5410_06 + i * 256
/-- CE_COUNT. -/
abbrev ceCount (i : Nat) : Key := 0x5410_07 + i * 256
/-- UE_COUNT. -/
abbrev ueCount (i : Nat) : Key := 0x5410_08 + i * 256
/-- POISON_READS. -/
abbrev poisonReads (i : Nat) : Key := 0x5410_09 + i * 256
/-- CA_PARITY_RETRIES. -/
abbrev caParityRetries (i : Nat) : Key := 0x5410_0a + i * 256
/-- CA_PARITY_FAILS. -/
abbrev caParityFails (i : Nat) : Key := 0x5410_0b + i * 256
/-- CRC_RETRIES. -/
abbrev crcRetries (i : Nat) : Key := 0x5410_0c + i * 256
/-- CRC_FAILS. -/
abbrev crcFails (i : Nat) : Key := 0x5410_0d + i * 256
/-- ERROR_LOG. -/
abbrev errorLog (i : Nat) : Key := 0x5410_0e + i * 256
/-- ADDR_MAP_CH. -/
abbrev addrMap (f : Nat) : Key := 0x5420_01 + f
/-- PENDING. -/
abbrev pending : Key := 0x5800_01
/-- COUNTS. -/
abbrev counts : Key := 0x5800_02
/-- PENDING_CLEAR. -/
abbrev pendingClear : Key := 0x5800_03
/-- ROUTES. -/
abbrev routes : Key := 0x5800_04
/-- TARGET_DISABLE. -/
abbrev targetDisable : Key := 0x5800_05
/-- FALLBACK_COUNT. -/
abbrev fallbackCount : Key := 0x5800_06
/-- PRESENTED. -/
abbrev presented : Key := 0x5800_07
/-- APP_CORE_RUN. -/
abbrev appCoreRun : Key := 0x5880_01
/-- APP_CORE_STATE. -/
abbrev appCoreState : Key := 0x5880_02
/-- FW_SELECTED. -/
abbrev fwSelected : Key := 0x5880_03
/-- LIFECYCLE_ADVANCE. -/
abbrev lifecycleAdvance : Key := 0x6000_01
/-- LIFECYCLE_PENDING. -/
abbrev lifecyclePending : Key := 0x6000_02
/-- KEY_PROGRAM. -/
abbrev keyProgram : Key := 0x6000_03
/-- KEY_REVOKE. -/
abbrev keyRevoke : Key := 0x6000_04
/-- KEY_STATE. -/
abbrev keyState : Key := 0x6000_05
/-- DEBUG_REQUEST. -/
abbrev debugRequest : Key := 0x6000_06
/-- DEBUG_STATE. -/
abbrev debugState : Key := 0x6000_07
/-- DEBUG_DEFAULT. -/
abbrev debugDefault : Key := 0x6000_08
/-- AUTH_FAILURES. -/
abbrev authFailures : Key := 0x6000_09
/-- SESSION_IDLE. -/
abbrev sessionIdle : Key := 0x6000_0a
/-- NONCE. -/
abbrev nonce (i : Nat) : Key := 0x6020_01 + i * 256
/-- SESSION_OPEN. -/
abbrev sessionOpen (i : Nat) : Key := 0x6020_02 + i * 256
/-- SESSION_LEVEL. -/
abbrev sessionLevel (i : Nat) : Key := 0x6020_03 + i * 256
/-- SESSION_CLOSE. -/
abbrev sessionClose (i : Nat) : Key := 0x6020_04 + i * 256
/-- WINDOW. -/
abbrev window (i : Nat) : Key := 0x6040_01 + i * 256
/-- WINDOW_REFUSALS. -/
abbrev windowRefusals (i : Nat) : Key := 0x6040_02 + i * 256
/-- LAST_REFUSED. -/
abbrev lastRefused (i : Nat) : Key := 0x6040_03 + i * 256
/-- RIGHTS_OVERRIDES. -/
abbrev rightsOverrides : Key := 0x6100_01
/-- OVERRIDE_COUNT. -/
abbrev overrideCount : Key := 0x6100_02
/-- LEVEL_CAP. -/
abbrev levelCap (i : Nat) : Key := 0x6110_01 + i * 256
/-- LEVEL_NOW. -/
abbrev levelNow (i : Nat) : Key := 0x6110_02 + i * 256
/-- POWER_REQUEST. -/
abbrev powerRequest : Key := 0x6400_01
/-- POWER_STATE. -/
abbrev powerState : Key := 0x6400_02
/-- SUPPLY_STATE. -/
abbrev supplyState : Key := 0x6400_03
/-- DIP_COUNT. -/
abbrev dipCount : Key := 0x6400_04
/-- LAST_DIP. -/
abbrev lastDip : Key := 0x6400_05
/-- HOLD_COUNT. -/
abbrev holdCount : Key := 0x6400_06
/-- VHOLD_OK. -/
abbrev vholdOk : Key := 0x6400_07
/-- START_TT_SLOT. -/
abbrev startTtSlot : Key := 0x6400_10
/-- START_BELLS. -/
abbrev startBells : Key := 0x6400_11
/-- START_ALIGN. -/
abbrev startAlign : Key := 0x6400_12
/-- START_STATE. -/
abbrev startState : Key := 0x6400_13
/-- START_TIMES. -/
abbrev startTimes : Key := 0x6400_14
/-- RESET_CAUSE. -/
abbrev resetCause : Key := 0x6400_15
/-- CORE_RESTARTS. -/
abbrev coreRestarts : Key := 0x6400_16
/-- BB_STATE. -/
abbrev bbState : Key := 0x6800_01
/-- SEQ_NEXT. -/
abbrev seqNext : Key := 0x6800_02
/-- START_COUNT. -/
abbrev startCount : Key := 0x6800_03
/-- SEALED_HELD. -/
abbrev sealedHeld : Key := 0x6800_04
/-- CIRCULAR_HELD. -/
abbrev circularHeld : Key := 0x6800_05
/-- CIRCULAR_NEXT. -/
abbrev circularNext : Key := 0x6800_06
/-- QUEUED. -/
abbrev queued : Key := 0x6800_07
/-- DROP_STATE. -/
abbrev dropState : Key := 0x6800_08
/-- DROP_TOTAL. -/
abbrev dropTotal : Key := 0x6800_09
/-- MRAM_RETRIES. -/
abbrev mramRetries : Key := 0x6800_0a
/-- LAST_RECORD. -/
abbrev lastRecord : Key := 0x6800_0b
/-- SEALED_PAGE. -/
abbrev sealedPage (k : Nat) : Key := 0x6880_01 + k
/-- CIRCULAR_PAGE. -/
abbrev circularPage (k : Nat) : Key := 0x6881_01 + k
/-- CARD. -/
abbrev card : Key := 0x6c00_01
/-- CARD_STATE. -/
abbrev cardState : Key := 0x6c00_02
/-- START_KIND. -/
abbrev startKind : Key := 0x6c00_03
/-- QUIET_CAUSE. -/
abbrev quietCause : Key := 0x6c00_04
/-- BIST_ON_SHUTDOWN. -/
abbrev bistOnShutdown : Key := 0x6c00_05
/-- REPAIRS. -/
abbrev repairs : Key := 0x6c00_06
/-- UNREPAIRED. -/
abbrev unrepaired : Key := 0x6c00_07
/-- MBIST_LOG. -/
abbrev mbistLog : Key := 0x6c00_08
/-- SLICE_ENABLE. -/
abbrev sliceEnable : Key := 0x6c00_09
/-- SLICE_PERIOD. -/
abbrev slicePeriod : Key := 0x6c00_0a
/-- SLICE_PASSES. -/
abbrev slicePasses : Key := 0x6c00_0b
/-- SLICE_FAILS. -/
abbrev sliceFails : Key := 0x6c00_0c
/-- LAST_SLICE. -/
abbrev lastSlice : Key := 0x6c00_0d
/-- OP_START. -/
abbrev opStart : Key := 0x7000_01
/-- OP_ABORT. -/
abbrev opAbort : Key := 0x7000_02
/-- OPS_RUNNING. -/
abbrev opsRunning : Key := 0x7000_03
/-- OP_LAST_ID. -/
abbrev opLastId : Key := 0x7000_04
/-- PROFILE_DIRECTORY. -/
abbrev profileDirectory : Key := 0x7000_05
/-- PROFILE_AUTO. -/
abbrev profileAuto : Key := 0x7000_06
/-- OP_ID. -/
abbrev opId (i : Nat) : Key := 0x7010_01 + i * 256
/-- OP_KIND. -/
abbrev opKind (i : Nat) : Key := 0x7010_02 + i * 256
/-- OP_STATE. -/
abbrev opState (i : Nat) : Key := 0x7010_03 + i * 256
/-- STEPS_DONE. -/
abbrev stepsDone (i : Nat) : Key := 0x7010_04 + i * 256
/-- STEPS_TOTAL. -/
abbrev stepsTotal (i : Nat) : Key := 0x7010_05 + i * 256
/-- START_CSN. -/
abbrev startCsn (i : Nat) : Key := 0x7010_06 + i * 256
/-- END_CSN. -/
abbrev endCsn (i : Nat) : Key := 0x7010_07 + i * 256
/-- OP_RESULT. -/
abbrev opResult (i : Nat) : Key := 0x7010_08 + i * 256
/-- RING_STATE. -/
abbrev ringState : Key := 0x7400_01
/-- RING_ADDRESS. -/
abbrev ringAddress : Key := 0x7400_02
/-- RING_ID. -/
abbrev ringId : Key := 0x7400_03
/-- ROLL_SEQ. -/
abbrev rollSeq : Key := 0x7400_04
/-- DUP_WINDOW. -/
abbrev dupWindow : Key := 0x7400_05
/-- LINK_HOLD. -/
abbrev linkHold : Key := 0x7400_06
/-- ALARM_OUT. -/
abbrev alarmOut : Key := 0x7400_07
/-- MASTER_QUALITY. -/
abbrev masterQuality : Key := 0x7400_08
/-- LAST_MARK. -/
abbrev lastMark : Key := 0x7400_09
/-- MARKS_USED. -/
abbrev marksUsed : Key := 0x7400_0a
/-- DUPLICATES. -/
abbrev duplicates : Key := 0x7400_0b
/-- PENDING_ANSWERS. -/
abbrev pendingAnswers : Key := 0x7400_0c
/-- EXPEDITED_SERVED. -/
abbrev expeditedServed : Key := 0x7400_0d
/-- MAILBOX_SERVED. -/
abbrev mailboxServed : Key := 0x7400_0e
/-- PORT_MODE. -/
abbrev portMode (i : Nat) : Key := 0x7410_01 + i * 256
/-- LINK_STATE. -/
abbrev linkState (i : Nat) : Key := 0x7410_02 + i * 256
/-- LINK_DELAY. -/
abbrev linkDelay (i : Nat) : Key := 0x7410_03 + i * 256
/-- DELAY_VALID. -/
abbrev delayValid (i : Nat) : Key := 0x7410_04 + i * 256
/-- LINK_ASYM. -/
abbrev linkAsym (i : Nat) : Key := 0x7410_05 + i * 256
/-- PHY_DELAY_RX. -/
abbrev phyDelayRx (i : Nat) : Key := 0x7410_06 + i * 256
/-- PHY_DELAY_TX. -/
abbrev phyDelayTx (i : Nat) : Key := 0x7410_07 + i * 256
/-- RESIDENCE_MAX. -/
abbrev residenceMax (i : Nat) : Key := 0x7410_08 + i * 256
/-- FRAMES_IN. -/
abbrev framesIn (i : Nat) : Key := 0x7410_09 + i * 256
/-- FCS_ERRORS. -/
abbrev fcsErrors (i : Nat) : Key := 0x7410_0a + i * 256
/-- SLOT_CRC_ERRORS. -/
abbrev slotCrcErrors (i : Nat) : Key := 0x7410_0b + i * 256
/-- REJECTED_FRAMES. -/
abbrev rejectedFrames (i : Nat) : Key := 0x7410_0c + i * 256
/-- FOREIGN_FRAMES. -/
abbrev foreignFrames (i : Nat) : Key := 0x7410_0d + i * 256
/-- LINK_DOWNS. -/
abbrev linkDowns (i : Nat) : Key := 0x7410_0e + i * 256
/-- HOST_LINK. -/
abbrev hostLink : Key := 0x7500_01
/-- LINK_SPEED. -/
abbrev linkSpeed : Key := 0x7500_02
/-- LINK_WIDTH. -/
abbrev linkWidth : Key := 0x7500_03
/-- HOST_D_STATE. -/
abbrev hostDState : Key := 0x7500_04
/-- HOST_WINDOW_BYTES. -/
abbrev hostWindowBytes : Key := 0x7500_05
/-- HOST_WINDOW_BASE. -/
abbrev hostWindowBase : Key := 0x7500_06
/-- TDC_FLUSH. -/
abbrev tdcFlush : Key := 0x7500_08
/-- AER_COUNTS. -/
abbrev aerCounts : Key := 0x7500_09
/-- HOST_RESETS. -/
abbrev hostResets : Key := 0x7500_0a
/-- PME_COUNT. -/
abbrev pmeCount : Key := 0x7500_0b
/-- STREAM_PORT_ENABLE. -/
abbrev streamPortEnable : Key := 0x7500_20
/-- STREAM_LINK. -/
abbrev streamLink : Key := 0x7500_21
/-- STREAM_MAC. -/
abbrev streamMac : Key := 0x7500_22
/-- STREAM_IP. -/
abbrev streamIp : Key := 0x7500_23
/-- MTU. -/
abbrev mtu : Key := 0x7500_24
/-- TTL. -/
abbrev ttl : Key := 0x7500_25
/-- DSCP. -/
abbrev dscp : Key := 0x7500_26
/-- ARP_REPLIES. -/
abbrev arpReplies : Key := 0x7500_27
/-- RX_DISCARDED. -/
abbrev rxDiscarded : Key := 0x7500_28
/-- DATAGRAMS_SENT. -/
abbrev datagramsSent : Key := 0x7500_29
/-- DROPPED_UNSENT. -/
abbrev droppedUnsent : Key := 0x7500_2a
/-- DEST_MAC. -/
abbrev destMac (i : Nat) : Key := 0x7510_01 + i * 256
/-- DEST_IP. -/
abbrev destIp (i : Nat) : Key := 0x7510_02 + i * 256
/-- DEST_PORT. -/
abbrev destPort (i : Nat) : Key := 0x7510_03 + i * 256
/-- SRC_PORT. -/
abbrev srcPort (i : Nat) : Key := 0x7510_04 + i * 256
/-- LEVEL_ALLOW. -/
abbrev levelAllow : Key := 0x7800_01
/-- LEVEL_IN_EFFECT. -/
abbrev levelInEffect : Key := 0x7800_02
/-- LEVEL_CAUSE. -/
abbrev levelCause : Key := 0x7800_03
/-- LEVEL_RETURN. -/
abbrev levelReturn : Key := 0x7800_04
/-- RETURN_DWELL. -/
abbrev returnDwell : Key := 0x7800_05
/-- DECISION_COUNT. -/
abbrev decisionCount : Key := 0x7800_06
/-- LAST_DECISION. -/
abbrev lastDecision : Key := 0x7800_07
/-- POWER_LINE. -/
abbrev powerLine : Key := 0x7800_10
/-- POWER_SET_MIN. -/
abbrev powerSetMin : Key := 0x7800_11
/-- POWER_SET_MAX. -/
abbrev powerSetMax : Key := 0x7800_12
/-- POWER_STEP. -/
abbrev powerStep : Key := 0x7800_13
/-- POWER_TARGET. -/
abbrev powerTarget : Key := 0x7800_14
/-- POWER_REF_POINT. -/
abbrev powerRefPoint : Key := 0x7800_15
/-- CLIP_LIMIT. -/
abbrev clipLimit : Key := 0x7800_16
/-- WEIGHT_ENABLE. -/
abbrev weightEnable : Key := 0x7800_20
/-- WEIGHT_PERIOD. -/
abbrev weightPeriod : Key := 0x7800_21
/-- WEIGHT_MIN. -/
abbrev weightMin : Key := 0x7800_22
/-- BAND_WEIGHT. -/
abbrev bandWeight (k : Nat) : Key := 0x7800_23 + k
/-- PATTERN_ENABLE. -/
abbrev patternEnable : Key := 0x7800_30
/-- PATTERN_CANDIDATES. -/
abbrev patternCandidates : Key := 0x7800_31
/-- FADE_LEVEL. -/
abbrev fadeLevel : Key := 0x7800_32
/-- FADE_LIMIT. -/
abbrev fadeLimit : Key := 0x7800_33
/-- FADE_EVALS. -/
abbrev fadeEvals : Key := 0x7800_34
/-- PATTERN_DWELL. -/
abbrev patternDwell : Key := 0x7800_35
/-- LINE_DISABLE. -/
abbrev lineDisable : Key := 0x7800_38
/-- LINE_BANDS. -/
abbrev lineBands : Key := 0x7800_39
/-- THERMAL_HIGH. -/
abbrev thermalHigh : Key := 0x7800_40
/-- THERMAL_LOW. -/
abbrev thermalLow : Key := 0x7800_41
/-- THERMAL_SHUT. -/
abbrev thermalShut : Key := 0x7800_42
/-- THERMAL_CONSEC. -/
abbrev thermalConsec : Key := 0x7800_43
/-- HOLDOVER_LIMIT. -/
abbrev holdoverLimit : Key := 0x7800_44

end Sys2Proof.Machine.K
end

