-- ==== Sys2Proof/Machine/EntryTable.lean ====
section
/-!
DEFINITION. Machine/EntryTable.lean: the entry tables of the manual (R60 to R62, R81 to R83, R103 to R105, R137 to R140,
R173, R174, R232, R233, R259 to R261, R267, R276, R297 to R300, R330 to R332, R357 to R360, R382, R383, R397, R398,
R421, R437, R450, R460, R461, R483, R484, R493): type, access code, rights, default and the limits that depend on the
written value alone.  Limits of a byte block (DOM, STR) are those of its length.  Irregular limits are in
Machine/EntryLimits.lean.
-/

namespace Sys2Proof.Machine

/-- The types of Table 13-1 (R334). -/
inductive Ty where
  | bool | u8 | u16 | u32 | u64 | i8 | i16 | i32 | i64 | f32 | str | dom
  deriving DecidableEq, Repr

/-- The access codes of Table 13-2 (R335). -/
inductive Access where
  | ro | rw | wo | const | rwb
  deriving DecidableEq, Repr

/-- One level's right on an entry (R337). -/
inductive Right where
  | none | r | rw
  deriving DecidableEq, Repr

/-- Rights for Principal, Staff and Visitor (R337). -/
structure Rights where
  principal : Right
  staff : Right
  visitor : Right
  deriving DecidableEq, Repr

/-- One row of an entry table: `indices` indices from `index`, `subs` sub-indices from `sub`; the default of index
`index + a` is `dflt + step * a`; `lo` and `hi` are the limits of the value alone. -/
structure EntryRow where
  index : Nat
  indices : Nat
  sub : Nat
  subs : Nat
  ty : Ty
  access : Access
  rights : Rights
  dflt : Int
  step : Int
  lo : Int
  hi : Int
  deriving DecidableEq, Repr

/-- rw/rw/r of R337. -/
def Rights.rwRwR : Rights := ⟨.rw, .rw, .r⟩
/-- rw/r/r of R337. -/
def Rights.rwRR : Rights := ⟨.rw, .r, .r⟩
/-- r/r/r of R337. -/
def Rights.rRR : Rights := ⟨.r, .r, .r⟩
/-- rw/none/r of R337. -/
def Rights.rwNR : Rights := ⟨.rw, .none, .r⟩
/-- rw/none/none of R337. -/
def Rights.rwNN : Rights := ⟨.rw, .none, .none⟩
/-- rw/rw/none of R337. -/
def Rights.rwRwN : Rights := ⟨.rw, .rw, .none⟩
/-- r/r/none of R337. -/
def Rights.rRN : Rights := ⟨.r, .r, .none⟩
/-- rw/rw/rw of R337. -/
def Rights.rwRwRw : Rights := ⟨.rw, .rw, .rw⟩

/-- Entries of the 0x1000 range. -/
def entries10 : List EntryRow := [
  ⟨0x1000, 1, 0x01, 1, .str, .const, .rRR, 0, 0, 0, 64⟩,  -- VENDOR
  ⟨0x1000, 1, 0x02, 1, .str, .const, .rRR, 0, 0, 0, 64⟩,  -- PRODUCT
  ⟨0x1000, 1, 0x03, 1, .u8, .const, .rRR, 0, 0, 0, 255⟩,  -- SILICON_STEP
  ⟨0x1000, 1, 0x04, 1, .u64, .const, .rRR, 0, 0, 0, 18446744073709551615⟩,  -- UNIT_ID
  ⟨0x1000, 1, 0x05, 1, .u8, .ro, .rRR, 0, 0, 0, 255⟩,  -- LIFECYCLE
  ⟨0x1000, 1, 0x06, 1, .u32, .const, .rRR, 0, 0, 0, 4294967295⟩,  -- BOOT_ROM_VERSION
  ⟨0x1000, 1, 0x07, 1, .u32, .ro, .rRR, 0, 0, 0, 4294967295⟩,  -- CONTROL_FW_VERSION
  ⟨0x1000, 1, 0x08, 1, .u32, .ro, .rRR, 0, 0, 0, 4294967295⟩,  -- APP_FW_VERSION
  ⟨0x1000, 1, 0x09, 1, .u16, .const, .rRR, 256, 0, 0, 65535⟩,  -- DICT_FORMAT
  ⟨0x1000, 1, 0x0a, 1, .str, .rw, .rwRwR, 0, 0, 0, 32⟩  -- DEVICE_NAME
]

/-- Entries of the 0x1100 range. -/
def entries11 : List EntryRow := [
  ⟨0x1100, 1, 0x01, 1, .u32, .ro, .rRR, 0, 0, 0, 4294967295⟩,  -- STATUS_NOW
  ⟨0x1100, 1, 0x02, 1, .u32, .ro, .rRR, 0, 0, 0, 4294967295⟩,  -- STATUS_LATCH
  ⟨0x1100, 1, 0x03, 1, .u32, .wo, .rwRwN, 0, 0, 0, 8191⟩,  -- LATCH_CLEAR
  ⟨0x1100, 1, 0x04, 1, .u64, .ro, .rRR, 0, 0, 0, 18446744073709551615⟩,  -- CSN_LAST
  ⟨0x1100, 1, 0x05, 1, .u64, .ro, .rRR, 0, 0, 0, 18446744073709551615⟩,  -- CSN_IN_EFFECT
  ⟨0x1100, 1, 0x06, 1, .u64, .ro, .rRR, 0, 0, 0, 18446744073709551615⟩,  -- REQUESTS_SERVED
  ⟨0x1100, 1, 0x07, 1, .u32, .ro, .rRR, 0, 0, 0, 4294967295⟩,  -- REFUSALS
  ⟨0x1100, 1, 0x08, 1, .dom, .ro, .rRR, 0, 0, 0, 4294967295⟩  -- LAST_REFUSAL
]

/-- Entries of the 0x2000 range. -/
def entries20 : List EntryRow := [
  ⟨0x2000, 1, 0x01, 1, .u32, .rwb, .rwRwR, 100000, 0, 5000, 1000000⟩,  -- BELL_PERIOD
  ⟨0x2000, 1, 0x02, 1, .u8, .rwb, .rwRwR, 0, 0, 0, 2⟩,  -- SPATIAL_MODE
  ⟨0x2000, 1, 0x03, 1, .u32, .rwb, .rwRwR, 65536, 0, 1024, 262144⟩,  -- PHASE_POINTS
  ⟨0x2000, 1, 0x04, 1, .bool, .rw, .rwRwR, 0, 0, 0, 1⟩,  -- BELL_RUN
  ⟨0x2000, 1, 0x05, 1, .u64, .rw, .rwRwR, 0, 0, 0, 18446744073709551615⟩,  -- BELL_START_TIME
  ⟨0x2000, 1, 0x06, 1, .u64, .rw, .rwRwR, 0, 0, 0, 281474976710655⟩,  -- BELL_NUMBER_NEXT
  ⟨0x2000, 1, 0x07, 1, .u8, .ro, .rRR, 0, 0, 0, 255⟩,  -- BELL_STATE
  ⟨0x2000, 1, 0x08, 1, .dom, .ro, .rRR, 0, 0, 0, 4294967295⟩,  -- BELL_MARK
  ⟨0x2000, 1, 0x09, 1, .u32, .ro, .rRR, 0, 0, 0, 4294967295⟩  -- MIN_BELL_PERIOD
]

/-- Entries of the 0x2100 range. -/
def entries21 : List EntryRow := [
  ⟨0x2100, 1, 0x01, 1, .u8, .rw, .rwRR, 0, 0, 0, 2⟩,  -- TIME_SOURCE
  ⟨0x2100, 1, 0x02, 1, .u64, .rw, .rwRR, 0, 0, 0, 18446744073709551615⟩,  -- DEVICE_TIME
  ⟨0x2100, 1, 0x03, 1, .u8, .ro, .rRR, 0, 0, 0, 255⟩,  -- TIME_STATE
  ⟨0x2100, 1, 0x04, 1, .i64, .ro, .rRR, 0, 0, (-9223372036854775808), 9223372036854775807⟩,  -- TIME_OFFSET
  ⟨0x2100, 1, 0x05, 1, .i32, .ro, .rRR, 0, 0, (-2147483648), 2147483647⟩,  -- FREQ_TRIM
  ⟨0x2100, 1, 0x06, 1, .u32, .rw, .rwRR, 50000, 0, 1000, 100000⟩,  -- SLEW_LIMIT
  ⟨0x2100, 1, 0x07, 1, .u64, .rw, .rwRwR, 0, 0, 0, 18446744073⟩,  -- PPS_NEXT_SECOND
  ⟨0x2100, 1, 0x08, 1, .i32, .rw, .rwRwR, 0, 0, (-1000000), 1000000⟩,  -- PPS_DELAY
  ⟨0x2100, 1, 0x09, 1, .u8, .ro, .rRR, 0, 0, 0, 255⟩,  -- REF_STATE
  ⟨0x2100, 1, 0x0a, 1, .u32, .ro, .rRR, 0, 0, 0, 4294967295⟩  -- HOLDOVER_COUNT
]

/-- Entries of the 0x2200 range. -/
def entries22 : List EntryRow := [
  ⟨0x2200, 1, 0x01, 1, .u8, .rwb, .rwRwR, 1, 0, 0, 255⟩,  -- TDC_ENABLE
  ⟨0x2200, 1, 0x02, 1, .u32, .rwb, .rwRwR, 0, 0, 0, 1000000⟩,  -- LAUNCH_DELAY
  ⟨0x2200, 1, 0x03, 1, .u32, .rwb, .rwRwR, 0, 0, 0, 1000000⟩,  -- RECEIVE_PATH_DELAY
  ⟨0x2200, 1, 0x04, 1, .u16, .rw, .rwRwR, 60, 0, 1, 3600⟩,  -- FINE_CAL_PERIOD
  ⟨0x2200, 1, 0x05, 1, .u32, .rwb, .rwRwR, 1000000, 0, 0, 2000000⟩,  -- LAUNCH_NOMINAL
  ⟨0x2210, 8, 0x01, 1, .u16, .rwb, .rwRwR, 512, 0, 0, 1023⟩,  -- THRESHOLD
  ⟨0x2210, 8, 0x02, 1, .u8, .rwb, .rwRwR, 1, 0, 1, 3⟩,  -- SLOPE
  ⟨0x2210, 8, 0x03, 1, .u8, .rw, .rwRwR, 0, 0, 0, 1⟩,  -- OWNER
  ⟨0x2210, 8, 0x04, 1, .u16, .rw, .rwRwR, 256, 0, 1, 512⟩,  -- WATERMARK
  ⟨0x2210, 8, 0x05, 1, .u64, .ro, .rRR, 0, 0, 0, 18446744073709551615⟩,  -- STAMP_COUNT
  ⟨0x2210, 8, 0x06, 1, .u32, .ro, .rRR, 0, 0, 0, 4294967295⟩,  -- LOST_COUNT
  ⟨0x2210, 8, 0x07, 1, .u32, .ro, .rRR, 0, 0, 0, 4294967295⟩  -- CLOSE_COUNT
]

/-- Entries of the 0x2400 range. -/
def entries24_0 : List EntryRow := [
  ⟨0x2400, 1, 0x01, 1, .u8, .rwb, .rwRwR, 1, 0, 1, 64⟩,  -- SEQ_LENGTH
  ⟨0x2400, 1, 0x02, 1, .u8, .rwb, .rwRwR, 8, 0, 1, 64⟩,  -- CROSSFADE_BELLS
  ⟨0x2400, 1, 0x03, 1, .bool, .rwb, .rwRwR, 0, 0, 0, 1⟩,  -- DAC_ENABLE
  ⟨0x2400, 1, 0x04, 1, .u8, .rwb, .rwRwR, 20, 0, 8, 32⟩,  -- DAC_FULL_SCALE
  ⟨0x2400, 1, 0x05, 1, .i16, .rwb, .rwRwR, 0, 0, (-2048), 2048⟩,  -- IQ_GAIN
  ⟨0x2400, 1, 0x06, 1, .i16, .rwb, .rwRwR, 0, 0, (-1638), 1638⟩,  -- IQ_PHASE
  ⟨0x2400, 1, 0x07, 1, .i16, .rwb, .rwRwR, 0, 0, (-256), 256⟩,  -- OFFSET_I
  ⟨0x2400, 1, 0x08, 1, .i16, .rwb, .rwRwR, 0, 0, (-256), 256⟩,  -- OFFSET_Q
  ⟨0x2400, 1, 0x09, 1, .u16, .rwb, .rwRwR, 20, 0, 0, 2000⟩,  -- GATE_LEAD
  ⟨0x2400, 1, 0x0a, 1, .u16, .rwb, .rwRwR, 20, 0, 0, 2000⟩,  -- GATE_LAG
  ⟨0x2400, 1, 0x0b, 1, .u8, .rwb, .rwRwR, 0, 0, 0, 15⟩,  -- GATE_POLARITY
  ⟨0x2400, 1, 0x0c, 1, .u8, .ro, .rRR, 0, 0, 0, 255⟩,  -- SEQ_POSITION
  ⟨0x2400, 1, 0x0d, 1, .u8, .ro, .rRR, 0, 0, 0, 255⟩,  -- PATTERN_IN_EFFECT
  ⟨0x2400, 1, 0x0e, 1, .u8, .ro, .rRR, 0, 0, 0, 255⟩,  -- SETTLING_REMAIN
  ⟨0x2400, 1, 0x0f, 1, .u8, .ro, .rRR, 0, 0, 0, 255⟩,  -- EXC_REFUSAL
  ⟨0x2400, 1, 0x11, 1, .u32, .ro, .rRR, 0, 0, 0, 4294967295⟩,  -- DAC_CLIP_COUNT
  ⟨0x2402, 1, 0x01, 64, .u8, .rwb, .rwRwR, 0, 0, 0, 15⟩,  -- SEQ_ENTRY
  ⟨0x2410, 16, 0x01, 1, .u8, .rwb, .rwRwR, 1, 0, 1, 4⟩,  -- BANDS
  ⟨0x2410, 16, 0x02, 1, .u8, .rwb, .rwRwR, 1, 0, 0, 15⟩,  -- GATE_MASK
  ⟨0x2410, 1, 0x03, 1, .u8, .rwb, .rwRwR, 1, 0, 0, 15⟩,  -- SUBPULSE_ENABLE
  ⟨0x2410, 16, 0x10, 1, .u16, .rwb, .rwRwR, 0, 0, 0, 2000⟩,  -- START
  ⟨0x2410, 16, 0x11, 1, .u16, .rwb, .rwRwR, 200, 0, 20, 20000⟩,  -- WIDTH
  ⟨0x2410, 16, 0x12, 1, .i32, .rwb, .rwRwR, 0, 0, (-400000000), 400000000⟩,  -- FREQ
  ⟨0x2410, 16, 0x13, 1, .i32, .rwb, .rwRwR, 0, 0, (-80000000), 80000000⟩,  -- CHIRP
  ⟨0x2410, 16, 0x14, 1, .u16, .rwb, .rwRwR, 16384, 0, 0, 32767⟩,  -- AMPLITUDE
  ⟨0x2410, 16, 0x15, 1, .u16, .rwb, .rwRwR, 0, 0, 0, 65535⟩,  -- START_PHASE
  ⟨0x2410, 16, 0x20, 1, .u16, .rwb, .rwRwR, 0, 0, 0, 2000⟩,  -- START
  ⟨0x2410, 16, 0x21, 1, .u16, .rwb, .rwRwR, 200, 0, 20, 20000⟩,  -- WIDTH
  ⟨0x2410, 16, 0x22, 1, .i32, .rwb, .rwRwR, 0, 0, (-400000000), 400000000⟩,  -- FREQ
  ⟨0x2410, 16, 0x23, 1, .i32, .rwb, .rwRwR, 0, 0, (-80000000), 80000000⟩,  -- CHIRP
  ⟨0x2410, 16, 0x24, 1, .u16, .rwb, .rwRwR, 16384, 0, 0, 32767⟩,  -- AMPLITUDE
  ⟨0x2410, 16, 0x25, 1, .u16, .rwb, .rwRwR, 0, 0, 0, 65535⟩,  -- START_PHASE
  ⟨0x2410, 16, 0x30, 1, .u16, .rwb, .rwRwR, 0, 0, 0, 2000⟩,  -- START
  ⟨0x2410, 16, 0x31, 1, .u16, .rwb, .rwRwR, 200, 0, 20, 20000⟩,  -- WIDTH
  ⟨0x2410, 16, 0x32, 1, .i32, .rwb, .rwRwR, 0, 0, (-400000000), 400000000⟩,  -- FREQ
  ⟨0x2410, 16, 0x33, 1, .i32, .rwb, .rwRwR, 0, 0, (-80000000), 80000000⟩,  -- CHIRP
  ⟨0x2410, 16, 0x34, 1, .u16, .rwb, .rwRwR, 16384, 0, 0, 32767⟩,  -- AMPLITUDE
  ⟨0x2410, 16, 0x35, 1, .u16, .rwb, .rwRwR, 0, 0, 0, 65535⟩,  -- START_PHASE
  ⟨0x2410, 16, 0x40, 1, .u16, .rwb, .rwRwR, 0, 0, 0, 2000⟩,  -- START
  ⟨0x2410, 16, 0x41, 1, .u16, .rwb, .rwRwR, 200, 0, 20, 20000⟩  -- WIDTH
]

/-- Entries of the 0x2400 range. -/
def entries24_1 : List EntryRow := [
  ⟨0x2410, 16, 0x42, 1, .i32, .rwb, .rwRwR, 0, 0, (-400000000), 400000000⟩,  -- FREQ
  ⟨0x2410, 16, 0x43, 1, .i32, .rwb, .rwRwR, 0, 0, (-80000000), 80000000⟩,  -- CHIRP
  ⟨0x2410, 16, 0x44, 1, .u16, .rwb, .rwRwR, 16384, 0, 0, 32767⟩,  -- AMPLITUDE
  ⟨0x2410, 16, 0x45, 1, .u16, .rwb, .rwRwR, 0, 0, 0, 65535⟩,  -- START_PHASE
  ⟨0x2411, 15, 0x03, 1, .u8, .rwb, .rwRwR, 0, 0, 0, 15⟩  -- SUBPULSE_ENABLE
]

/-- Entries of the 0x2400 range. -/
def entries24 : List EntryRow := entries24_0 ++ entries24_1

/-- Entries of the 0x2500 range. -/
def entries25_0 : List EntryRow := [
  ⟨0x2500, 1, 0x01, 1, .bool, .rw, .rwRwR, 0, 0, 0, 1⟩,  -- DRIVE_ENABLE
  ⟨0x2500, 1, 0x02, 1, .u8, .rwb, .rwRwR, 255, 0, 0, 255⟩,  -- GLOBAL_SCALE
  ⟨0x2500, 1, 0x03, 1, .u16, .rwb, .rwRwR, 16, 0, 1, 256⟩,  -- PROVE_PERIOD
  ⟨0x2500, 1, 0x04, 1, .u8, .ro, .rRR, 0, 0, 0, 255⟩,  -- INTERLOCK_STATE
  ⟨0x2500, 1, 0x05, 1, .u32, .ro, .rRR, 0, 0, 0, 4294967295⟩,  -- INTERLOCK_COUNT
  ⟨0x2500, 1, 0x06, 1, .u16, .ro, .rRR, 0, 0, 0, 65535⟩,  -- SINK_POWER
  ⟨0x2500, 1, 0x07, 1, .u8, .ro, .rRR, 255, 0, 0, 255⟩,  -- CAP_SCALE
  ⟨0x2500, 1, 0x08, 1, .u8, .ro, .rRR, 0, 0, 0, 255⟩,  -- FAULT_SUMMARY
  ⟨0x2500, 1, 0x09, 1, .u8, .wo, .rwRwN, 0, 0, 0, 255⟩,  -- FAULT_CLEAR
  ⟨0x2510, 8, 0x01, 1, .u8, .rwb, .rwRwR, 0, 0, 0, 4⟩,  -- MODE
  ⟨0x2510, 8, 0x02, 1, .u8, .rwb, .rwRwR, 0, 0, 0, 1⟩,  -- PASS
  ⟨0x2510, 8, 0x03, 1, .u16, .rwb, .rwRwR, 0, 0, 0, 4095⟩,  -- LINE_SET
  ⟨0x2510, 8, 0x04, 1, .u16, .rwb, .rwRwR, 1000, 0, 100, 10000⟩,  -- SHUNT_MOHM
  ⟨0x2510, 8, 0x05, 1, .u8, .rwb, .rwRwR, 12, 0, 8, 16⟩,  -- PWM_BITS
  ⟨0x2510, 8, 0x06, 1, .u16, .rwb, .rwRwR, 0, 0, 0, 65535⟩,  -- PWM_DUTY
  ⟨0x2510, 8, 0x07, 1, .bool, .rwb, .rwRwR, 0, 0, 0, 1⟩,  -- PWM_SYNC
  ⟨0x2510, 8, 0x08, 1, .u16, .rwb, .rwRwR, 0, 0, 0, 2000⟩,  -- GATE_DELAY
  ⟨0x2510, 8, 0x09, 1, .u16, .rwb, .rwRwR, 100, 0, 10, 10000⟩,  -- GATE_WIDTH
  ⟨0x2510, 8, 0x0a, 1, .u8, .rwb, .rwRwR, 30, 0, 10, 50⟩,  -- SHORT_THRESHOLD
  ⟨0x2510, 8, 0x0b, 1, .bool, .rwb, .rwRwR, 1, 0, 0, 1⟩,  -- DARK_CHECK
  ⟨0x2510, 8, 0x0c, 1, .u8, .rwb, .rwRwR, 255, 0, 0, 255⟩,  -- COMP_INPUT
  ⟨0x2510, 8, 0x0d, 1, .u16, .rwb, .rwRwR, 0, 0, 0, 4095⟩,  -- SAFE_SET
  ⟨0x2510, 8, 0x0e, 1, .u16, .ro, .rRR, 0, 0, 0, 65535⟩,  -- LINE_STATUS
  ⟨0x2510, 8, 0x0f, 1, .u16, .ro, .rRR, 0, 0, 0, 65535⟩,  -- LINE_CURRENT
  ⟨0x2510, 8, 0x10, 1, .u16, .ro, .rRR, 0, 0, 0, 65535⟩,  -- PIN_VOLTAGE
  ⟨0x2510, 8, 0x11, 1, .u32, .ro, .rRR, 0, 0, 0, 4294967295⟩,  -- FAULT_COUNT
  ⟨0x2520, 8, 0x01, 1, .u16, .rwb, .rwRwR, 0, 0, 0, 65535⟩,  -- COMP_CURRENT
  ⟨0x2520, 8, 0x02, 1, .u16, .rwb, .rwRwR, 273, 0, 0, 65535⟩,  -- COMP_CURRENT
  ⟨0x2520, 8, 0x03, 1, .u16, .rwb, .rwRwR, 546, 0, 0, 65535⟩,  -- COMP_CURRENT
  ⟨0x2520, 8, 0x04, 1, .u16, .rwb, .rwRwR, 819, 0, 0, 65535⟩,  -- COMP_CURRENT
  ⟨0x2520, 8, 0x05, 1, .u16, .rwb, .rwRwR, 1092, 0, 0, 65535⟩,  -- COMP_CURRENT
  ⟨0x2520, 8, 0x06, 1, .u16, .rwb, .rwRwR, 1365, 0, 0, 65535⟩,  -- COMP_CURRENT
  ⟨0x2520, 8, 0x07, 1, .u16, .rwb, .rwRwR, 1638, 0, 0, 65535⟩,  -- COMP_CURRENT
  ⟨0x2520, 8, 0x08, 1, .u16, .rwb, .rwRwR, 1911, 0, 0, 65535⟩,  -- COMP_CURRENT
  ⟨0x2520, 8, 0x09, 1, .u16, .rwb, .rwRwR, 2184, 0, 0, 65535⟩,  -- COMP_CURRENT
  ⟨0x2520, 8, 0x0a, 1, .u16, .rwb, .rwRwR, 2457, 0, 0, 65535⟩,  -- COMP_CURRENT
  ⟨0x2520, 8, 0x0b, 1, .u16, .rwb, .rwRwR, 2730, 0, 0, 65535⟩,  -- COMP_CURRENT
  ⟨0x2520, 8, 0x0c, 1, .u16, .rwb, .rwRwR, 3003, 0, 0, 65535⟩,  -- COMP_CURRENT
  ⟨0x2520, 8, 0x0d, 1, .u16, .rwb, .rwRwR, 3276, 0, 0, 65535⟩,  -- COMP_CURRENT
  ⟨0x2520, 8, 0x0e, 1, .u16, .rwb, .rwRwR, 3549, 0, 0, 65535⟩  -- COMP_CURRENT
]

/-- Entries of the 0x2500 range. -/
def entries25_1 : List EntryRow := [
  ⟨0x2520, 8, 0x0f, 1, .u16, .rwb, .rwRwR, 3822, 0, 0, 65535⟩,  -- COMP_CURRENT
  ⟨0x2520, 8, 0x10, 1, .u16, .rwb, .rwRwR, 4095, 0, 0, 65535⟩,  -- COMP_CURRENT
  ⟨0x2520, 8, 0x11, 16, .u16, .rwb, .rwRwR, 32768, 0, 0, 65535⟩  -- COMP_FACTOR
]

/-- Entries of the 0x2500 range. -/
def entries25 : List EntryRow := entries25_0 ++ entries25_1

/-- Entries of the 0x2800 range. -/
def entries28 : List EntryRow := [
  ⟨0x2800, 1, 0x01, 1, .bool, .rwb, .rwRwR, 1, 0, 0, 1⟩,  -- OFFSET_TRACK
  ⟨0x2800, 1, 0x02, 1, .u8, .rwb, .rwRwR, 8, 0, 0, 12⟩,  -- OFFSET_TC
  ⟨0x2800, 1, 0x03, 1, .u8, .rwb, .rwRwR, 19, 0, 12, 26⟩,  -- MF_SHIFT
  ⟨0x2800, 1, 0x04, 1, .u8, .rwb, .rwRwR, 18, 0, 0, 20⟩,  -- MAG_SHIFT
  ⟨0x2800, 1, 0x05, 1, .bool, .wo, .rwNN, 0, 0, 0, 1⟩,  -- CAL_RUN
  ⟨0x2800, 1, 0x06, 1, .u8, .ro, .rRR, 0, 0, 0, 255⟩,  -- CAL_STATE
  ⟨0x2800, 1, 0x07, 1, .u8, .ro, .rRR, 0, 0, 0, 255⟩,  -- SAT_SUMMARY
  ⟨0x2800, 1, 0x08, 1, .u32, .ro, .rRR, 0, 0, 0, 4294967295⟩,  -- MF_SAT_COUNT
  ⟨0x2800, 1, 0x09, 4, .u32, .ro, .rRR, 0, 0, 0, 4294967295⟩,  -- NCO_WORD_b
  ⟨0x2800, 1, 0x20, 1, .u8, .rwb, .rwRwR, 8, 0, 1, 64⟩,  -- GAUGE_SPACINGS
  ⟨0x2801, 4, 0x01, 1, .i16, .ro, .rRR, 0, 0, (-32768), 32767⟩,  -- OFFSET_EST
  ⟨0x2801, 4, 0x02, 1, .i16, .rwb, .rwRwR, 0, 0, (-8191), 8191⟩,  -- OFFSET_MANUAL
  ⟨0x2801, 4, 0x03, 1, .i16, .rwb, .rwRwR, 0, 0, (-2048), 2048⟩,  -- GAIN_TRIM
  ⟨0x2801, 4, 0x04, 1, .i8, .rwb, .rwRwR, 0, 0, (-128), 127⟩,  -- SKEW_TRIM
  ⟨0x2801, 4, 0x05, 1, .u16, .ro, .rRR, 32768, 0, 0, 65535⟩,  -- CAL_GAIN
  ⟨0x2801, 4, 0x06, 1, .u32, .ro, .rRR, 0, 0, 0, 4294967295⟩,  -- CLIP_COUNT
  ⟨0x2808, 2, 0x01, 1, .i16, .rwb, .rwRwR, 0, 0, (-2048), 2048⟩,  -- RXIQ_GAIN
  ⟨0x2808, 2, 0x02, 1, .i16, .rwb, .rwRwR, 0, 0, (-1638), 1638⟩,  -- RXIQ_PHASE
  ⟨0x2810, 16, 0x01, 1, .dom, .rwb, .rwRwR, 0, 0, 4096, 4096⟩,  -- COEF_SET
  ⟨0x2810, 16, 0x02, 1, .u8, .ro, .rRR, 0, 0, 0, 255⟩,  -- COEF_FADE_REMAIN
  ⟨0x2820, 1, 0x01, 1, .u8, .rw, .rwRwN, 6, 0, 0, 6⟩,  -- CAP_POINT
  ⟨0x2820, 1, 0x02, 1, .u8, .rw, .rwRwN, 0, 0, 0, 3⟩,  -- CAP_BAND
  ⟨0x2820, 1, 0x03, 1, .u64, .rw, .rwRwN, 0, 0, 0, 18446744073709551615⟩,  -- CAP_BELL
  ⟨0x2820, 1, 0x04, 1, .u32, .rw, .rwRwN, 0, 0, 0, 9999999⟩,  -- CAP_OFFSET
  ⟨0x2820, 1, 0x05, 1, .u32, .rw, .rwRwN, 4096, 0, 1, 8388600⟩,  -- CAP_LENGTH
  ⟨0x2820, 1, 0x06, 1, .bool, .wo, .rwRwN, 0, 0, 0, 1⟩,  -- CAP_ARM
  ⟨0x2820, 1, 0x07, 1, .u8, .ro, .rRN, 0, 0, 0, 255⟩,  -- CAP_STATE
  ⟨0x2820, 1, 0x08, 1, .dom, .ro, .rRN, 0, 0, 0, 4294967295⟩  -- CAP_DATA
]

/-- Entries of the 0x2900 range. -/
def entries29 : List EntryRow := [
  ⟨0x2900, 1, 0x01, 1, .bool, .rwb, .rwRwR, 0, 0, 0, 1⟩,  -- RAMAN_ENABLE
  ⟨0x2900, 1, 0x02, 1, .u16, .rwb, .rwRwR, 0, 0, 0, 4000⟩,  -- RAMAN_DELAY
  ⟨0x2900, 1, 0x03, 1, .u32, .rwb, .rwRwR, 4096, 0, 1, 1048576⟩,  -- AVG_BELLS
  ⟨0x2900, 1, 0x04, 1, .u8, .rwb, .rwRwR, 255, 0, 0, 255⟩,  -- RAMAN_LINE
  ⟨0x2900, 1, 0x05, 1, .u8, .ro, .rRR, 0, 0, 0, 255⟩,  -- AVG_STATE
  ⟨0x2900, 1, 0x06, 1, .u32, .ro, .rRR, 0, 0, 0, 4294967295⟩,  -- BLOCK_SEQ
  ⟨0x2900, 1, 0x07, 1, .u32, .ro, .rRR, 0, 0, 0, 4294967295⟩,  -- RAMAN_CLIP_AS
  ⟨0x2900, 1, 0x08, 1, .u32, .ro, .rRR, 0, 0, 0, 4294967295⟩,  -- RAMAN_CLIP_S
  ⟨0x2900, 1, 0x09, 1, .dom, .ro, .rRR, 0, 0, 0, 4294967295⟩,  -- LAST_BLOCK
  ⟨0x2900, 1, 0x10, 1, .u16, .rwb, .rwRwR, 60, 0, 1, 600⟩,  -- UPDATE_PERIOD
  ⟨0x2900, 1, 0x11, 1, .u8, .rwb, .rwRwR, 1, 0, 0, 2⟩,  -- CAL_MODE
  ⟨0x2900, 1, 0x12, 1, .u32, .rwb, .rwRwR, 633000, 0, 500000, 800000⟩,  -- GAMMA
  ⟨0x2900, 1, 0x13, 1, .i32, .rwb, .rwRwR, 0, 0, (-500000), 500000⟩,  -- DIFF_ATTEN
  ⟨0x2900, 1, 0x14, 1, .u32, .rwb, .rwRwR, 0, 0, 0, 4294967295⟩,  -- COIL1_FIRST
  ⟨0x2900, 1, 0x15, 1, .u16, .rwb, .rwRwR, 64, 0, 8, 1024⟩,  -- COIL1_COUNT
  ⟨0x2900, 1, 0x16, 1, .u8, .rwb, .rwRwR, 0, 0, 0, 3⟩,  -- COIL1_SENSOR
  ⟨0x2900, 1, 0x17, 1, .u32, .rwb, .rwRwR, 128, 0, 0, 4294967295⟩,  -- COIL2_FIRST
  ⟨0x2900, 1, 0x18, 1, .u16, .rwb, .rwRwR, 64, 0, 8, 1024⟩,  -- COIL2_COUNT
  ⟨0x2900, 1, 0x19, 1, .u8, .rwb, .rwRwR, 1, 0, 0, 3⟩,  -- COIL2_SENSOR
  ⟨0x2900, 1, 0x1a, 1, .bool, .wo, .rwRwN, 0, 0, 0, 1⟩,  -- CAL_RESET
  ⟨0x2900, 1, 0x1b, 1, .u8, .ro, .rRR, 0, 0, 0, 255⟩,  -- CAL_STATE
  ⟨0x2900, 1, 0x1c, 1, .i32, .ro, .rRR, 0, 0, (-2147483648), 2147483647⟩,  -- CAL_OFFSET
  ⟨0x2900, 1, 0x1d, 1, .u32, .ro, .rRR, 0, 0, 0, 4294967295⟩,  -- CAL_GAMMA
  ⟨0x2900, 1, 0x1e, 1, .i32, .ro, .rRR, 0, 0, (-2147483648), 2147483647⟩,  -- CAL_DIFF_ATTEN
  ⟨0x2900, 1, 0x20, 1, .u8, .ro, .rRR, 0, 0, 0, 255⟩,  -- PROFILE_STATE
  ⟨0x2900, 1, 0x21, 1, .u32, .ro, .rRR, 0, 0, 0, 4294967295⟩,  -- PROFILE_SEQ
  ⟨0x2900, 1, 0x22, 1, .dom, .ro, .rRR, 0, 0, 0, 4294967295⟩,  -- LAST_PROFILE
  ⟨0x2900, 1, 0x30, 1, .bool, .rwb, .rwRwR, 1, 0, 0, 1⟩,  -- TRACE_END_ENABLE
  ⟨0x2900, 1, 0x31, 1, .u16, .rwb, .rwRwR, 64, 0, 1, 65535⟩,  -- END_LEVEL
  ⟨0x2900, 1, 0x32, 1, .u32, .rw, .rwRwR, 0, 0, 0, 107100000⟩,  -- TRACE_END_REF
  ⟨0x2900, 1, 0x33, 1, .bool, .wo, .rwRwN, 0, 0, 0, 1⟩,  -- TRACE_END_LEARN
  ⟨0x2900, 1, 0x34, 1, .u32, .ro, .rRR, 0, 0, 0, 4294967295⟩,  -- TRACE_END
  ⟨0x2900, 1, 0x35, 1, .u32, .ro, .rRR, 0, 0, 0, 4294967295⟩,  -- TRACE_END_POINT
  ⟨0x2900, 1, 0x36, 1, .u8, .ro, .rRR, 0, 0, 0, 255⟩,  -- BREAK_STATE
  ⟨0x2900, 1, 0x37, 1, .u32, .ro, .rRR, 0, 0, 0, 4294967295⟩,  -- BREAK_COUNT
  ⟨0x2900, 1, 0x38, 1, .dom, .ro, .rRR, 0, 0, 0, 4294967295⟩  -- LAST_BREAK
]

/-- Entries of the 0x3000 range. -/
def entries30 : List EntryRow := [
  ⟨0x3000, 1, 0x01, 1, .u8, .ro, .rRR, 0, 0, 0, 255⟩,  -- ARRAY_STATE
  ⟨0x3000, 1, 0x02, 1, .u32, .ro, .rRR, 4294967295, 0, 0, 4294967295⟩,  -- ENGINES_IN_SERVICE
  ⟨0x3000, 1, 0x03, 1, .u8, .ro, .rRR, 255, 0, 0, 255⟩,  -- SPARE_MAP
  ⟨0x3000, 1, 0x04, 1, .u8, .ro, .rRR, 228, 0, 0, 255⟩,  -- CLASSROOM_MAP
  ⟨0x3000, 1, 0x05, 1, .u32, .ro, .rRR, 0, 0, 0, 4294967295⟩,  -- REPLAY_TOTAL
  ⟨0x3000, 1, 0x06, 1, .u64, .ro, .rRR, 0, 0, 0, 18446744073709551615⟩,  -- POISONED_POINTS
  ⟨0x3000, 1, 0x07, 1, .u32, .ro, .rRR, 0, 0, 0, 4294967295⟩,  -- STATE_POISON_COUNT
  ⟨0x3000, 1, 0x08, 1, .u16, .wo, .rwNN, 0, 0, 0, 65535⟩,  -- FAULT_INJECT
  ⟨0x3000, 1, 0x10, 1, .u8, .rw, .rwRwN, 0, 0, 0, 8⟩,  -- TT_SOURCE
  ⟨0x3000, 1, 0x11, 1, .dom, .wo, .rwRwN, 0, 0, 0, 4194304⟩,  -- TT_IMAGE
  ⟨0x3000, 1, 0x12, 1, .bool, .wo, .rwRwN, 0, 0, 0, 1⟩,  -- TT_LOAD
  ⟨0x3000, 1, 0x13, 1, .u8, .ro, .rRR, 0, 0, 0, 255⟩,  -- TT_LOAD_STATE
  ⟨0x3000, 1, 0x14, 1, .dom, .ro, .rRR, 0, 0, 0, 4294967295⟩,  -- TT_ERROR
  ⟨0x3000, 1, 0x15, 1, .u8, .rwb, .rwRwR, 0, 0, 0, 1⟩,  -- TT_ACTIVE_SLOT
  ⟨0x3000, 1, 0x16, 1, .u64, .ro, .rRR, 0, 0, 0, 18446744073709551615⟩,  -- TT_SLOT0_ID
  ⟨0x3000, 1, 0x17, 1, .u64, .ro, .rRR, 0, 0, 0, 18446744073709551615⟩,  -- TT_SLOT1_ID
  ⟨0x3000, 1, 0x18, 1, .u8, .ro, .rRR, 255, 0, 0, 255⟩,  -- VARIANT_IN_EFFECT
  ⟨0x3000, 1, 0x19, 1, .u8, .rwb, .rwNR, 255, 0, 0, 255⟩,  -- VARIANT_FORCE
  ⟨0x3000, 1, 0x1a, 1, .u32, .ro, .rRR, 0, 0, 0, 4294967295⟩,  -- BUDGET_CYCLES
  ⟨0x3000, 1, 0x1b, 1, .u32, .ro, .rRR, 0, 0, 0, 4294967295⟩,  -- OVERRUN_COUNT
  ⟨0x3000, 1, 0x1c, 1, .u32, .ro, .rRR, 0, 0, 0, 4294967295⟩,  -- COMPLIANCE_FAULTS
  ⟨0x3000, 1, 0x1d, 1, .u32, .ro, .rRR, 0, 0, 0, 4294967295⟩,  -- PREFETCH_LATE
  ⟨0x3000, 1, 0x1e, 1, .u32, .ro, .rRR, 0, 0, 0, 4294967295⟩,  -- SWITCH_COUNT
  ⟨0x3000, 1, 0x1f, 1, .u8, .ro, .rRR, 0, 0, 0, 255⟩,  -- SWITCH_STATE
  ⟨0x3000, 1, 0x20, 1, .u8, .ro, .rRR, 0, 0, 0, 255⟩,  -- FIT_CODE
  ⟨0x3020, 32, 0x01, 1, .u8, .ro, .rRR, 0, 0, 0, 255⟩,  -- ENGINE_STATE
  ⟨0x3020, 32, 0x02, 1, .u32, .ro, .rRR, 0, 0, 0, 4294967295⟩,  -- PARITY_EVENTS
  ⟨0x3020, 32, 0x03, 1, .u32, .ro, .rRR, 0, 0, 0, 4294967295⟩,  -- REPLAYS
  ⟨0x3020, 32, 0x04, 1, .u16, .ro, .rRR, 0, 0, 0, 65535⟩,  -- HARD_WORDS
  ⟨0x3020, 32, 0x05, 1, .dom, .ro, .rRR, 0, 0, 0, 4294967295⟩,  -- LAST_FAULT
  ⟨0x3020, 32, 0x06, 1, .u32, .ro, .rRR, 0, 0, 0, 4294967295⟩,  -- PEAK_CYCLES
  ⟨0x3020, 32, 0x07, 1, .u32, .ro, .rRR, 0, 0, 0, 4294967295⟩,  -- SCHEDULE_FAULTS
  ⟨0x3040, 4, 0x01, 1, .bool, .ro, .rRR, 0, 0, 0, 1⟩,  -- PRESENT
  ⟨0x3040, 4, 0x02, 1, .bool, .ro, .rRR, 0, 0, 0, 1⟩,  -- FITS
  ⟨0x3040, 4, 0x03, 1, .u32, .ro, .rRR, 0, 0, 0, 4294967295⟩,  -- LESSON_MAX
  ⟨0x3040, 4, 0x04, 1, .u32, .ro, .rRR, 0, 0, 0, 4294967295⟩,  -- SEGMENT_MAX
  ⟨0x3040, 4, 0x05, 1, .u32, .ro, .rRR, 0, 0, 0, 4294967295⟩,  -- MIN_BELL
  ⟨0x3040, 4, 0x06, 1, .u32, .ro, .rRR, 0, 0, 0, 4294967295⟩,  -- LOAD_TIME
  ⟨0x3040, 4, 0x07, 1, .u32, .ro, .rRR, 0, 0, 0, 4294967295⟩,  -- PREFETCH_MAX
  ⟨0x3040, 4, 0x08, 1, .u8, .ro, .rRR, 0, 0, 0, 255⟩  -- LEVEL
]

/-- Entries of the 0x3800 range. -/
def entries38 : List EntryRow := [
  ⟨0x3800, 1, 0x01, 1, .bool, .rwb, .rwRwR, 0, 0, 0, 1⟩,  -- DETECT_ENABLE
  ⟨0x3800, 1, 0x02, 1, .u32, .ro, .rRR, 0, 0, 0, 4294967295⟩,  -- TRIGGER_COUNT
  ⟨0x3800, 1, 0x03, 1, .u16, .ro, .rRR, 0, 0, 0, 65535⟩,  -- TRIGGER_QUEUED
  ⟨0x3800, 1, 0x04, 1, .dom, .ro, .rRN, 0, 0, 0, 4294967295⟩,  -- TRIGGER_NEXT
  ⟨0x3800, 1, 0x05, 1, .u32, .ro, .rRR, 0, 0, 0, 4294967295⟩,  -- TRIGGER_LOST
  ⟨0x3800, 1, 0x06, 1, .u16, .rw, .rwRwR, 1, 0, 1, 1024⟩,  -- TRIGGER_WATERMARK
  ⟨0x3800, 1, 0x07, 1, .u32, .ro, .rRR, 0, 0, 0, 4294967295⟩,  -- SUPPRESSED_COUNT
  ⟨0x3800, 1, 0x08, 1, .u32, .ro, .rRR, 0, 0, 0, 4294967295⟩,  -- STATS_MISSING
  ⟨0x3800, 1, 0x09, 1, .u16, .wo, .rwRwN, 0, 0, 0, 4095⟩,  -- MANUAL_TRIGGER
  ⟨0x3800, 1, 0x0a, 1, .u32, .ro, .rRR, 0, 0, 0, 4294967295⟩,  -- DETECT_REFUSAL
  ⟨0x3800, 1, 0x0b, 1, .u16, .ro, .rRR, 0, 0, 0, 65535⟩,  -- ZONES_SUSPENDED
  ⟨0x3810, 64, 0x01, 1, .dom, .rwb, .rwRwR, 0, 0, 2048, 2048⟩,  -- ZONE_BLOCK
  ⟨0x3850, 64, 0x01, 1, .dom, .rwb, .rwRwR, 0, 0, 4096, 4096⟩  -- DETECTOR_BLOCK
]

/-- Entries of the 0x3900 range. -/
def entries39 : List EntryRow := [
  ⟨0x3900, 1, 0x01, 1, .u64, .ro, .rRR, 0, 0, 0, 18446744073709551615⟩,  -- GRANARY_BYTES
  ⟨0x3900, 1, 0x02, 1, .u32, .ro, .rRR, 0, 0, 0, 4294967295⟩,  -- GRANARY_SLOTS
  ⟨0x3900, 1, 0x03, 1, .u32, .ro, .rRR, 0, 0, 0, 4294967295⟩,  -- SLOT_BYTES
  ⟨0x3900, 1, 0x04, 1, .u64, .ro, .rRR, 0, 0, 0, 18446744073709551615⟩,  -- GRANARY_FIRST_BELL
  ⟨0x3900, 1, 0x05, 1, .dom, .ro, .rRR, 0, 0, 0, 4294967295⟩,  -- LAST_HEADER
  ⟨0x3900, 1, 0x06, 1, .u64, .rw, .rwRR, 268435456, 0, 67108864, 4294967296⟩,  -- HARVEST_AREA_BYTES
  ⟨0x3900, 1, 0x07, 1, .u16, .ro, .rRR, 0, 0, 0, 65535⟩,  -- HARVESTS_HELD
  ⟨0x3900, 1, 0x08, 1, .dom, .ro, .rRN, 0, 0, 0, 4294967295⟩,  -- HARVEST_NEXT
  ⟨0x3900, 1, 0x09, 1, .u32, .wo, .rwRwN, 0, 0, 0, 4294967295⟩,  -- HARVEST_RELEASE
  ⟨0x3900, 1, 0x0a, 1, .u32, .ro, .rRR, 0, 0, 0, 4294967295⟩,  -- HARVEST_COUNT
  ⟨0x3900, 1, 0x0b, 1, .u32, .ro, .rRR, 0, 0, 0, 4294967295⟩,  -- HARVEST_DROPPED
  ⟨0x3900, 1, 0x0c, 1, .u8, .ro, .rRR, 0, 0, 0, 255⟩  -- HARVEST_FORMING
]

/-- Entries of the 0x3A00 range. -/
def entries3A : List EntryRow := [
  ⟨0x3a00, 1, 0x01, 1, .u8, .ro, .rRR, 0, 0, 0, 255⟩,  -- STREAMS_SERVED
  ⟨0x3a10, 8, 0x01, 1, .bool, .rwb, .rwRwR, 0, 0, 0, 1⟩,  -- STREAM_ENABLE
  ⟨0x3a10, 8, 0x02, 1, .u8, .rwb, .rwRwR, 0, 0, 0, 2⟩,  -- STREAM_KIND
  ⟨0x3a10, 8, 0x03, 1, .u32, .rwb, .rwRwR, 0, 0, 0, 4294967295⟩,  -- POINT_FIRST
  ⟨0x3a10, 8, 0x04, 1, .u32, .rwb, .rwRwR, 1024, 0, 0, 4294967295⟩,  -- POINT_COUNT
  ⟨0x3a10, 8, 0x05, 1, .u8, .rwb, .rwRwR, 1, 0, 1, 64⟩,  -- SPATIAL_DECIM
  ⟨0x3a10, 8, 0x06, 1, .u16, .rwb, .rwRwR, 1, 0, 1, 4096⟩,  -- TEMPORAL_DECIM
  ⟨0x3a10, 8, 0x07, 1, .u8, .rw, .rwRwR, 1, 0, 0, 3⟩,  -- ROUTE
  ⟨0x3a10, 8, 0x08, 1, .u8, .ro, .rRR, 0, 0, 0, 255⟩,  -- STREAM_STATE
  ⟨0x3a10, 8, 0x09, 1, .u32, .ro, .rRR, 0, 0, 0, 4294967295⟩,  -- RECORD_BYTES
  ⟨0x3a10, 8, 0x0a, 1, .u64, .ro, .rRR, 0, 0, 0, 18446744073709551615⟩,  -- RECORDS_RELEASED
  ⟨0x3a10, 8, 0x0b, 1, .u32, .ro, .rRR, 0, 0, 0, 4294967295⟩  -- RECORDS_LOST
]

/-- Entries of the 0x4800 range. -/
def entries48_0 : List EntryRow := [
  ⟨0x4800, 1, 0x01, 1, .u8, .rw, .rwRwR, 1, 0, 0, 3⟩,  -- HK_MODE
  ⟨0x4800, 1, 0x02, 1, .u32, .rw, .rwRwR, 10000, 0, 10, 60000000⟩,  -- TIMER_PERIOD
  ⟨0x4800, 1, 0x03, 1, .u8, .rw, .rwRwR, 0, 0, 0, 7⟩,  -- PWM_LINE
  ⟨0x4800, 1, 0x04, 1, .u16, .rw, .rwRwR, 0, 0, 0, 65535⟩,  -- PWM_DELAY
  ⟨0x4800, 1, 0x05, 1, .u8, .rw, .rwRwR, 1, 0, 1, 32⟩,  -- SEQ_LENGTH
  ⟨0x4800, 1, 0x06, 1, .bool, .wo, .rwRwN, 0, 0, 0, 1⟩,  -- HK_START
  ⟨0x4800, 1, 0x07, 1, .u8, .ro, .rRR, 0, 0, 0, 255⟩,  -- HK_STATE
  ⟨0x4800, 1, 0x08, 1, .u32, .ro, .rRR, 0, 0, 0, 4294967295⟩,  -- RUN_COUNT
  ⟨0x4800, 1, 0x09, 1, .u32, .ro, .rRR, 0, 0, 0, 4294967295⟩,  -- MISSED_STARTS
  ⟨0x4800, 1, 0x0a, 1, .bool, .wo, .rwRwN, 0, 0, 0, 1⟩,  -- HK_CAL_RUN
  ⟨0x4800, 1, 0x0b, 1, .u8, .ro, .rRR, 0, 0, 0, 255⟩,  -- HK_CAL_STATE
  ⟨0x4800, 1, 0x0c, 1, .u8, .rw, .rwRwR, 128, 0, 0, 255⟩,  -- TEST_DAC
  ⟨0x4800, 1, 0x0d, 1, .u8, .wo, .rwRwN, 0, 0, 0, 15⟩,  -- STICKY_CLEAR
  ⟨0x4810, 1, 0x01, 32, .u64, .rw, .rwRwR, 18446462607322775552, 0, 0, 18446744073709551615⟩,  -- SLOT_k
  ⟨0x4820, 24, 0x01, 1, .u16, .ro, .rRR, 0, 0, 0, 65535⟩,  -- CODE
  ⟨0x4820, 24, 0x02, 1, .u16, .ro, .rRR, 0, 0, 0, 65535⟩,  -- CODE_FINE
  ⟨0x4820, 24, 0x03, 1, .u8, .ro, .rRR, 0, 0, 0, 255⟩,  -- IN_FLAGS
  ⟨0x4820, 24, 0x04, 1, .i32, .ro, .rRR, 0, 0, (-2147483648), 2147483647⟩,  -- VALUE
  ⟨0x4820, 24, 0x05, 1, .u16, .rw, .rwRwR, 0, 0, 0, 4095⟩,  -- LIMIT_LOW
  ⟨0x4820, 24, 0x06, 1, .u16, .rw, .rwRwR, 4095, 0, 0, 4095⟩,  -- LIMIT_HIGH
  ⟨0x4820, 24, 0x07, 1, .u8, .rw, .rwRwR, 1, 0, 1, 15⟩,  -- LIMIT_CONSEC
  ⟨0x4820, 24, 0x08, 1, .u32, .ro, .rRR, 0, 0, 0, 4294967295⟩,  -- LIMIT_EVENTS
  ⟨0x4820, 24, 0x09, 1, .u16, .ro, .rRR, 65535, 0, 0, 65535⟩,  -- TEST_CODE
  ⟨0x4820, 24, 0x0a, 1, .u32, .ro, .rRR, 0, 0, 0, 4294967295⟩,  -- OPEN_COUNT
  ⟨0x4840, 16, 0x01, 1, .u16, .ro, .rRR, 0, 0, 0, 65535⟩,  -- CODE
  ⟨0x4840, 16, 0x02, 1, .u16, .ro, .rRR, 0, 0, 0, 65535⟩,  -- CODE_FINE
  ⟨0x4840, 16, 0x03, 1, .u8, .ro, .rRR, 0, 0, 0, 255⟩,  -- IN_FLAGS
  ⟨0x4840, 16, 0x04, 1, .i32, .ro, .rRR, 0, 0, (-2147483648), 2147483647⟩,  -- VALUE
  ⟨0x4840, 16, 0x05, 1, .u16, .rw, .rwRwR, 0, 0, 0, 4095⟩,  -- LIMIT_LOW
  ⟨0x4840, 16, 0x06, 1, .u16, .rw, .rwRwR, 4095, 0, 0, 4095⟩,  -- LIMIT_HIGH
  ⟨0x4840, 16, 0x07, 1, .u8, .rw, .rwRwR, 1, 0, 1, 15⟩,  -- LIMIT_CONSEC
  ⟨0x4840, 16, 0x08, 1, .u32, .ro, .rRR, 0, 0, 0, 4294967295⟩,  -- LIMIT_EVENTS
  ⟨0x4840, 16, 0x09, 1, .u16, .ro, .rRR, 65535, 0, 0, 65535⟩,  -- TEST_CODE
  ⟨0x4840, 16, 0x0a, 1, .u32, .ro, .rRR, 0, 0, 0, 4294967295⟩,  -- OPEN_COUNT
  ⟨0x4860, 4, 0x01, 1, .u8, .rw, .rwRwR, 1, 0, 0, 2⟩,  -- SENS_TYPE
  ⟨0x4860, 4, 0x02, 1, .u8, .rw, .rwRwR, 0, 0, 0, 7⟩,  -- EXC_STEP
  ⟨0x4860, 4, 0x03, 1, .u8, .rw, .rwRwR, 0, 0, 0, 7⟩,  -- GAIN_STEP
  ⟨0x4860, 4, 0x04, 1, .bool, .rw, .rwRwR, 1, 0, 0, 1⟩,  -- BURNOUT
  ⟨0x4860, 4, 0x05, 1, .u32, .rw, .rwRwR, 1000000, 0, 100000, 100000000⟩,  -- R_NOMINAL
  ⟨0x4860, 4, 0x06, 1, .u16, .rw, .rwRwR, 3435, 0, 1000, 6000⟩  -- BETA
]

/-- Entries of the 0x4800 range. -/
def entries48_1 : List EntryRow := [
  ⟨0x4860, 4, 0x07, 1, .u16, .rw, .rwRwR, 0, 0, 0, 10000⟩,  -- LEAD_MOHM
  ⟨0x4860, 4, 0x08, 1, .u32, .ro, .rRR, 0, 0, 0, 4294967295⟩,  -- RESISTANCE
  ⟨0x4860, 4, 0x09, 1, .u32, .ro, .rRR, 0, 0, 0, 4294967295⟩,  -- TEMPERATURE
  ⟨0x4860, 4, 0x0a, 1, .u8, .ro, .rRR, 0, 0, 0, 255⟩,  -- SENS_FLAGS
  ⟨0x4870, 1, 0x01, 1, .i16, .rw, .rwRwR, 0, 0, (-2048), 2048⟩,  -- OFFSET_A
  ⟨0x4870, 1, 0x02, 1, .u16, .rw, .rwRwR, 32768, 0, 31130, 34406⟩,  -- GAIN_A
  ⟨0x4870, 1, 0x03, 1, .i16, .rw, .rwRwR, 0, 0, (-2048), 2048⟩,  -- OFFSET_B
  ⟨0x4870, 1, 0x04, 1, .u16, .rw, .rwRwR, 32768, 0, 31130, 34406⟩,  -- GAIN_B
  ⟨0x4878, 4, 0x01, 8, .u16, .rw, .rwRwR, 32768, 0, 31130, 34406⟩,  -- PGA_FACTOR
  ⟨0x4878, 4, 0x11, 8, .u16, .rw, .rwRwR, 32768, 0, 31130, 34406⟩  -- EXC_FACTOR
]

/-- Entries of the 0x4800 range. -/
def entries48 : List EntryRow := entries48_0 ++ entries48_1

/-- Entries of the 0x5400 range. -/
def entries54 : List EntryRow := [
  ⟨0x5400, 1, 0x01, 1, .u8, .ro, .rRR, 0, 0, 0, 255⟩,  -- BARN_STATE
  ⟨0x5400, 1, 0x02, 1, .u64, .ro, .rRR, 0, 0, 0, 18446744073709551615⟩,  -- BARN_BYTES
  ⟨0x5400, 1, 0x03, 1, .u32, .rw, .rwNR, 67108864, 0, 0, 2147483648⟩,  -- SUP_AREA_BYTES
  ⟨0x5400, 1, 0x04, 1, .u64, .ro, .rRR, 0, 0, 0, 18446744073709551615⟩,  -- RING_AREA_BYTES
  ⟨0x5400, 1, 0x05, 1, .dom, .ro, .rRR, 0, 0, 0, 4294967295⟩,  -- LAYOUT
  ⟨0x5400, 1, 0x06, 1, .u8, .rw, .rwNR, 0, 0, 0, 2⟩,  -- REFRESH_MODE
  ⟨0x5400, 1, 0x07, 1, .bool, .rw, .rwNR, 0, 0, 0, 1⟩,  -- REFRESH_DOUBLE
  ⟨0x5400, 1, 0x08, 1, .u16, .rw, .rwNR, 100, 0, 10, 1000⟩,  -- RECAL_PERIOD
  ⟨0x5400, 1, 0x09, 1, .u32, .rw, .rwNR, 86400, 0, 0, 604800⟩,  -- SCRUB_PERIOD
  ⟨0x5400, 1, 0x0a, 1, .u32, .rw, .rwRwR, 1000, 0, 0, 1000000⟩,  -- SR_ENTRY_DELAY
  ⟨0x5400, 1, 0x0b, 1, .u32, .ro, .rRR, 0, 0, 0, 4294967295⟩,  -- SR_CANCEL_COUNT
  ⟨0x5400, 1, 0x0c, 1, .u32, .ro, .rRR, 0, 0, 0, 4294967295⟩,  -- SR_WAKE_COUNT
  ⟨0x5400, 1, 0x0d, 1, .dom, .ro, .rRR, 0, 0, 0, 4294967295⟩,  -- LAST_SR_WAKE
  ⟨0x5400, 1, 0x0e, 1, .u32, .ro, .rRR, 0, 0, 0, 4294967295⟩,  -- SCHED_LATE
  ⟨0x5400, 1, 0x0f, 1, .u32, .ro, .rRR, 0, 0, 0, 4294967295⟩,  -- SCRUB_PASSES
  ⟨0x5400, 1, 0x10, 1, .u8, .wo, .rwNN, 0, 0, 0, 3⟩,  -- LOG_CLEAR
  ⟨0x5400, 1, 0x11, 1, .u8, .ro, .rRR, 0, 0, 0, 255⟩,  -- MAP_STATE
  ⟨0x5410, 1, 0x01, 1, .bool, .rw, .rwNR, 1, 0, 0, 1⟩,  -- POPULATED
  ⟨0x5410, 2, 0x02, 1, .u8, .rw, .rwNR, 8, 0, 8, 16⟩,  -- DEVICE_WIDTH
  ⟨0x5410, 2, 0x03, 1, .u8, .rw, .rwNR, 8, 0, 8, 16⟩,  -- DENSITY_GB
  ⟨0x5410, 2, 0x04, 1, .u8, .rw, .rwNR, 1, 0, 1, 2⟩,  -- RANKS
  ⟨0x5410, 2, 0x05, 1, .u8, .rw, .rwNR, 22, 0, 20, 24⟩,  -- CAS_LATENCY
  ⟨0x5410, 2, 0x06, 1, .u8, .ro, .rRR, 0, 0, 0, 255⟩,  -- TRAINING_STATE
  ⟨0x5410, 2, 0x07, 1, .u64, .ro, .rRR, 0, 0, 0, 18446744073709551615⟩,  -- CE_COUNT
  ⟨0x5410, 2, 0x08, 1, .u32, .ro, .rRR, 0, 0, 0, 4294967295⟩,  -- UE_COUNT
  ⟨0x5410, 2, 0x09, 1, .u32, .ro, .rRR, 0, 0, 0, 4294967295⟩,  -- POISON_READS
  ⟨0x5410, 2, 0x0a, 1, .u32, .ro, .rRR, 0, 0, 0, 4294967295⟩,  -- CA_PARITY_RETRIES
  ⟨0x5410, 2, 0x0b, 1, .u32, .ro, .rRR, 0, 0, 0, 4294967295⟩,  -- CA_PARITY_FAILS
  ⟨0x5410, 2, 0x0c, 1, .u32, .ro, .rRR, 0, 0, 0, 4294967295⟩,  -- CRC_RETRIES
  ⟨0x5410, 2, 0x0d, 1, .u32, .ro, .rRR, 0, 0, 0, 4294967295⟩,  -- CRC_FAILS
  ⟨0x5410, 2, 0x0e, 1, .dom, .ro, .rRR, 0, 0, 0, 4294967295⟩,  -- ERROR_LOG
  ⟨0x5411, 1, 0x01, 1, .bool, .rw, .rwNR, 0, 0, 0, 1⟩,  -- POPULATED
  ⟨0x5420, 1, 0x01, 1, .u64, .rw, .rwNR, 18446744073709551615, 0, 0, 18446744073709551615⟩,  -- ADDR_MAP_CH
  ⟨0x5420, 1, 0x02, 1, .u64, .rw, .rwNR, 18446744073709551615, 0, 0, 18446744073709551615⟩,  -- ADDR_MAP_RK
  ⟨0x5420, 1, 0x03, 1, .u64, .rw, .rwNR, 18446744073694220807, 0, 0, 18446744073709551615⟩,  -- ADDR_MAP_BG1
  ⟨0x5420, 1, 0x04, 1, .u64, .rw, .rwNR, 18446744073694155014, 0, 0, 18446744073709551615⟩,  -- ADDR_MAP_BG0
  ⟨0x5420, 1, 0x05, 1, .u64, .rw, .rwNR, 18446744073694352398, 0, 0, 18446744073709551615⟩,  -- ADDR_MAP_BA1
  ⟨0x5420, 1, 0x06, 1, .u64, .rw, .rwNR, 18446744073694286605, 0, 0, 18446744073709551615⟩  -- ADDR_MAP_BA0
]

/-- Entries of the 0x5800 range. -/
def entries58 : List EntryRow := [
  ⟨0x5800, 1, 0x01, 1, .dom, .ro, .rRR, 0, 0, 0, 4294967295⟩,  -- PENDING
  ⟨0x5800, 1, 0x02, 1, .dom, .ro, .rRR, 0, 0, 0, 4294967295⟩,  -- COUNTS
  ⟨0x5800, 1, 0x03, 1, .dom, .wo, .rwRwN, 0, 0, 24, 24⟩,  -- PENDING_CLEAR
  ⟨0x5800, 1, 0x04, 1, .dom, .rw, .rwRR, 0, 0, 96, 96⟩,  -- ROUTES
  ⟨0x5800, 1, 0x05, 1, .u8, .rw, .rwRwR, 0, 0, 0, 15⟩,  -- TARGET_DISABLE
  ⟨0x5800, 1, 0x06, 1, .u32, .ro, .rRR, 0, 0, 0, 4294967295⟩,  -- FALLBACK_COUNT
  ⟨0x5800, 1, 0x07, 1, .u8, .ro, .rRR, 0, 0, 0, 255⟩,  -- PRESENTED
  ⟨0x5880, 1, 0x01, 1, .bool, .rw, .rwNR, 1, 0, 0, 1⟩,  -- APP_CORE_RUN
  ⟨0x5880, 1, 0x02, 1, .u8, .ro, .rRR, 0, 0, 0, 255⟩,  -- APP_CORE_STATE
  ⟨0x5880, 1, 0x03, 1, .u8, .ro, .rRR, 0, 0, 0, 255⟩  -- FW_SELECTED
]

/-- Entries of the 0x6000 range. -/
def entries60 : List EntryRow := [
  ⟨0x6000, 1, 0x01, 1, .u8, .wo, .rwNN, 0, 0, 1, 3⟩,  -- LIFECYCLE_ADVANCE
  ⟨0x6000, 1, 0x02, 1, .u8, .ro, .rRR, 255, 0, 0, 255⟩,  -- LIFECYCLE_PENDING
  ⟨0x6000, 1, 0x03, 1, .dom, .wo, .rwNN, 0, 0, 40, 40⟩,  -- KEY_PROGRAM
  ⟨0x6000, 1, 0x04, 1, .u8, .wo, .rwNN, 0, 0, 0, 3⟩,  -- KEY_REVOKE
  ⟨0x6000, 1, 0x05, 1, .u16, .ro, .rRR, 0, 0, 0, 65535⟩,  -- KEY_STATE
  ⟨0x6000, 1, 0x06, 1, .u8, .rw, .rwNN, 2, 0, 0, 3⟩,  -- DEBUG_REQUEST
  ⟨0x6000, 1, 0x07, 1, .u8, .ro, .rRR, 2, 0, 0, 255⟩,  -- DEBUG_STATE
  ⟨0x6000, 1, 0x08, 1, .u8, .rw, .rwNR, 0, 0, 0, 2⟩,  -- DEBUG_DEFAULT
  ⟨0x6000, 1, 0x09, 1, .u32, .ro, .rRR, 0, 0, 0, 4294967295⟩,  -- AUTH_FAILURES
  ⟨0x6000, 1, 0x0a, 1, .u32, .rw, .rwNR, 600, 0, 10, 86400⟩,  -- SESSION_IDLE
  ⟨0x6020, 3, 0x01, 1, .dom, .ro, .rRR, 0, 0, 0, 4294967295⟩,  -- NONCE
  ⟨0x6020, 3, 0x02, 1, .dom, .wo, .rwRwRw, 0, 0, 64, 64⟩,  -- SESSION_OPEN
  ⟨0x6020, 3, 0x03, 1, .u8, .ro, .rRR, 2, 0, 0, 255⟩,  -- SESSION_LEVEL
  ⟨0x6020, 3, 0x04, 1, .bool, .wo, .rwRwRw, 0, 0, 0, 1⟩,  -- SESSION_CLOSE
  ⟨0x6040, 3, 0x01, 1, .dom, .rw, .rwNN, 0, 0, 128, 128⟩,  -- WINDOW
  ⟨0x6040, 3, 0x02, 1, .u32, .ro, .rRR, 0, 0, 0, 4294967295⟩,  -- WINDOW_REFUSALS
  ⟨0x6040, 3, 0x03, 1, .dom, .ro, .rRR, 0, 0, 0, 4294967295⟩  -- LAST_REFUSED
]

/-- Entries of the 0x6100 range. -/
def entries61 : List EntryRow := [
  ⟨0x6100, 1, 0x01, 1, .dom, .rw, .rwNN, 0, 0, 0, 2048⟩,  -- RIGHTS_OVERRIDES
  ⟨0x6100, 1, 0x02, 1, .u16, .ro, .rRR, 0, 0, 0, 65535⟩,  -- OVERRIDE_COUNT
  ⟨0x6110, 3, 0x01, 1, .u8, .rw, .rwNN, 0, 0, 0, 2⟩,  -- LEVEL_CAP
  ⟨0x6110, 4, 0x02, 1, .u8, .ro, .rRR, 2, 0, 0, 255⟩,  -- LEVEL_NOW
  ⟨0x6113, 1, 0x01, 1, .u8, .rw, .rwNN, 1, 0, 0, 2⟩  -- LEVEL_CAP
]

/-- Entries of the 0x6400 range. -/
def entries64 : List EntryRow := [
  ⟨0x6400, 1, 0x01, 1, .u8, .rw, .rwRwR, 1, 0, 0, 3⟩,  -- POWER_REQUEST
  ⟨0x6400, 1, 0x02, 1, .u8, .ro, .rRR, 1, 0, 0, 255⟩,  -- POWER_STATE
  ⟨0x6400, 1, 0x03, 1, .u8, .ro, .rRR, 0, 0, 0, 255⟩,  -- SUPPLY_STATE
  ⟨0x6400, 1, 0x04, 1, .u32, .ro, .rRR, 0, 0, 0, 4294967295⟩,  -- DIP_COUNT
  ⟨0x6400, 1, 0x05, 1, .dom, .ro, .rRR, 0, 0, 0, 4294967295⟩,  -- LAST_DIP
  ⟨0x6400, 1, 0x06, 1, .u32, .ro, .rRR, 0, 0, 0, 4294967295⟩,  -- HOLD_COUNT
  ⟨0x6400, 1, 0x07, 1, .bool, .ro, .rRR, 0, 0, 0, 1⟩,  -- VHOLD_OK
  ⟨0x6400, 1, 0x10, 1, .u8, .rw, .rwNR, 255, 0, 0, 255⟩,  -- START_TT_SLOT
  ⟨0x6400, 1, 0x11, 1, .bool, .rw, .rwNR, 0, 0, 0, 1⟩,  -- START_BELLS
  ⟨0x6400, 1, 0x12, 1, .u32, .rw, .rwNR, 0, 0, 0, 60000⟩,  -- START_ALIGN
  ⟨0x6400, 1, 0x13, 1, .u8, .ro, .rRR, 0, 0, 0, 255⟩,  -- START_STATE
  ⟨0x6400, 1, 0x14, 1, .dom, .ro, .rRR, 0, 0, 0, 4294967295⟩,  -- START_TIMES
  ⟨0x6400, 1, 0x15, 1, .u8, .ro, .rRR, 0, 0, 0, 255⟩,  -- RESET_CAUSE
  ⟨0x6400, 1, 0x16, 1, .u32, .ro, .rRR, 0, 0, 0, 4294967295⟩  -- CORE_RESTARTS
]

/-- Entries of the 0x6800 range. -/
def entries68 : List EntryRow := [
  ⟨0x6800, 1, 0x01, 1, .u8, .ro, .rRR, 0, 0, 0, 255⟩,  -- BB_STATE
  ⟨0x6800, 1, 0x02, 1, .u32, .ro, .rRR, 0, 0, 0, 4294967295⟩,  -- SEQ_NEXT
  ⟨0x6800, 1, 0x03, 1, .u32, .ro, .rRR, 0, 0, 0, 4294967295⟩,  -- START_COUNT
  ⟨0x6800, 1, 0x04, 1, .u16, .ro, .rRR, 0, 0, 0, 65535⟩,  -- SEALED_HELD
  ⟨0x6800, 1, 0x05, 1, .u16, .ro, .rRR, 0, 0, 0, 65535⟩,  -- CIRCULAR_HELD
  ⟨0x6800, 1, 0x06, 1, .u16, .ro, .rRR, 1024, 0, 0, 65535⟩,  -- CIRCULAR_NEXT
  ⟨0x6800, 1, 0x07, 1, .u8, .ro, .rRR, 0, 0, 0, 255⟩,  -- QUEUED
  ⟨0x6800, 1, 0x08, 1, .dom, .ro, .rRR, 0, 0, 0, 4294967295⟩,  -- DROP_STATE
  ⟨0x6800, 1, 0x09, 1, .dom, .ro, .rRR, 0, 0, 0, 4294967295⟩,  -- DROP_TOTAL
  ⟨0x6800, 1, 0x0a, 1, .u32, .ro, .rRR, 0, 0, 0, 4294967295⟩,  -- MRAM_RETRIES
  ⟨0x6800, 1, 0x0b, 1, .dom, .ro, .rRR, 0, 0, 0, 4294967295⟩,  -- LAST_RECORD
  ⟨0x6880, 1, 0x01, 16, .dom, .ro, .rRR, 0, 0, 0, 4096⟩,  -- SEALED_PAGE
  ⟨0x6881, 1, 0x01, 240, .dom, .ro, .rRR, 0, 0, 0, 4096⟩  -- CIRCULAR_PAGE
]

/-- Entries of the 0x6C00 range. -/
def entries6C : List EntryRow := [
  ⟨0x6c00, 1, 0x01, 1, .dom, .ro, .rRR, 0, 0, 0, 4294967295⟩,  -- CARD
  ⟨0x6c00, 1, 0x02, 1, .u8, .ro, .rRR, 0, 0, 0, 255⟩,  -- CARD_STATE
  ⟨0x6c00, 1, 0x03, 1, .u8, .ro, .rRR, 0, 0, 0, 255⟩,  -- START_KIND
  ⟨0x6c00, 1, 0x04, 1, .u8, .ro, .rRR, 0, 0, 0, 255⟩,  -- QUIET_CAUSE
  ⟨0x6c00, 1, 0x05, 1, .bool, .rw, .rwNR, 1, 0, 0, 1⟩,  -- BIST_ON_SHUTDOWN
  ⟨0x6c00, 1, 0x06, 1, .u16, .ro, .rRR, 0, 0, 0, 65535⟩,  -- REPAIRS
  ⟨0x6c00, 1, 0x07, 1, .u16, .ro, .rRR, 0, 0, 0, 65535⟩,  -- UNREPAIRED
  ⟨0x6c00, 1, 0x08, 1, .dom, .ro, .rRR, 0, 0, 0, 4294967295⟩,  -- MBIST_LOG
  ⟨0x6c00, 1, 0x09, 1, .bool, .rw, .rwRwR, 1, 0, 0, 1⟩,  -- SLICE_ENABLE
  ⟨0x6c00, 1, 0x0a, 1, .u16, .rw, .rwRwR, 64, 0, 1, 65535⟩,  -- SLICE_PERIOD
  ⟨0x6c00, 1, 0x0b, 1, .u32, .ro, .rRR, 0, 0, 0, 4294967295⟩,  -- SLICE_PASSES
  ⟨0x6c00, 1, 0x0c, 1, .u32, .ro, .rRR, 0, 0, 0, 4294967295⟩,  -- SLICE_FAILS
  ⟨0x6c00, 1, 0x0d, 1, .dom, .ro, .rRR, 0, 0, 0, 4294967295⟩  -- LAST_SLICE
]

/-- Entries of the 0x7000 range. -/
def entries70 : List EntryRow := [
  ⟨0x7000, 1, 0x01, 1, .dom, .wo, .rwRwN, 0, 0, 16, 16⟩,  -- OP_START
  ⟨0x7000, 1, 0x02, 1, .u32, .wo, .rwRwN, 0, 0, 0, 4294967295⟩,  -- OP_ABORT
  ⟨0x7000, 1, 0x03, 1, .u8, .ro, .rRR, 0, 0, 0, 255⟩,  -- OPS_RUNNING
  ⟨0x7000, 1, 0x04, 1, .u32, .ro, .rRR, 0, 0, 0, 4294967295⟩,  -- OP_LAST_ID
  ⟨0x7000, 1, 0x05, 1, .dom, .ro, .rRR, 0, 0, 0, 4294967295⟩,  -- PROFILE_DIRECTORY
  ⟨0x7000, 1, 0x06, 1, .u8, .rw, .rwNR, 255, 0, 0, 255⟩,  -- PROFILE_AUTO
  ⟨0x7010, 8, 0x01, 1, .u32, .ro, .rRR, 0, 0, 0, 4294967295⟩,  -- OP_ID
  ⟨0x7010, 8, 0x02, 1, .u8, .ro, .rRR, 0, 0, 0, 255⟩,  -- OP_KIND
  ⟨0x7010, 8, 0x03, 1, .u8, .ro, .rRR, 0, 0, 0, 255⟩,  -- OP_STATE
  ⟨0x7010, 8, 0x04, 1, .u32, .ro, .rRR, 0, 0, 0, 4294967295⟩,  -- STEPS_DONE
  ⟨0x7010, 8, 0x05, 1, .u32, .ro, .rRR, 0, 0, 0, 4294967295⟩,  -- STEPS_TOTAL
  ⟨0x7010, 8, 0x06, 1, .u64, .ro, .rRR, 0, 0, 0, 18446744073709551615⟩,  -- START_CSN
  ⟨0x7010, 8, 0x07, 1, .u64, .ro, .rRR, 0, 0, 0, 18446744073709551615⟩,  -- END_CSN
  ⟨0x7010, 8, 0x08, 1, .u16, .ro, .rRR, 0, 0, 0, 65535⟩  -- OP_RESULT
]

/-- Entries of the 0x7400 range. -/
def entries74 : List EntryRow := [
  ⟨0x7400, 1, 0x01, 1, .u8, .ro, .rRR, 0, 0, 0, 255⟩,  -- RING_STATE
  ⟨0x7400, 1, 0x02, 1, .u8, .ro, .rRR, 0, 0, 0, 255⟩,  -- RING_ADDRESS
  ⟨0x7400, 1, 0x03, 1, .u16, .ro, .rRR, 0, 0, 0, 65535⟩,  -- RING_ID
  ⟨0x7400, 1, 0x04, 1, .u16, .ro, .rRR, 0, 0, 0, 65535⟩,  -- ROLL_SEQ
  ⟨0x7400, 1, 0x05, 1, .u32, .rw, .rwRwR, 2000, 0, 100, 100000⟩,  -- DUP_WINDOW
  ⟨0x7400, 1, 0x06, 1, .u16, .rw, .rwRwR, 10, 0, 1, 10000⟩,  -- LINK_HOLD
  ⟨0x7400, 1, 0x07, 1, .bool, .ro, .rRR, 0, 0, 0, 1⟩,  -- ALARM_OUT
  ⟨0x7400, 1, 0x08, 1, .u8, .ro, .rRR, 255, 0, 0, 255⟩,  -- MASTER_QUALITY
  ⟨0x7400, 1, 0x09, 1, .dom, .ro, .rRR, 0, 0, 0, 4294967295⟩,  -- LAST_MARK
  ⟨0x7400, 1, 0x0a, 1, .u32, .ro, .rRR, 0, 0, 0, 4294967295⟩,  -- MARKS_USED
  ⟨0x7400, 1, 0x0b, 1, .u32, .ro, .rRR, 0, 0, 0, 4294967295⟩,  -- DUPLICATES
  ⟨0x7400, 1, 0x0c, 1, .u32, .ro, .rRR, 0, 0, 0, 4294967295⟩,  -- PENDING_ANSWERS
  ⟨0x7400, 1, 0x0d, 1, .u64, .ro, .rRR, 0, 0, 0, 18446744073709551615⟩,  -- EXPEDITED_SERVED
  ⟨0x7400, 1, 0x0e, 1, .u32, .ro, .rRR, 0, 0, 0, 4294967295⟩,  -- MAILBOX_SERVED
  ⟨0x7410, 2, 0x01, 1, .u8, .rw, .rwNR, 0, 0, 0, 2⟩,  -- PORT_MODE
  ⟨0x7410, 2, 0x02, 1, .u8, .ro, .rRR, 0, 0, 0, 255⟩,  -- LINK_STATE
  ⟨0x7410, 2, 0x03, 1, .u32, .rw, .rwRwR, 0, 0, 0, 4000000000⟩,  -- LINK_DELAY
  ⟨0x7410, 2, 0x04, 1, .bool, .ro, .rRR, 0, 0, 0, 1⟩,  -- DELAY_VALID
  ⟨0x7410, 2, 0x05, 1, .i32, .rw, .rwRwR, 0, 0, (-1000000), 1000000⟩,  -- LINK_ASYM
  ⟨0x7410, 2, 0x06, 1, .u32, .rw, .rwNR, 0, 0, 0, 2000000⟩,  -- PHY_DELAY_RX
  ⟨0x7410, 2, 0x07, 1, .u32, .rw, .rwNR, 0, 0, 0, 2000000⟩,  -- PHY_DELAY_TX
  ⟨0x7410, 2, 0x08, 1, .u32, .ro, .rRR, 0, 0, 0, 4294967295⟩,  -- RESIDENCE_MAX
  ⟨0x7410, 2, 0x09, 1, .u64, .ro, .rRR, 0, 0, 0, 18446744073709551615⟩,  -- FRAMES_IN
  ⟨0x7410, 2, 0x0a, 1, .u32, .ro, .rRR, 0, 0, 0, 4294967295⟩,  -- FCS_ERRORS
  ⟨0x7410, 2, 0x0b, 1, .u32, .ro, .rRR, 0, 0, 0, 4294967295⟩,  -- SLOT_CRC_ERRORS
  ⟨0x7410, 2, 0x0c, 1, .u32, .ro, .rRR, 0, 0, 0, 4294967295⟩,  -- REJECTED_FRAMES
  ⟨0x7410, 2, 0x0d, 1, .u32, .ro, .rRR, 0, 0, 0, 4294967295⟩,  -- FOREIGN_FRAMES
  ⟨0x7410, 2, 0x0e, 1, .u32, .ro, .rRR, 0, 0, 0, 4294967295⟩  -- LINK_DOWNS
]

/-- Entries of the 0x7500 range. -/
def entries75 : List EntryRow := [
  ⟨0x7500, 1, 0x01, 1, .u8, .ro, .rRR, 0, 0, 0, 255⟩,  -- HOST_LINK
  ⟨0x7500, 1, 0x02, 1, .u8, .ro, .rRR, 0, 0, 0, 255⟩,  -- LINK_SPEED
  ⟨0x7500, 1, 0x03, 1, .u8, .ro, .rRR, 0, 0, 0, 255⟩,  -- LINK_WIDTH
  ⟨0x7500, 1, 0x04, 1, .u8, .ro, .rRR, 0, 0, 0, 255⟩,  -- HOST_D_STATE
  ⟨0x7500, 1, 0x05, 1, .u32, .rw, .rwNR, 268435456, 0, 1048576, 1073741824⟩,  -- HOST_WINDOW_BYTES
  ⟨0x7500, 1, 0x06, 1, .u64, .rw, .rwNR, 0, 0, 0, 18446744073709551615⟩,  -- HOST_WINDOW_BASE
  ⟨0x7500, 1, 0x08, 1, .u32, .rw, .rwRwR, 1000, 0, 10, 1000000⟩,  -- TDC_FLUSH
  ⟨0x7500, 1, 0x09, 1, .dom, .ro, .rRR, 0, 0, 0, 4294967295⟩,  -- AER_COUNTS
  ⟨0x7500, 1, 0x0a, 1, .u32, .ro, .rRR, 0, 0, 0, 4294967295⟩,  -- HOST_RESETS
  ⟨0x7500, 1, 0x0b, 1, .u32, .ro, .rRR, 0, 0, 0, 4294967295⟩,  -- PME_COUNT
  ⟨0x7500, 1, 0x20, 1, .bool, .rw, .rwRwR, 0, 0, 0, 1⟩,  -- STREAM_PORT_ENABLE
  ⟨0x7500, 1, 0x21, 1, .u8, .ro, .rRR, 0, 0, 0, 255⟩,  -- STREAM_LINK
  ⟨0x7500, 1, 0x22, 1, .u64, .rw, .rwNR, -1, 0, 0, 281474976710655⟩,  -- STREAM_MAC (-1 stands for the value of R397 from UNIT_ID)
  ⟨0x7500, 1, 0x23, 1, .u32, .rw, .rwNR, 0, 0, 0, 3758096383⟩,  -- STREAM_IP
  ⟨0x7500, 1, 0x24, 1, .u16, .rw, .rwRwR, 1500, 0, 576, 9000⟩,  -- MTU
  ⟨0x7500, 1, 0x25, 1, .u8, .rw, .rwRwR, 64, 0, 1, 255⟩,  -- TTL
  ⟨0x7500, 1, 0x26, 1, .u8, .rw, .rwRwR, 0, 0, 0, 63⟩,  -- DSCP
  ⟨0x7500, 1, 0x27, 1, .u32, .ro, .rRR, 0, 0, 0, 4294967295⟩,  -- ARP_REPLIES
  ⟨0x7500, 1, 0x28, 1, .u32, .ro, .rRR, 0, 0, 0, 4294967295⟩,  -- RX_DISCARDED
  ⟨0x7500, 1, 0x29, 1, .u64, .ro, .rRR, 0, 0, 0, 18446744073709551615⟩,  -- DATAGRAMS_SENT
  ⟨0x7500, 1, 0x2a, 1, .u32, .ro, .rRR, 0, 0, 0, 4294967295⟩,  -- DROPPED_UNSENT
  ⟨0x7510, 8, 0x01, 1, .u64, .rw, .rwRwR, 0, 0, 0, 281474976710655⟩,  -- DEST_MAC
  ⟨0x7510, 8, 0x02, 1, .u32, .rw, .rwRwR, 0, 0, 0, 4294967295⟩,  -- DEST_IP
  ⟨0x7510, 8, 0x03, 1, .u16, .rw, .rwRwR, 50000, 0, 1, 65535⟩,  -- DEST_PORT
  ⟨0x7510, 8, 0x04, 1, .u16, .rw, .rwRwR, 49152, 1, 1, 65535⟩  -- SRC_PORT
]

/-- Entries of the 0x7800 range. -/
def entries78 : List EntryRow := [
  ⟨0x7800, 1, 0x01, 1, .u8, .rw, .rwRR, 46, 0, 0, 255⟩,  -- LEVEL_ALLOW
  ⟨0x7800, 1, 0x02, 1, .u8, .ro, .rRR, 0, 0, 0, 255⟩,  -- LEVEL_IN_EFFECT
  ⟨0x7800, 1, 0x03, 1, .u8, .ro, .rRR, 0, 0, 0, 255⟩,  -- LEVEL_CAUSE
  ⟨0x7800, 1, 0x04, 1, .bool, .wo, .rwRwN, 0, 0, 0, 1⟩,  -- LEVEL_RETURN
  ⟨0x7800, 1, 0x05, 1, .u16, .rw, .rwRR, 60, 0, 1, 3600⟩,  -- RETURN_DWELL
  ⟨0x7800, 1, 0x06, 1, .u32, .ro, .rRR, 0, 0, 0, 4294967295⟩,  -- DECISION_COUNT
  ⟨0x7800, 1, 0x07, 1, .dom, .ro, .rRR, 0, 0, 0, 4294967295⟩,  -- LAST_DECISION
  ⟨0x7800, 1, 0x10, 1, .u8, .rw, .rwRR, 255, 0, 0, 255⟩,  -- POWER_LINE
  ⟨0x7800, 1, 0x11, 1, .u16, .rw, .rwRR, 0, 0, 0, 4095⟩,  -- POWER_SET_MIN
  ⟨0x7800, 1, 0x12, 1, .u16, .rw, .rwRR, 4095, 0, 0, 4095⟩,  -- POWER_SET_MAX
  ⟨0x7800, 1, 0x13, 1, .u16, .rw, .rwRR, 16, 0, 1, 256⟩,  -- POWER_STEP
  ⟨0x7800, 1, 0x14, 1, .u16, .rw, .rwRR, 4096, 0, 1, 65535⟩,  -- POWER_TARGET
  ⟨0x7800, 1, 0x15, 1, .u32, .rw, .rwRR, 4096, 0, 0, 4294967295⟩,  -- POWER_REF_POINT
  ⟨0x7800, 1, 0x16, 1, .u8, .rw, .rwRR, 4, 0, 1, 255⟩,  -- CLIP_LIMIT
  ⟨0x7800, 1, 0x20, 1, .bool, .rw, .rwRR, 0, 0, 0, 1⟩,  -- WEIGHT_ENABLE
  ⟨0x7800, 1, 0x21, 1, .u16, .rw, .rwRR, 2000, 0, 16, 65535⟩,  -- WEIGHT_PERIOD
  ⟨0x7800, 1, 0x22, 1, .u16, .rw, .rwRR, 1024, 0, 0, 8192⟩,  -- WEIGHT_MIN
  ⟨0x7800, 1, 0x23, 4, .u16, .rwb, .rwRwR, 8192, 0, 0, 32768⟩,  -- BAND_WEIGHT_b
  ⟨0x7800, 1, 0x30, 1, .bool, .rw, .rwRR, 0, 0, 0, 1⟩,  -- PATTERN_ENABLE
  ⟨0x7800, 1, 0x31, 1, .u32, .rw, .rwRR, 4294967295, 0, 0, 4294967295⟩,  -- PATTERN_CANDIDATES
  ⟨0x7800, 1, 0x32, 1, .u16, .rw, .rwRR, 256, 0, 1, 65535⟩,  -- FADE_LEVEL
  ⟨0x7800, 1, 0x33, 1, .u16, .rw, .rwRR, 150, 0, 1, 1000⟩,  -- FADE_LIMIT
  ⟨0x7800, 1, 0x34, 1, .u8, .rw, .rwRR, 8, 0, 1, 255⟩,  -- FADE_EVALS
  ⟨0x7800, 1, 0x35, 1, .u32, .rw, .rwRR, 20000, 0, 256, 16777215⟩,  -- PATTERN_DWELL
  ⟨0x7800, 1, 0x38, 1, .bool, .rw, .rwRR, 0, 0, 0, 1⟩,  -- LINE_DISABLE
  ⟨0x7800, 1, 0x39, 1, .u64, .rw, .rwRR, 1085102592571150095, 0, 0, 18446744073709551615⟩,  -- LINE_BANDS
  ⟨0x7800, 1, 0x40, 1, .u32, .rw, .rwRR, 373150, 0, 273150, 398150⟩,  -- THERMAL_HIGH
  ⟨0x7800, 1, 0x41, 1, .u32, .rw, .rwRR, 363150, 0, 273150, 398150⟩,  -- THERMAL_LOW
  ⟨0x7800, 1, 0x42, 1, .u32, .rw, .rwRR, 378150, 0, 273150, 398150⟩,  -- THERMAL_SHUT
  ⟨0x7800, 1, 0x43, 1, .u8, .rw, .rwRR, 4, 0, 1, 15⟩,  -- THERMAL_CONSEC
  ⟨0x7800, 1, 0x44, 1, .u32, .rw, .rwRR, 3600, 0, 0, 604800⟩  -- HOLDOVER_LIMIT
]

/-- The rows of the range that holds `index`. -/
def entriesOfRange (hi : Nat) : List EntryRow :=
  if hi = 0x10 then entries10
  else if hi = 0x11 then entries11
  else if hi = 0x20 then entries20
  else if hi = 0x21 then entries21
  else if hi = 0x22 then entries22
  else if hi = 0x24 then entries24
  else if hi = 0x25 then entries25
  else if hi = 0x28 then entries28
  else if hi = 0x29 then entries29
  else if hi = 0x30 then entries30
  else if hi = 0x38 then entries38
  else if hi = 0x39 then entries39
  else if hi = 0x3a then entries3A
  else if hi = 0x48 then entries48
  else if hi = 0x54 then entries54
  else if hi = 0x58 then entries58
  else if hi = 0x60 then entries60
  else if hi = 0x61 then entries61
  else if hi = 0x64 then entries64
  else if hi = 0x68 then entries68
  else if hi = 0x6c then entries6C
  else if hi = 0x70 then entries70
  else if hi = 0x74 then entries74
  else if hi = 0x75 then entries75
  else if hi = 0x78 then entries78
  else []

/-- The row holds the entry at `index`.`sub`. -/
def EntryRow.holds (r : EntryRow) (index sub : Nat) : Bool :=
  r.index ≤ index && index < r.index + r.indices && r.sub ≤ sub && sub < r.sub + r.subs

/-- The row of the entry at `index`.`sub`, if the manual's tables define one (R333). -/
def findRow (k : Key) : Option EntryRow :=
  (entriesOfRange (k / 65536)).find? fun r => r.holds (k / 256) (k % 256)

/-- The highest sub-index that the tables define at `index`, or 0 if the index has no entries (R333). -/
def highestSub (index : Nat) : Nat :=
  (entriesOfRange (index / 256)).foldl
    (fun m r => if r.index ≤ index && index < r.index + r.indices then max m (r.sub + r.subs - 1) else m) 0

/-- The default of a scalar entry, from its table. -/
def defaultNum (k : Key) : Int :=
  match findRow k with
  | some r => r.dflt + r.step * ((k / 256 : Nat) - (r.index : Nat) : Int)
  | none => 0

/-- What an entry that nothing has written holds: its default, or an empty byte block. -/
def defaultVal (k : Key) : DVal :=
  match findRow k with
  | some r => if r.ty = .dom ∨ r.ty = .str then .bytes [] else .num (defaultNum k)
  | none => .num 0

end Sys2Proof.Machine
end

