-- ==== Sys2Proof/Machine/Sparse.lean ====
section
/-!
DEFINITION. Machine/Sparse.lean: reading and writing a sparse table (`Word.lean`).  `d k` is what the unlisted key `k`
reads as.  A written table stays in one canonical form: keys rising, no entry equal to its default, so that equal
contents are equal data.
-/

namespace Sys2Proof.Machine

/-- The value at key `k`. -/
def sparseGet {α : Type} (d : Nat → α) : Sparse α → Nat → α
  | [], k => d k
  | (j, v) :: m, k => if j = k then v else sparseGet d m k

/-- Put `v` at key `k`, before the first greater key. -/
def sparseInsert {α : Type} : Sparse α → Nat → α → Sparse α
  | [], k, v => [(k, v)]
  | (j, w) :: m, k, v => if k < j then (k, v) :: (j, w) :: m else (j, w) :: sparseInsert m k v

/-- Write `v` at key `k`; writing the default removes the entry. -/
def sparseSet {α : Type} [DecidableEq α] (d : Nat → α) (m : Sparse α) (k : Nat) (v : α) : Sparse α :=
  let rest := m.filter fun e => e.1 != k
  if v = d k then rest else sparseInsert rest k v

/-- Every key of the table is above `lo`, keys rise, and no entry equals its default. -/
def sparseWfFrom {α : Type} [DecidableEq α] (d : Nat → α) : Nat → Sparse α → Bool
  | _, [] => true
  | lo, (j, v) :: m => decide (lo ≤ j) && decide (v ≠ d j) && sparseWfFrom d (j + 1) m

/-- The canonical form of a sparse table. -/
def sparseWf {α : Type} [DecidableEq α] (d : Nat → α) (m : Sparse α) : Bool := sparseWfFrom d 0 m

/-- Remove every entry whose key satisfies `p` (each then reads as its default). -/
def sparseErase {α : Type} (p : Nat → Bool) (m : Sparse α) : Sparse α := m.filter fun e => !p e.1

end Sys2Proof.Machine
end

