-- ==== Sys2Proof/Machine/State.lean ====
section
/-!
DEFINITION. Machine/State.lean: everything the manual gives the Pydon 8320 to hold, as plain data, and the machine right
after reset.  One structure per unit; the dictionary entries (settings, counters and status words alike) live in one
sparse store keyed by entry, whose defaults are those of the entry tables (`EntryTable.lean`).  Each field's default
value is its value at reset: the manual's where it gives one, else the value that log entry 2 names.
Instants named `now` or `At` are nanoseconds since reset, the model's own measure of the passing of time (log entry 6).
-/

namespace Sys2Proof.Machine

/-- Why the machine stops. -/
inductive Fault where
  /-- Raised by BARN_REQUEST of a line at or above BARN_BYTES (R307): no such address exists.
  Safe: the 8320 itself turns such an access away before it reaches the controller (R386, R403). -/
  | noSuchBarnAddress
  deriving DecidableEq, Repr

/-- Why the model gives a command no meaning. -/
inductive Refusal where
  /-- Raised only by an arm of `exec` whose command has no meaning yet. Safe: nothing runs. -/
  | notModelled (mnemonic : String)
  deriving DecidableEq, Repr

/-- The header of a bell, Table 9-1 (R234). -/
structure Header where
  number : Nat := 0
  time : Nat := 0
  /-- T_launch from the bell start in sixteenths of a ps, in which R52 is exact, and the word of ps that the header's U32 field
  LAUNCH_OFFSET holds of it. -/
  launchOffset : Int := 0
  launchWord : Nat := 0
  /-- RESIDUAL, in sixteenths of a ps (R53). -/
  residual : Int := 0
  csn : Nat := 0
  mode : Nat := 0
  gauge : Nat := 0
  tag : Nat := 0
  seqPos : Nat := 0
  points : Nat := 0
  flags : BitVec 32 := 0
  variant : Nat := 0
  level : Nat := 0
  settlingRemain : Nat := 0
  truncFrom : Nat := 0
  darkFrom : Nat := 0
  clipMap : BitVec 256 := 0
  overrunMap : BitVec 256 := 0
  invalidPoints : Nat := 0
  triggers : Nat := 0
  releaseTime : Nat := 0
  deriving DecidableEq, Repr

/-! ### Time, the bell generator, REF_IN, the time source and the edge time-stampers (R28 to R53) -/

/-- The passing of time. -/
structure Clock where
  /-- Nanoseconds since reset (the model's own measure; MTIME of R405 is this divided by 1,000). -/
  now : Nat := 0
  /-- Device time, R28; starts at 0 (R29). -/
  devTime : Nat := 0
  /-- A written device time that the next REFCLK edge takes (R61). -/
  devNext : Option Nat := none
  /-- Frequency of REFCLK frozen in holdover, R38. -/
  frozen : Bool := false
  deriving DecidableEq, Repr

/-- A coefficient fade of one tag (R121, R122): the sets faded from and to, the bell of the fade, j, that the current or last bell is, and
its F. -/
structure CoefFade where
  old : List Byte
  new : List Byte
  bell : Nat
  length : Nat
  deriving DecidableEq, Repr

/-- A bell between its start and the release of its products (R20), with the settings that govern it (R58). -/
structure BellRec where
  header : Header := {}
  /-- Its start, in nanoseconds since reset. -/
  startAt : Nat := 0
  /-- Its length, ns (R31). -/
  period : Nat := 0
  /-- Suppressed under R22: it acquires nothing and releases nothing. -/
  suppressed : Bool := false
  /-- Settings in effect at its start (R58), a copy of the dictionary store. -/
  settings : Sparse DVal := []
  /-- Coefficient fade of its tag as it started (R121). -/
  fade : Option CoefFade := none
  /-- TIMETABLE_ID of the active image and SWITCH_COUNT at its start (R219, R255). -/
  timetableId : Nat := 0
  switches : Nat := 0
  /-- Acquisition window closed (R16), launch fixed (R52), last point data emitted (R270), end overhead run (R213). -/
  windowClosed : Bool := false
  launchFixed : Bool := false
  endKnown : Bool := false
  /-- OFFSET_ESTIMATE of R109 done for this bell. -/
  offsetDone : Bool := false
  lessonStarted : Bool := false
  deadlineDone : Bool := false
  /-- First channel 0 edge in the launch window, in 1/128 ns from the bell start (R52). -/
  launchEdge : Option Nat := none
  /-- First channel 0 edge after a launch window that held none (R16), likewise. -/
  lateEdge : Option Nat := none
  /-- Zones whose statistics record was delivered by a descriptor of kind 5 (R239, R244): the 8 statistics by zone. -/
  stats : Sparse (List Int) := []
  /-- Points below this one reached a failed engine before spare mapping began in this bell (R166, R167). -/
  spareFrom : Nat := 0
  deriving DecidableEq, Repr

/-- The bell generator (R31 to R36). BELL_STATE, BELL_NUMBER_NEXT and the other entries are in the dictionary store. -/
structure BellGen where
  /-- Number of the current or last bell, 48 bits (R32). -/
  number : Nat := 0
  /-- A bell has started since reset (R46). -/
  everStarted : Bool := false
  /-- Start of the current or last bell: ns since reset, and device time (BELL_MARK). -/
  startAt : Nat := 0
  startDev : Nat := 0
  /-- When the next bell starts, while armed or running. -/
  due : Option Nat := none
  /-- Serialisation instant of a pending BELL_RUN := 0 (R34). -/
  stopAt : Option Nat := none
  /-- Bells started since the generator was armed. -/
  sinceArm : Nat := 0
  /-- Serialisation of BELL_RUN := 1. -/
  armedAt : Nat := 0
  /-- Which point buffer the fabric fills (R21). -/
  pointBuffer : Bool := false
  /-- BELL_OUT is high until this instant (R36). -/
  outUntil : Nat := 0
  /-- First bell since bells last started (R23, R53). -/
  firstBell : Nat := 0
  /-- First and last bell numbers of the runs of bells that are over, newest first (R130). -/
  runs : List (Nat × Nat) := []
  /-- The stages of R20: the bell being acquired, and the bell that the lessons process. -/
  acquiring : Option BellRec := none
  processing : Option BellRec := none
  /-- Header of the last released bell (LAST_HEADER). -/
  lastReleased : Option Header := none
  deriving DecidableEq, Repr

/-- The launch monitor's memory from bell to bell (R52, R53). -/
structure Launch where
  /-- T_launch of the previous bell from its start, in sixteenths of a ps. -/
  offset : Option Int := none
  /-- Held stream sample, counted from the bell start in stream samples, and the mode it was chosen in. -/
  held : Option Int := none
  heldMode : Nat := 0
  deriving DecidableEq, Repr

/-- The time-source servo (R41, R42). TIME_STATE, TIME_OFFSET and FREQ_TRIM are in the dictionary store. -/
structure TimeServo where
  /-- Instant of the last offset measurement, or of the selection of the source. -/
  lastMeasure : Nat := 0
  /-- Consecutive measurements within 50 ns, beyond 200 ns, and edges outside the 1 ms window. -/
  within50 : Nat := 0
  beyond200 : Nat := 0
  outside : Nat := 0
  /-- The one step of R42 has been made in this acquisition. -/
  stepped : Bool := false
  deriving DecidableEq, Repr

/-- One TDC channel (R43 to R51). -/
structure TdcChan where
  /-- Stamps, oldest first, at most 512. -/
  queue : List (BitVec 64) := []
  lostSticky : Bool := false
  /-- The next stamp that enters the queue carries QUEUE_LOST. -/
  markLost : Bool := false
  /-- Value that TDC_POP_HI returns; 0xFFFF_FFFF after reset (R50). -/
  popHi : BitVec 32 := 0xFFFFFFFF
  /-- Instant of the last recorded edge, in 1/128 ns since reset (R43). -/
  lastEdge : Option Nat := none
  deriving DecidableEq, Repr

/-- The edge time-stampers. -/
structure Tdc where
  chan : Vector TdcChan 8 := Vector.replicate 8 {}
  /-- Fine calibration tables: the generation in use, and the one waiting for a bell boundary (R49). -/
  calTable : Nat := 0
  calPending : Option Nat := none
  /-- Last fine calibration (R49). -/
  lastCal : Nat := 0
  /-- Low word returned by the last read of TDC_POP_LO. -/
  lastRead : BitVec 32 := 0
  deriving DecidableEq, Repr

/-! ### Probe excitation (R63 to R80) -/

/-- What the excitation unit plays in a bell: the bell's settings, pattern and start, whether its sub-pulses are played, the codes outside
them, its gates and the samples from and to which they are active (R63, R66, R69). -/
structure BellPlay where
  settings : Sparse DVal := []
  tag : Nat := 0
  startAt : Nat := 0
  playing : Bool := false
  idleI : Int := 0
  idleQ : Int := 0
  gates : BitVec 4 := 0
  gateFrom : Nat := 0
  gateTo : Nat := 0
  deriving DecidableEq, Repr

/-- The excitation unit. SEQ_POSITION, PATTERN_IN_EFFECT, SETTLING_REMAIN, and EXC_REFUSAL are in the
dictionary store. -/
structure Excitation where
  /-- A pattern plays in the current bell (R63, R66). -/
  playing : Bool := false
  /-- Phase and frequency words loaded at the first sample of each sub-pulse (R63). -/
  ph : Vector (BitVec 32) 4 := Vector.replicate 4 0
  fw : Vector (BitVec 32) 4 := Vector.replicate 4 0
  /-- DAC_CLIP_COUNT (R65), and the DAC sample of the bell in progress before which codes have been counted. -/
  clipCount : Nat := 0
  countedTo : Nat := 0
  /-- Codes that both DACs hold outside the sub-pulses (R66). -/
  idleI : Int := 0
  idleQ : Int := 0
  /-- Gates driven in the current bell, and the samples from and to which they are active (R69). -/
  gates : BitVec 4 := 0
  gateFrom : Nat := 0
  gateTo : Nat := 0
  /-- What it played in the bell before, whose last 48 codes stand at the pins for 24.0 ns after the start of the bell in progress (R63). -/
  before : BellPlay := {}
  /-- A changed sequence takes effect, or bells start: the next position is 0 (R70). -/
  restart : Bool := true
  /-- The fade of R74 and R75: its first bell, F, and whether products blend. -/
  fadeStart : Nat := 0
  fadeLength : Nat := 0
  fadeBlends : Bool := false
  /-- Bell of the last event that re-seeds temporal state (R77). -/
  lastReseed : Nat := 0
  deriving DecidableEq, Repr

/-! ### Optical source drive (R85 to R102) -/

/-- One source-drive line. -/
structure Line where
  /-- Conduction now: from, and until when it is known (R88). -/
  conductFrom : Option Nat := none
  conductUntil : Option Nat := none
  /-- How it conducts: 1 continuously, 2 in a PWM on-time, 3 in a gate window (Table 4-1). -/
  way : Nat := 0
  /-- Start of the PWM period in progress, and the PWM settings in use for it (R89). -/
  pwmFrom : Option Nat := none
  pwmBits : Nat := 12
  pwmDuty : Nat := 0
  /-- Fired in the current bell (R95). -/
  fired : Bool := false
  /-- Last judgement of the conduction interval (R93). -/
  judgedAt : Option Nat := none
  /-- Temperature factor in effect, and new ones, oldest first, each with the instant of its conversion (R91). -/
  kT : Nat := 32768
  kTNext : List (Nat × Nat) := []
  /-- LINE_STATUS bits (R104). -/
  openF : Bool := false
  shortF : Bool := false
  darkF : Bool := false
  overF : Bool := false
  proveOpen : Bool := false
  removed : Bool := false
  compInvalid : Bool := false
  /-- Consecutive dark bells (R95). -/
  darkRun : Nat := 0
  /-- Proving pulse that awaits its verdict, the start of the last one, and until when a pulse conducts (R94). -/
  proving : Option Nat := none
  lastProve : Nat := 0
  pulseUntil : Nat := 0
  /-- The flagging of R98. -/
  flagNoLaunch : Bool := false
  deriving DecidableEq, Repr

/-- The source drive. DRIVE_ENABLE, INTERLOCK_COUNT, SINK_POWER and CAP_SCALE are in the dictionary store. -/
structure Drive where
  lines : Vector Line 8 := Vector.replicate 8 {}
  /-- INTERLOCK_N is low; the internal pull-down holds it low until it is driven (R99, log entry 2). -/
  interlockLow : Bool := true
  /-- When INTERLOCK_N last went high, while the 10 ms of R100 run. -/
  roseAt : Nat := 0
  holdOff : Bool := false
  /-- Drive is applied. -/
  applied : Bool := false
  /-- Serialisation of an accepted DRIVE_ENABLE := 1 that waits for a bell start (R100). -/
  restoreAt : Option Nat := none
  /-- Last dissipation average, lowered CAP_SCALEs, oldest first, each with its measurement instant, and since when the average has
  stayed below 1.35 W (R102). -/
  lastAverage : Nat := 0
  capNext : List (Nat × Nat) := []
  below135 : Option Nat := none
  lastRaise : Nat := 0
  /-- The current bell saw CAP_SCALE below 255 or changing. -/
  cappedBell : Bool := false
  deriving DecidableEq, Repr

/-! ### Receiver, filter chain, capture tap and Raman averager (R107 to R136) -/

/-- The converters and the filter chain. CAL_STATE, CAL_GAIN, OFFSET_EST, CLIP_COUNT, SAT_SUMMARY, MF_SAT_COUNT and
NCO_WORD are in the dictionary store. -/
structure Chain where
  /-- Converter codes of the bell being acquired, one per ns from its start (R107). -/
  samples : List Sample := []
  /-- Number of the bell they belong to. -/
  samplesBell : Nat := 0
  /-- NCO phase accumulators of the four bands (R113). -/
  nco : Vector (BitVec 32) 4 := Vector.replicate 4 0
  /-- The five CIC integrators of each stream, I then Q (R114); empty stands for all zero (R112). -/
  integrators : List (List (BitVec 48)) := []
  /-- Offsets that take effect at the next bell (R109). -/
  offsetNext : Vector (Option Int) 4 := Vector.replicate 4 none
  /-- Foreground calibration runs since this instant (R110). -/
  calSince : Option Nat := none
  /-- Skew removed by calibration, and the calibrated instants, by converter (R110). -/
  skew : Vector Int 4 := Vector.replicate 4 0
  fades : Vector (Option CoefFade) 16 := Vector.replicate 16 none
  /-- Magnitude of 65,535 seen, matched filter limited, converters clipped in the last completed bell. -/
  lastClipped : Bool := false
  deriving DecidableEq, Repr

/-- The capture tap (R127 to R130). CAP_STATE and the settings are in the dictionary store. -/
structure Capture where
  /-- Serialisation of the arm, and the bell it names (0 the next one). -/
  armedAt : Nat := 0
  bell : Nat := 0
  /-- Settings taken at the arm: point, band, offset, length. -/
  point : Nat := 0
  band : Nat := 0
  offset : Nat := 0
  length : Nat := 0
  /-- The record of R128. -/
  record : List Byte := []
  /-- Number of the bell being captured. -/
  capturing : Nat := 0
  /-- That bell once its acquisition window has closed, and its converter codes so far. -/
  taken : Option BellRec := none
  samples : List Sample := []
  deriving DecidableEq, Repr

/-- A block of the Raman averager (R133 to R136). -/
structure RamanBlock where
  firstBell : Nat := 0
  firstTime : Nat := 0
  /-- Start of the first bell, ns since reset. -/
  startAt : Nat := 0
  seen : Nat := 0
  added : Nat := 0
  points : Nat := 0
  delay : Nat := 0
  /-- [0] short, [1] clipped, [2] holdover, [3] added < seen (set at the end). -/
  short : Bool := false
  clipped : Bool := false
  holdover : Bool := false
  darkAs : Nat := 0
  darkS : Nat := 0
  clipAs : Nat := 0
  clipS : Nat := 0
  /-- A_0[j] and A_1[j], 40-bit accumulators. -/
  sumsAs : List Nat := []
  sumsS : List Nat := []
  /-- AVG_BELLS as taken at its start. -/
  avgBells : Nat := 0
  seq : Nat := 0
  /-- Smallest first dark DTS point of its added bells (R273). -/
  darkFrom : Option Nat := none
  /-- Sum (mK) and count of the valid readings of the four sensor channels while it filled, and of those taken before it since the block
  before ended (R265). -/
  sensorSum : Vector Nat 4 := Vector.replicate 4 0
  sensorCount : Vector Nat 4 := Vector.replicate 4 0
  gapSum : Vector Nat 4 := Vector.replicate 4 0
  gapCount : Vector Nat 4 := Vector.replicate 4 0
  deriving DecidableEq, Repr

/-- The Raman averager: the block that fills, the completed one that waits to be copied, the last copied one. -/
structure Raman where
  bank : Bool := false
  filling : Option RamanBlock := none
  /-- Blocks that have ended and wait to be copied, oldest first, each with the device time of its end. -/
  complete : List (RamanBlock × Nat) := []
  last : Option RamanBlock := none
  /-- Sum (mK) and count of the valid sensor readings taken since the last block ended, while none fills (R265). -/
  gapSum : Vector Nat 4 := Vector.replicate 4 0
  gapCount : Vector Nat 4 := Vector.replicate 4 0
  /-- The bell being acquired is seen, and added (R134). -/
  bellSeen : Bool := false
  bellAdded : Bool := false
  deriving DecidableEq, Repr
/-! ### The engine array (R143 to R172) -/

/-- An engine register with its poison tag and its parity (R145). -/
structure Reg (w : Nat) where
  v : BitVec w := 0
  tag : Bool := false
  bad : Bool := false
  deriving DecidableEq, Repr

/-- The registers of Table 6-2 but for PC; `g` holds physical registers. -/
structure EngRegs where
  g : Vector (Reg 32) 32 := Vector.replicate 32 {}
  acc : Vector (Reg 40) 4 := Vector.replicate 4 {}
  p : Vector (Reg 24) 8 := Vector.replicate 8 {}
  m : Vector (Reg 24) 8 := Vector.replicate 8 {}
  l : Vector (Reg 24) 8 := Vector.replicate 8 {}
  q : Vector Bool 4 := Vector.replicate 4 false
  rb : BitVec 4 := 0
  /-- Poison tags and bad parity of RB and PC, which are no operands, so that no read checks them (R145, R160; log entry 81). -/
  rbTag : Bool := false
  rbBad : Bool := false
  pcTag : Bool := false
  pcBad : Bool := false
  deriving DecidableEq, Repr

/-- A 32-bit word of data or classroom memory; `bad` is bad parity, the poison marker among others (R160); `flipped` says that the bad
parity comes of a flipped bit and not of a stored marker (R173). -/
structure MemWord where
  v : BitVec 32 := 0
  bad : Bool := false
  flipped : Bool := false
  deriving DecidableEq, Repr

/-- What a result lands in. -/
inductive Dest where
  | g (i : Fin 32)
  | acc (i : Fin 4)
  | p (i : Fin 8)
  | m (i : Fin 8)
  | l (i : Fin 8)
  | q (i : Fin 4)
  /-- A word of the engine's address map, or the half of it that the address selects. -/
  | word (addr : Nat)
  | half (addr : Nat)
  deriving DecidableEq, Repr

/-- A result on its way (R148): readable from cycle `ready`. -/
structure Landing where
  ready : Nat
  issued : Nat
  /-- 0 C, 1 M, 2 A, 3 L0, 4 L1. -/
  slot : Nat
  dest : Dest
  value : BitVec 40
  tag : Bool
  /-- Made by MUL, MAC, MSU or MULN (R183). -/
  mul : Bool := false
  deriving DecidableEq, Repr

/-- A repeat in progress (R196). -/
structure Repeat where
  first : BitVec 12
  last : BitVec 12
  /-- Iterations still to follow the one in progress. -/
  left : Nat
  rot : Bool
  /-- Cycle of its first body bundle. -/
  starts : Nat
  deriving DecidableEq, Repr

/-- A parity detection (R161): location code of LAST_FAULT byte 12, and register number, bundle or byte address. -/
structure Det where
  loc : Nat
  addr : Nat
  deriving DecidableEq, Repr

/-- A descriptor in a transfer unit's queue (R157, Table 7-7). -/
structure Xfer where
  eng : Fin 32
  kind : Nat
  loc : Nat
  /-- In bytes; kind 5: the first zone. -/
  offset : Nat
  region : Nat
  length : Nat
  recWords : Nat
  /-- A write that waits for the end of its segment. -/
  held : Bool
  /-- When it was posted. -/
  at_ : Nat := 0
  deriving DecidableEq, Repr

/-- One engine (R145 to R163). ENGINE_STATE and its counters are in the dictionary store. -/
structure Engine where
  regs : EngRegs := {}
  pc : BitVec 12 := 0
  /-- ENGCLK cycles since the bell start. -/
  cycle : Nat := 0
  /-- Slots of the bundle below this number have issued (0 C, 1 M, 2 A, 3 L0, 4 L1). -/
  used : Nat := 0
  /-- The bundle failed its parity check and issues with all slots suppressed (R177). -/
  suppressed : Bool := false
  /-- Data bank of L0's access in this cycle, by its effective address (R152, R190). -/
  bank : Option Nat := none
  flight : List Landing := []
  branch : Option (BitVec 12 × Nat) := none
  /-- Last cycle of the delay slots, or of the bundles after a REP. -/
  delayUntil : Option Nat := none
  reps : List Repeat := []
  segment : Nat := 0
  segStart : Nat := 0
  lessonStart : Nat := 0
  lastSafe : Nat := 0
  lastSafePc : BitVec 12 := 0
  posts : Nat := 0
  checkpoint : EngRegs := {}
  checkPc : BitVec 12 := 0
  dets : List Det := []
  /-- Detections that caused the replay in progress (R163). -/
  cause : List Det := []
  noStore : Bool := false
  /-- Cycle at which a replay or a halt was requested (R159). -/
  replayAt : Option Nat := none
  haltAt : Option Nat := none
  breakHit : Bool := false
  /-- ENGINE_STATE that a halt interrupted. -/
  resumeTo : Nat := 0
  breaks : Vector (Option (BitVec 12)) 4 := Vector.replicate 4 none
  /-- FAULT_INJECT kind that waits for the next lesson, and the one that acts (R173); 0 none. -/
  inject : Nat := 0
  injecting : Nat := 0
  /-- Number of the bell in whose lesson the waiting kind acts. -/
  injectAt : Nat := 0
  /-- In the appendix of the N−1 lesson; switches to it at its first segment boundary (R222). -/
  appendix : Bool := false
  switchTo : Bool := false
  /-- Cycle at which that switch was requested. -/
  switchAt : Nat := 0
  mem : Sparse MemWord := []
  /-- Instruction memory: 132-bit words (R176). -/
  imem : Sparse (BitVec 132) := []
  /-- Byte addresses of the words of input and state regions found hard: they show bad parity until the next full start (R161). -/
  hard : List Nat := []
  /-- 64-byte granules that wait for prefetched data (R216). -/
  granules : List Nat := []
  /-- Segments that ended in the lesson in progress, and the STALE_MASK of the last lesson (R228). -/
  ended : BitVec 64 := 0
  stale : BitVec 64 := 0
  /-- A schedule fault of this bell is recorded (R154). -/
  faulted : Bool := false
  /-- Declared failed (ENGINE_STATE 4) at this instant, in a running bell. -/
  failedAt : Option Nat := none
  /-- The bell whose lesson it last ended with END: a later failure costs that bell nothing (R167, R168). -/
  doneFor : Option Nat := none
  deriving DecidableEq, Repr

/-- One classroom: its memory, its transfer unit's queue, and the granules that wait for prefetched data. -/
structure Classroom where
  mem : Sparse MemWord := []
  queue : List Xfer := []
  granules : List Nat := []
  /-- A classroom fault was declared (R169). -/
  failed : Bool := false
  deriving DecidableEq, Repr

/-- The array. -/
structure EngineArray where
  engines : Vector Engine 32 := Vector.replicate 32 {}
  rooms : Vector Classroom 4 := Vector.replicate 4 {}
  /-- Timetable slot and variant kind that the engines run and the fabric delivers under. -/
  slot : Nat := 0
  kind : Option Nat := none
  /-- Lesson deadline of the bell in progress, in ENGCLK cycles from its start (R208). -/
  deadline : Nat := 0
  /-- Spare mapping waits for D + 1.000 µs: the failed engine and that instant (R166). -/
  spareAt : Option (Fin 32 × Nat) := none
  /-- A safe-point gap, and a segment count, was recorded in this activation (R231). -/
  gapNoted : Bool := false
  segNoted : Bool := false
  /-- The context block of the next lesson carries RESEED_ALL (R77). -/
  reseedAll : Bool := false
  /-- DARK_FROM of the bell that the previous lesson processed (R230). -/
  darkPrev : Option Nat := none
  deriving DecidableEq, Repr

/-! ### Timetables and the barn (R200 to R231, R302 to R328) -/

/-- One timetable slot of the barn (R200). -/
structure TtSlot where
  /-- The checked image; empty while the slot is empty. -/
  image : List Byte := []
  deriving DecidableEq, Repr

/-- A bell switch from the bell at which it takes effect to its completion (R223). -/
structure Switch where
  /-- Incoming slot and kind. -/
  slot : Nat
  kind : Nat
  /-- Bell m, or none for a switch that took effect while bells were stopped. -/
  bell : Option Nat
  /-- K of R223. -/
  load : Nat
  /-- The load has started, and when it ends (ns since reset). -/
  started : Bool := false
  endsAt : Nat := 0
  /-- The load has ended. -/
  done : Bool := false
  deriving DecidableEq, Repr

/-- A decided switch that waits for its boundary (R224): the slot and kind it names, and the decision instant. -/
structure Decision where
  slot : Option Nat := none
  kind : Option Nat := none
  at_ : Nat := 0
  deriving DecidableEq, Repr

/-- Timetables. TT_LOAD_STATE and the other entries are in the dictionary store. -/
structure Timetables where
  slots : Vector TtSlot 2 := Vector.replicate 2 {}
  switching : Option Switch := none
  decided : Option Decision := none
  /-- First load bell and last load bell of the last switch, for the products it releases invalid (R223, R224). -/
  loadFrom : Option Nat := none
  loadTo : Option Nat := none
  /-- Compliance faults of the active timetable's kinds (R231). -/
  untrusted : Vector Bool 4 := Vector.replicate 4 false
  deriving DecidableEq, Repr

/-- What a 64-bit word of the barn is (R318): good, the stored poison marker, or otherwise uncorrectable. -/
inductive WordMark where
  | good | poison | damaged
  deriving DecidableEq, Repr

/-- A request waiting in a barn channel (R310). -/
structure BarnReq where
  /-- Requester code of Table 12-5. -/
  requester : Nat
  scheduled : Bool
  line : Nat
  write : Bool
  /-- When it was accepted; it met self-refresh (R327). -/
  at_ : Nat
  metSr : Bool := false
  /-- The line as every write accepted before left it, and the bytes of it that the write queue gives (R314, R315). -/
  data : List Byte := []
  given : List Nat := []
  /-- The marked words of the line, once a write that was accepted later has been performed (R314); `none`: as they stand. -/
  marks : Option (List (Nat × WordMark)) := none
  deriving DecidableEq, Repr

/-- An entry of a write queue: a line, the bytes of its mask, and the request that made it: its requester, class and instant (R310, R314). -/
structure BarnWrite where
  line : Nat
  bytes : List (Nat × Byte)
  requester : Nat
  scheduled : Bool := false
  at_ : Nat
  deriving DecidableEq, Repr

/-- A write accepted at the instant `at_`, with the line and the queued bytes of it that it found (R311). -/
structure BarnArrival where
  at_ : Nat
  requester : Nat
  scheduled : Bool
  line : Nat
  bytes : List (Nat × Byte)
  data : List Byte
  given : List Nat
  deriving DecidableEq, Repr

/-- Where a line lies in the devices of its channel (R305). -/
structure DramPlace where
  rank : Nat
  group : Nat
  bank : Nat
  row : Nat
  /-- COL, with COL[2:0] = 0 (R304). -/
  col : Nat
  deriving DecidableEq, Repr

/-- The answer to a read: its line, its bytes, the 64-bit words that carry an error response (R321), and the mark of a request that met
self-refresh (R327). -/
structure BarnAnswer where
  requester : Nat
  line : Nat
  data : List Byte
  bad : List Nat := []
  metSr : Bool := false
  deriving DecidableEq, Repr

/-- One barn channel: its queues and its error log (R314, R322). -/
structure BarnChan where
  queue : List BarnReq := []
  /-- Write queue, oldest first; what stands beyond the 64th entry waits to enter it (R314, R317). -/
  writes : List BarnWrite := []
  /-- A burst is in progress: the queue is issued down to 16 entries (R317). -/
  burst : Bool := false
  /-- Requester of the background class served last (R311), and the last answer given. -/
  lastTurn : Nat := 13
  lastRead : Option BarnAnswer := none
  /-- The last write accepted: its requester, its line, and the mark of a request that met self-refresh (R327). -/
  lastWrite : Option (Nat × Nat × Bool) := none
  /-- The writes of the last instant at which one was accepted, in the order of R311. -/
  arrivals : List BarnArrival := []
  /-- Place of the last line that the devices read or wrote (R305). -/
  lastPlace : Option DramPlace := none
  /-- Newest entry first, at most 32, each 16 bytes. -/
  log : List (List Byte) := []
  /-- By rank: when a refresh last fell due, how many are postponed, how many were made (R324). -/
  lastRefresh : Vector Nat 2 := Vector.replicate 2 0
  owed : Vector Nat 2 := Vector.replicate 2 0
  refreshes : Vector Nat 2 := Vector.replicate 2 0
  /-- By rank: when a recalibration step was last made, and how many were (R326). -/
  lastRecal : Vector Nat 2 := Vector.replicate 2 0
  recalSteps : Vector Nat 2 := Vector.replicate 2 0
  /-- By rank: when its recalibration began, and the steps of it that are left. -/
  recalFrom : Vector Nat 2 := Vector.replicate 2 0
  recalLeft : Vector Nat 2 := Vector.replicate 2 0
  /-- The lines whose write failed its CRC and how often it was retried; the commands retried for CA parity, and those that failed before
  the read that they serve has returned: requester and line (R320). -/
  crcTries : List (Nat × Nat) := []
  caRetried : List (Nat × Nat) := []
  caFailed : List (Nat × Nat) := []
  deriving DecidableEq, Repr

/-- The barn. -/
structure Barn where
  /-- Its bytes by barn address, 0 if unlisted. -/
  bytes : Sparse Byte := []
  /-- 64-bit words stored with the poison marker or otherwise uncorrectable (R318). -/
  marked : Sparse WordMark := []
  chans : Vector BarnChan 2 := Vector.replicate 2 {}
  /-- Standby has had no request since this instant (R327). -/
  idleFrom : Option Nat := none
  /-- The exit from self-refresh under way ends at this instant. -/
  exitAt : Option Nat := none
  /-- SUP_AREA_BYTES, the channel descriptions and the map in use since the last start (R302, R306). -/
  supArea : Nat := 67108864
  inUse : Sparse DVal := []
  lastScrub : Nat := 0
  /-- Lines below this one have been read in the scrub pass in progress (R323). -/
  scrubAt : Nat := 0
  deriving DecidableEq, Repr


/-! ### Detection, triggers, harvests, granary and streams (R241 to R256) -/

/-- A detector's state (R245, R246). -/
structure DetState where
  above : Bool := false
  inp : Bool := false
  reached : Bool := false
  armed : Bool := false
  w : Nat := 0
  s : Nat := 0
  t : Nat := 0
  deriving DecidableEq, Repr

/-- A zone's trigger state (R246, R247). -/
structure ZoneState where
  /-- Bell of the last trigger that was not forced, while hold-off by bells refers to it. -/
  holdFrom : Option Nat := none
  /-- Triggers still held off, with hold-off by events. -/
  holdEvents : Nat := 0
  /-- Evaluated bells since the last trigger or the zone's start. -/
  autoCount : Nat := 0
  /-- Serialisations of the MANUAL_TRIGGER writes that wait for their evaluation. -/
  manualAt : List Nat := []
  deriving DecidableEq, Repr

/-- A trigger record, Table 9-6 (R249). -/
structure TriggerRec where
  bell : Nat
  timeNs : Nat
  timePs : Nat
  zone : Nat
  detectors : Nat
  flags : Nat
  point : Nat
  harvestSeq : Nat
  deriving DecidableEq, Repr

/-- A harvest from its trigger to its release, Table 9-7 (R250 to R253). -/
structure Harvest where
  seq : Nat
  zone : Nat
  detectors : Nat
  hflags : Nat := 0
  triggerBell : Nat
  timeNs : Nat
  timePs : Nat
  uncertainty : Nat
  eventPoint : Nat
  firstPoint : Nat
  pointCount : Nat
  firstBell : Nat
  lastBell : Nat
  mode : Nat
  gauge : Nat
  timeSource : Nat
  timeState : Nat
  statValue : Nat
  /-- Bytes into the harvest area at which its record stands (log entry 83), and the bytes kept for it. -/
  place : Nat := 0
  room : Nat := 0
  /-- The headers of its rows, as the bells were released. -/
  heads : List Header := []
  /-- Bells have stopped before its last row was released (R252). -/
  cut : Bool := false
  /-- Formation has started (R250), with this many granary slots. -/
  forming : Bool := false
  slots : Nat := 0
  complete : Bool := false
  /-- Its rows, oldest first, while it forms: the row's bell, its 24 bytes of row header, its words; then the size of its record. -/
  size : Nat := 0
  rows : List (Nat × List Byte × List Nat) := []
  deriving DecidableEq, Repr

/-- What a change of settings or conditions clears before the evaluation of a bell (R246): every detector, or those listed (detector `d`
of zone `z` as 4 z + d), and the hold-off and auto counts of the zones listed. -/
structure Renewal where
  bell : Nat
  all : Bool := false
  dets : List Nat := []
  zones : List Nat := []
  deriving DecidableEq, Repr

/-- The detection unit. TRIGGER_COUNT and the other counters are in the dictionary store. -/
structure Detection where
  dets : Sparse DetState := []
  zones : Sparse ZoneState := []
  /-- Clears that are due before the evaluation of a bell still to come (R246). -/
  renewals : List Renewal := []
  queue : List TriggerRec := []
  lostPending : Bool := false
  deriving DecidableEq, Repr

/-- Harvests and the granary (R241, R250 to R253). -/
structure Granary where
  /-- Granary header table, by slot (R241). -/
  headers : Sparse (Option Header) := []
  harvests : List Harvest := []
  /-- Next HARVEST_SEQ (R250). -/
  nextSeq : Nat := 0
  deriving DecidableEq, Repr

/-- A released stream record (R255), as its routes still need it. -/
structure StreamRec where
  seq : Nat
  header : List Byte
  bytes : Nat
  /-- Barn offset of its slot, and its period number. -/
  slot : Nat
  period : Nat
  toHost : Bool
  toPort : Bool
  deriving DecidableEq, Repr

/-- One output stream (R254 to R256). STREAM_STATE and its counters are in the dictionary store. -/
structure Stream where
  /-- The period in progress: first bell, its time and launch offset, bells so far, OR of flags, highest CSN. -/
  firstBell : Option Nat := none
  firstTime : Nat := 0
  launch : Nat := 0
  bells : Nat := 0
  flags : BitVec 32 := 0
  csn : Nat := 0
  /-- Settings of the period in progress (3A10+s.01 to .06, mode, gauge). -/
  setup : List Nat := []
  nextSeq : Nat := 0
  records : List StreamRec := []
  deriving DecidableEq, Repr

/-! ### Temperature profile and fibre integrity (R262 to R276) -/

/-- An update period's sums (R262, R263, R265). -/
structure Period where
  firstBell : Nat := 0
  firstTime : Nat := 0
  endTime : Nat := 0
  blocks : Nat := 0
  seen : Nat := 0
  added : Nat := 0
  points : Nat := 0
  sumsAs : List Nat := []
  sumsS : List Nat := []
  darkAs : Nat := 0
  darkS : Nat := 0
  /-- PFLAGS [0], [1], [2], [4] so far. -/
  short : Bool := false
  clipped : Bool := false
  holdover : Bool := false
  partial_ : Bool := false
  /-- Smallest first dark DTS point of its added bells (R273). -/
  darkFrom : Option Nat := none
  /-- Sum (mK) and count of the valid readings of the four sensor channels (R265). -/
  sensorSum : Vector Nat 4 := Vector.replicate 4 0
  sensorCount : Vector Nat 4 := Vector.replicate 4 0
  /-- The calibration entries as its last block ended it (R267). -/
  cal : Sparse DVal := []
  deriving DecidableEq, Repr

/-- The DTS calibration and profile. CAL_STATE and the values in effect are in the dictionary store. -/
structure Profiler where
  period : Option Period := none
  /-- A period that has ended and waits for PROFILE_STORE. -/
  ended : Option Period := none
  /-- Values last solved since the calibration entries last changed: C, gamma (K) and delta alpha (per km) (R267). -/
  solved : Option (Rat × Rat × Rat) := none
  /-- A change of 2900.11 to 2900.1A discards the solved values at the next period boundary. -/
  discard : Bool := false
  nextSeq : Nat := 0
  deriving DecidableEq, Repr

/-- Trace end and fibre break (R270 to R276). -/
structure Break where
  /-- First bell of the inward run in progress, and its E(n). -/
  runBell : Option Nat := none
  runEnd : Nat := 0
  /-- Declared position in units of 10 µm (R275: held in metres). -/
  position : Nat := 0
  /-- DARK_FROM of the bells from the declaration on; none while no break is declared. -/
  darkPoint : Option Nat := none
  /-- Consecutive counting bells at the reference end (R274). -/
  clearRun : Nat := 0
  /-- Learning of TRACE_END_LEARN: one more than the counting bells left, 0 while none is in progress, and the largest
  E(n) × s so far, mm (R276). -/
  learnLeft : Nat := 0
  learnMax : Nat := 0
  deriving DecidableEq, Repr

/-! ### The dictionary and its serialiser (R333 to R356) -/

/-- An answer, Table 13-4 (R344), with the data that follow it. -/
structure Answer where
  status : Nat := 0
  item : Nat := 0
  tag : BitVec 32 := 0
  csn : Nat := 0
  /-- 0xFFFF_FFFF_FFFF_FFFF if none. -/
  effectBell : Nat := 0xFFFFFFFFFFFFFFFF
  generation : Nat := 0
  detail : Nat := 0
  data : List Byte := []
  deriving DecidableEq, Repr

/-- Where an answer goes (R350, R367, R370, R387). -/
inductive ReplyTo where
  /-- The dictionary port of the application core, or no transport at all. -/
  | port
  /-- The carriage frame of a ring port: RING_ID, SEQ, CARRIAGE. -/
  | carriage (ringId seq carriage : Nat)
  /-- The host completion ring of a request entry: index and destination. -/
  | host (entry : Nat) (address : Nat) (length : Nat)
  /-- The control core's policy, whose decision goes on (R422). -/
  | own
  deriving DecidableEq, Repr

/-- A request waiting for the serialiser (R338, R339). -/
structure Waiting where
  req : Request
  arrived : Nat
  /-- Ring turns it has waited through (R339). -/
  ringTurns : Nat := 0
  replyTo : ReplyTo := .port
  deriving DecidableEq, Repr

/-- An accepted bell-committed write (or group) that waits in the shadow (R348). -/
structure ShadowWrite where
  csn : Nat
  /-- Serialisation instant. -/
  at_ : Nat
  values : List (Key × DVal)
  deriving DecidableEq, Repr

/-- A staged operation (R351 to R355); the record of 7010 + k is derived from it. -/
structure StagedOp where
  id : Nat := 0
  kind : Nat := 0
  /-- 0 none, 1 running, 2 complete, 3 aborted, 4 failed. -/
  state : Nat := 0
  arg : Nat := 0
  stepsDone : Nat := 0
  stepsTotal : Nat := 0
  startCsn : Nat := 0
  endCsn : Nat := 0
  result : Nat := 0
  /-- Work of the current step has ended and its report waits as deferred work (R352). -/
  reportReady : Bool := false
  /-- The next flash step waits for the end of Brace (R455). -/
  stalled : Bool := false
  /-- Initiator and level of the starting request (R356). -/
  starter : Initiator := 0
  level : Nat := 0
  /-- Outcome of the load checks or boot checks, known when the work ends: stage I error (code, location) or none. -/
  failCode : Option (Nat × Nat) := none
  /-- Bytes that a FLASH_PROGRAM or a load works on. -/
  image : List Byte := []
  deriving DecidableEq, Repr

/-- A saved profile (R356). -/
structure Profile where
  values : List (Key × DVal)
  timetableId : Nat
  savedAt : Nat
  csn : Nat
  deriving DecidableEq, Repr

/-- The dictionary. `store` holds every entry that differs from its default: settings in effect, counters, status. -/
structure Dictionary where
  store : Sparse DVal := []
  /-- Accepted RWB writes not yet in effect, in CSN order (R348). -/
  shadow : List ShadowWrite := []
  waiting : Vector (Option Waiting) 5 := Vector.replicate 5 none
  /-- Round robin places of R339: expedited, and deferred (5 is the step reports). -/
  lastExpedited : Nat := 4
  lastDeferred : Nat := 5
  /-- Last answer given to each initiator. -/
  answers : Vector (Option Answer) 5 := Vector.replicate 5 none
  /-- GENERATION of each DOM entry (R346); 0 if unlisted. -/
  generations : Sparse Nat := []
  /-- STATUS_LATCH (R358). -/
  latch : BitVec 32 := 0
  /-- The dictionary port of R350: request and answer buffers, DP_STATUS. -/
  portRequest : Sparse Byte := []
  portAnswer : List Byte := []
  portBusy : Bool := false
  portDone : Bool := false
  portGoLost : Bool := false
  portBytes : Nat := 0
  portStatus : Nat := 0
  /-- Staged operations 7010 + k; and those that still run though a later one has taken their entry. -/
  ops : Vector StagedOp 8 := Vector.replicate 8 {}
  displaced : List StagedOp := []
  /-- Upload buffer 3000.11 (R347): bytes by offset, and bytes received. -/
  upload : List Byte := []
  uploaded : Nat := 0
  /-- Profiles in flash (R356); each the previous valid copy. -/
  profiles : Vector (Option Profile) 8 := Vector.replicate 8 none
  /-- Flash image slots 0 to 7 (R406); empty is the empty block. -/
  imageSlots : Vector (List Byte) 8 := Vector.replicate 8 []
  deriving DecidableEq, Repr

/-! ### PCI Express endpoint and stream port (R385 to R396) -/

/-- A completion record, Table 15-4 (R389), with the host address and bytes written before it (R390). -/
structure Completion where
  tag : Nat := 0
  status : Nat := 0
  opcode : Nat := 0
  channel : Nat := 0
  length : Nat := 0
  cqSeq : Nat := 0
  detail : Nat := 0
  dataAt : Nat := 0
  data : List Byte := []
  /-- Bytes of the data that an uncorrectable barn word affects (Table 15-6). -/
  poisoned : List Nat := []
  deriving DecidableEq, Repr

/-- A posted write to host memory (R390), and whether it goes out with EP set (Table 15-6). -/
structure HostWrite where
  addr : Nat
  bytes : List Byte
  ep : Bool := false
  deriving DecidableEq, Repr

/-- A buffer posted for a channel (R387, R388); `bytes` are the stamps packed so far. -/
structure Posted where
  tag : Nat
  cq : Fin 4
  channel : Nat
  addr : Nat
  len : Nat
  bytes : List Byte := []
  firstAt : Nat := 0
  deriving DecidableEq, Repr

/-- A fetched dictionary request that waits for its turn (R387). -/
structure Fetched where
  tag : Nat
  cq : Fin 4
  channel : Nat
  dst : Nat
  dstLen : Nat
  req : Request
  /-- The queues were reset since: its answer is discarded (R392). -/
  discard : Bool := false
  deriving DecidableEq, Repr

/-- One completion ring with its moderation (Table 15-2, R390, R391). -/
structure CqRing where
  base : Nat := 0
  size : Nat := 0
  head : Nat := 0
  written : Nat := 0
  index : Nat := 0
  modReg : Nat := 0
  /-- Completions held back in order: the ring is full, or the function is in D3hot. -/
  held : List Completion := []
  /-- Records counted since the last message, and when the timer started. -/
  count : Nat := 0
  timer : Option Nat := none
  /-- The timer has expired since it started. -/
  expired : Bool := false
  /-- The newest record written to host memory. -/
  last : Option Completion := none
  deriving DecidableEq, Repr

/-- The endpoint (R385 to R393). -/
structure HostPort where
  enable : Bool := false
  fetchError : Bool := false
  cqStall : Bool := false
  resetDone : Bool := false
  rqBase : Nat := 0
  rqSize : Nat := 0
  rqTail : Nat := 0
  rqHead : Nat := 0
  fetched : List Fetched := []
  /-- The oldest fetched request is with the serialiser. -/
  presented : Bool := false
  rings : Vector CqRing 4 := Vector.replicate 4 {}
  buffers : Vector (List Posted) 16 := Vector.replicate 16 []
  /-- MSI-X: PBA bits, vector masks, function mask and enable (R391). -/
  pba : BitVec 32 := 0
  maskBits : BitVec 32 := 0xFFFFFFFF
  functionMask : Bool := false
  /-- Message addresses and data of the MSI-X table, by word offset from 0x8000 (R386). -/
  msixTable : Sparse (BitVec 32) := []
  msixEnable : Bool := false
  /-- Messages sent on each vector since reset. -/
  messages : Vector Nat 5 := Vector.replicate 5 0
  pmeStatus : Bool := false
  pmeEnable : Bool := false
  /-- ASPM L1 enabled in the link control register, and the last TLP (R392). -/
  aspmEnable : Bool := false
  lastTlp : Nat := 0
  /-- AER_COUNTS, one per row of Table 15-6 (R393). -/
  aer : Vector Nat 6 := Vector.replicate 6 0
  /-- The AER status: rows of Table 15-6 reported since they were cleared (R385, R393). -/
  aerReported : BitVec 6 := 0
  /-- The completion-timeout value, 0 the default of 50 ms (R385). -/
  timeoutSetting : BitVec 4 := 0
  /-- The posted writes of the last completion, in their order (R390). -/
  postedWrites : List HostWrite := []
  /-- Words returned by the last reads of BAR0 and of configuration space; none is CRS. -/
  lastWord : BitVec 32 := 0
  lastConfig : Option (BitVec 32) := none
  /-- Configuration requests are answered with CRS, as they are until step 7 of a start (R409, R488). -/
  crs : Bool := true
  /-- Result of the last BAR2 read: none is completer abort. -/
  lastRead : Option (List Byte) := none
  /-- Written values of HOST_WINDOW_BASE and HOST_WINDOW_BYTES in force (R397). -/
  windowBase : Nat := 0
  windowBytes : Nat := 268435456
  deriving DecidableEq, Repr

/-- A record on its way out of the stream port (R395, R396). -/
structure OutRecord where
  seq : Nat
  bytes : Nat
  /-- Bytes already sent. -/
  sent : Nat := 0
  fragIndex : Nat := 0
  /-- First barn bell period of its slot, by which reuse is judged. -/
  period : Nat := 0
  deriving DecidableEq, Repr

/-- A datagram as sent (R394, R395). -/
structure Datagram where
  srcMac : Nat
  dstMac : Nat
  srcIp : Nat
  dstIp : Nat
  srcPort : Nat
  dstPort : Nat
  ttl : Nat
  dscp : Nat
  ident : Nat
  /-- The IPv4 and UDP headers (R394). -/
  ipHeader : List Byte
  udpHeader : List Byte
  header : List Byte
  payload : List Byte
  deriving DecidableEq, Repr

/-- The stream port. -/
structure StreamPort where
  /-- Records waiting for the port, by stream, oldest first. -/
  queues : Vector (List OutRecord) 8 := Vector.replicate 8 []
  /-- Destination, source and size settings in force for the stream (R396: taken at record boundaries). -/
  inForce : Vector (List Nat) 8 := Vector.replicate 8 []
  /-- Records of the stream were lost before the next one (FFLAGS[3]). -/
  lostBefore : Vector Bool 8 := Vector.replicate 8 false
  /-- Stream whose turn was last. -/
  lastTurn : Nat := 7
  ident : Nat := 0
  lastSent : Option Datagram := none
  /-- Last ARP reply: requester's MAC and IP. -/
  lastArp : Option (Nat × Nat) := none
  txDisable : Bool := true
  /-- STREAM_LOS is high (R399). -/
  los : Bool := false
  deriving DecidableEq, Repr

/-! ### The interrupt controller, the machine timer and the supervisor cores (R400 to R420) -/

/-- The interrupt controller (R411 to R420). -/
structure Interrupts where
  /-- Pending bits of the 192 sources (R412). -/
  pending : BitVec 192 := 0
  /-- 8-bit counters by source, 0 if unlisted. -/
  counts : Sparse Nat := []
  /-- Route bit t of every source (R413): ROUTES is all 0 at reset. -/
  routes : Vector (BitVec 192) 4 := Vector.replicate 4 0
  /-- GLOBAL_DISABLE of the four targets. -/
  disabled : Vector Bool 4 := Vector.replicate 4 false
  /-- Levels presented to the four targets. -/
  presented : Vector Bool 4 := Vector.replicate 4 false
  /-- The fallback of R420 has been recorded in this period. -/
  fallbackNoted : Bool := false
  /-- The SUPCLK cycle of the latest event, and the sources that had one in it (R411, R412). -/
  cycle : Nat := 0
  events : BitVec 192 := 0
  /-- Word returned by the last read of IC_TAKE. -/
  lastTake : BitVec 32 := 0
  /-- The SUPCLK cycle of the latest dictionary write of ROUTES (R418). -/
  dictCycle : Option Nat := none
  deriving DecidableEq, Repr

/-- The machine timer (R405). -/
structure Timer where
  hiLatch : BitVec 32 := 0
  cmp : Vector (BitVec 64) 2 := Vector.replicate 2 0xFFFFFFFFFFFFFFFF
  /-- Word returned by the last read of MTIME_LO. -/
  lastRead : BitVec 32 := 0
  deriving DecidableEq, Repr

/-- A firmware image or copy in flash, as the boot ROM reads it (R407, R408). -/
structure Firmware where
  version : Nat := 0
  entry : Nat := 0
  load : List Byte := []
  /-- Signed message and signature block, if it carries one. -/
  image : List Byte := []
  deriving DecidableEq, Repr

/-- The modes of a supervisor core: there is no supervisor mode (R400). -/
inductive CoreMode where
  | user | machine
  deriving DecidableEq, Repr

/-- The exceptions of a supervisor core's accesses (R400, R402), and of an instruction that its mode may not execute. -/
inductive CoreFault where
  | instructionAccess | illegalInstruction | loadMisaligned | loadAccess | storeMisaligned | storeAccess
  deriving DecidableEq, Repr

/-- A PMP entry (R400): pmpaddr, and its byte of pmpcfg. -/
structure PmpEntry where
  address : BitVec 32 := 0
  config : BitVec 8 := 0
  deriving DecidableEq, Repr

/-- A supervisor core's own state (R400, R410). -/
structure Hart where
  mode : CoreMode := .machine
  /-- mstatus: MIE, MPIE, MPP. -/
  mie : Bool := false
  mpie : Bool := false
  mpp : CoreMode := .user
  /-- The register mie, and the other trap registers. -/
  enables : BitVec 32 := 0
  mtvec : BitVec 32 := 0
  mscratch : BitVec 32 := 0
  mepc : BitVec 32 := 0
  mcause : BitVec 32 := 0
  mtval : BitVec 32 := 0
  pmp : Vector PmpEntry 16 := Vector.replicate 16 {}
  /-- Integer registers; register 0 reads 0. -/
  regs : Vector (BitVec 32) 32 := Vector.replicate 32 0
  /-- The instruction fetched last, or to be fetched first. -/
  pc : BitVec 32 := 0
  /-- The exception of the last operation, if it raised one. -/
  fault : Option CoreFault := none
  /-- What the last load, LR, SC, AMO or CSR read returned. -/
  loaded : BitVec 32 := 0
  /-- The word that LR has reserved. -/
  reserved : Option (BitVec 32) := none
  /-- Halted by its debug module, or to be halted after one more instruction (R400, R419). -/
  halted : Bool := false
  stepping : Bool := false
  deriving DecidableEq, Repr

/-- What the debug modules answered last (R446, R448). -/
structure DebugModule where
  data : BitVec 32 := 0
  failed : Bool := false
  deriving DecidableEq, Repr

/-- The two supervisor cores as the manual's units see them (R400 to R404, R410, R415, R494). -/
structure Cores where
  /-- Control core 0 and application core 1: mhartid (R400). -/
  harts : Vector Hart 2 := Vector.replicate 2 {}
  debugUnit : DebugModule := {}
  /-- A core waits in WFI (R415): 0 control, 1 application. -/
  waiting : Vector Bool 2 := Vector.replicate 2 false
  /-- mip.MEIP of each core (R414). -/
  meip : Vector Bool 2 := Vector.replicate 2 false
  /-- Memories: control TCM, application TCM, shared SRAM (R402); bytes, 0 if unlisted. -/
  controlTcm : Sparse Byte := []
  appTcm : Sparse Byte := []
  sharedSram : Sparse Byte := []
  /-- The last access of a core was refused with an access fault (R402, R404). -/
  accessFault : Bool := false
  /-- Core control and flash controller words written by the control core (R404: Calweyr firmware only). -/
  coreControl : Sparse (BitVec 32) := []
  flashControl : Sparse (BitVec 32) := []
  /-- Firmware copies A and B in flash: control (0, 1) and application (2, 3); an invalid copy is none. -/
  copies : Vector (Option Firmware) 4 := Vector.replicate 4 none
  /-- Load of the application copy is due to finish. -/
  appLoading : Bool := false
  /-- The control core runs its firmware: false from a watchdog expiry to its restart (R494). -/
  controlAlive : Bool := true
  deriving DecidableEq, Repr
/-! ### Housekeeping (R277 to R296) -/

/-- What one input or internal source holds beside its entries. -/
structure HkInput where
  /-- RUN_SEQ of its result (R285). -/
  runSeq : Nat := 0
  /-- Consecutive results that are "out" (R292). -/
  outRun : Nat := 0
  deriving DecidableEq, Repr

/-- The sequencer. HK_STATE, the codes and the flags are in the dictionary store. -/
structure Housekeeping where
  /-- CAL_BUSY, 1 at reset (Table 11-6). -/
  calBusy : Bool := true
  /-- Start of the self-calibration in progress; a requested one waits for the end of the slot (R291). -/
  calSince : Option Nat := none
  calWaits : Bool := false
  /-- A start setting was changed during the self-calibration and takes effect at its end (R283). -/
  renewWaits : Bool := false
  running : Bool := false
  /-- Settings of the run in progress (R283), and its RUN_SEQ. -/
  settings : Sparse DVal := []
  /-- Slot converting or last converted, its start, and the raw codes of its conversions so far, A and B. -/
  slot : Nat := 0
  slotStart : Nat := 0
  raws : List (Nat × Nat) := []
  /-- The open comparator of A's and of B's channel has tripped in this slot (R288). -/
  openA : Bool := false
  openB : Bool := false
  /-- Next start of the timer, and on-time starts of PWM_LINE that wait for PWM_DELAY (R280). -/
  nextTimer : Option Nat := none
  edges : List Nat := []
  /-- HK_STATUS [11:8]: MISSED, PATH_FAULT, OPEN, LIMIT from bit 0 (Table 11-6). -/
  sticky : BitVec 4 := 0
  /-- Inputs 0 to 23 and sources 0x20 to 0x2F, by code. -/
  inputs : Vector HkInput 48 := Vector.replicate 48 {}
  /-- RUN_SEQ of each channel's temperature result (Table 11-8). -/
  tempSeq : Vector Nat 4 := Vector.replicate 4 0
  deriving DecidableEq, Repr

/-! ### The JoenLink node (R361 to R380) -/

/-- What a port has decided for the uplink slot of a carriage frame in passage (R367, R368, R374). -/
structure Slotted where
  ringId : Nat
  seq : Nat
  carriage : Nat
  /-- USTAT to write; 1 stands for "the answer of the request with this SEQ and CARRIAGE, or pending", 6 for the latest answer
  (CTRL = 2). -/
  ustat : Nat
  /-- The payload of the frame in passage, and the bytes of it up to the end of the slot. -/
  payload : List Byte := []
  passed : Nat := 0
  deriving DecidableEq, Repr

/-- The first copy of a carriage request (R374). -/
structure FirstCopy where
  ringId : Nat
  seq : Nat
  carriage : Nat
  at_ : Nat
  slot : List Byte
  answer : Option (List Byte) := none
  /-- SEQ and answer of the latest request executed as the slot arrived, which a refetch returns (R367). -/
  latest : Option (Nat × List Byte) := none
  deriving DecidableEq, Repr

/-- A port's mailbox buffer (R370). -/
structure MailboxBuf where
  seq : Option Nat := none
  bytes : List Byte := []
  /-- The LAST fragment has been taken and the request waits for its turn, or has been served; when it was taken. -/
  presented : Bool := false
  at_ : Nat := 0
  answer : Option (List Byte) := none
  deriving DecidableEq, Repr

/-- A frame as forwarded: port, payload, and whether its FCS is bad. -/
structure Forwarded where
  port : Fin 2
  payload : List Byte
  badFcs : Bool
  deriving DecidableEq, Repr

/-- One ring port. LINK_STATE and the counters are in the dictionary store. -/
structure RingPort where
  /-- Up without a break since (R375). -/
  upSince : Option Nat := none
  /-- This port is down, or up for less than LINK_HOLD: frames of the other port are sent back (R373, R375). -/
  looped : Bool := true
  /-- The port transmits Clause 37 configuration ordered sets in place of frames (R373). -/
  ordered : Bool := false
  slotted : Option Slotted := none
  mailbox : MailboxBuf := {}
  deriving DecidableEq, Repr

/-- The node. -/
structure Ring where
  ports : Vector RingPort 2 := Vector.replicate 2 {}
  /-- PORT_MODE in use since the last start (R383). -/
  portMode : Vector Nat 2 := Vector.replicate 2 0
  copies : List FirstCopy := []
  /-- MBX_SEQ of presented mailbox requests, and SEQ of used bell-marks, with their instants (R374, R379). -/
  mailboxSeen : List (Nat × Nat) := []
  marksSeen : List (Nat × Nat) := []
  /-- SEQ and answer of the latest request executed from a carriage slot (R367). -/
  latest : Option (Nat × List Byte) := none
  /-- (RING_ID, SEQ) of the roll call taken (R371). -/
  rollTaken : Option (Nat × Nat) := none
  lastOut : Option Forwarded := none
  deriving DecidableEq, Repr

/-! ### The policy (R422 to R434) -/

/-- A decision of the policy whose write waits for its turn (R339, R422): the loss of a line, or a choice of R431 with its code of
decision. -/
inductive OwnJob where
  | line (l : Fin 8)
  | choice (code : Nat)
  deriving DecidableEq, Repr

/-- What the policy measures and remembers. LEVEL_IN_EFFECT, LEVEL_CAUSE and the settings are in the dictionary store. -/
structure Policy where
  /-- The power window (R424): bells, clipped bells, and block sums with the samples in one block. -/
  powerBells : Nat := 0
  powerClipped : Nat := 0
  powerSum : Nat := 0
  powerDen : Nat := 1
  /-- The weight period (R425): bells, and each band's sum. -/
  weightBells : Nat := 0
  weightSums : Vector Nat 4 := Vector.replicate 4 0
  /-- The fade evaluation (R426): bells, sum of faded fractions, evaluations above FADE_LIMIT. -/
  fadeBells : Nat := 0
  fadeSum : Rat := 0
  fadeRun : Nat := 0
  /-- Bells started since the policy's last pattern change (R426). -/
  sincePattern : Option Nat := none
  /-- Lines that the policy has disabled (R427). -/
  disabled : BitVec 8 := 0
  /-- Runs of results above THERMAL_HIGH and THERMAL_SHUT, and since when results stay below THERMAL_LOW (R428). -/
  hotRun : Nat := 0
  shutRun : Nat := 0
  belowSince : Option Nat := none
  /-- When the last cause cleared; none once the policy has returned (R434). -/
  lastCleared : Option Nat := none
  /-- Start of the holdover in progress, and whether its decision is recorded (R429). -/
  holdoverSince : Option Nat := none
  holdoverNoted : Bool := false
  /-- BELL_PERIOD that you last wrote, while doubled; geometry and slot before coarsening (R430). -/
  doubledFrom : Option Nat := none
  coarseFrom : Option (Nat × Nat × Nat × Nat) := none
  /-- A chosen level that waits for its bell: level, and the instant from which a bell start takes it (R434). -/
  levelNext : Option (Nat × Nat) := none
  /-- Decisions whose writes wait, the oldest first. -/
  jobs : List OwnJob := []
  deriving DecidableEq, Repr

/-! ### Protection, power states, start-up and the test access port (R438 to R461, R485 to R502) -/

/-- Keys, sessions, windows and debug. The fuses keep their content over every reset; they are blank in the state of a part
that has never been programmed (log entry 2). -/
structure Security where
  /-- Fuses: keys 0 to 5 of Table 18-2, revoked signing slots, lifecycle at the next start. -/
  keys : Vector (Option (List Byte)) 6 := Vector.replicate 6 none
  revoked : BitVec 4 := 0
  fuseLifecycle : Nat := 0
  /-- Key registers of the Principal and the Staff session key (R440): none if the key is not programmed. -/
  keyRegs : Vector (Option (List Byte)) 2 := Vector.replicate 2 none
  /-- N_d of each initiator, while it is valid (R442). -/
  nonces : Vector (Option (List Byte)) 3 := Vector.replicate 3 none
  /-- Consecutive failed attempts, and the end of a lockout (R444). -/
  fails : Vector Nat 3 := Vector.replicate 3 0
  lockUntil : Vector (Option Nat) 3 := Vector.replicate 3 none
  /-- Last request of the initiator (R443). -/
  lastRequest : Vector Nat 3 := Vector.replicate 3 0
  /-- Windows in force; empty is the default of Table 18-10 (R446). A written one waits for its change instant (R447). -/
  windows : Vector (List Byte) 3 := Vector.replicate 3 []
  windowNext : Vector (Option (Nat × List Byte)) 3 := Vector.replicate 3 none
  baseNext : Option (Nat × Nat) := none
  /-- The scan chains are enabled (R449). -/
  scanEnabled : Bool := false
  deriving DecidableEq, Repr

/-- What stood when RESET_N fell (R485): the next SEQ and WRAPS, device time, bell, time state, start, drops, and the black-box slots that
the queue is written into, in order. -/
structure ResetNote where
  seq : Nat
  wraps : Nat
  devTime : Nat
  bell : Nat
  unlocked : Bool
  startCount : Nat
  drops : Nat
  writes : List Nat
  deriving DecidableEq, Repr

/-- Power and supply. POWER_STATE, SUPPLY_STATE and the counts are in the dictionary store. -/
structure Power where
  /-- A transition in progress: from, to, and when it was accepted (R452). -/
  transition : Option (Nat × Nat × Nat) := none
  /-- A request accepted during Brace (R452). -/
  waiting : Option Nat := none
  /-- Instant and device time of the warning crossing of each rail, in Brace (R455). -/
  crossed : Vector (Option (Nat × Nat)) 3 := Vector.replicate 3 none
  /-- The store as Brace was entered: the configuration store is held as it was (R455). -/
  held : Option (Sparse DVal) := none
  /-- Hold is in force (R457); the device is in reset, or Off (R485, R495). -/
  hold : Bool := false
  inReset : Bool := false
  off : Bool := false
  /-- Turn of an accepted shut-down (R495), and whether it came from Standby. -/
  shutdownAt : Option Nat := none
  /-- A Brace was entered while the logic BIST of a shut-down ran (R496). -/
  bistDip : Bool := false
  /-- The report card of a shut-down has been written (R477, R495). -/
  cardDone : Bool := false
  /-- What a Hold that follows RESET_N at once still needs (R485). -/
  note : Option ResetNote := none
  /-- What the last reset was, for RESET_CAUSE. -/
  cause : Nat := 0
  deriving DecidableEq, Repr

/-- The start-up (R488 to R493). START_STATE and START_TIMES are in the dictionary store. -/
structure StartUp where
  /-- The timeline has run to step 9; steps 10 to 13 wait for the control firmware. -/
  ran : Bool := false
  /-- The step of Table 20-1 that the control firmware does next: 10 to 13; 14 drive and bells, once Run is reached; 15 the
  first bell is awaited; 0 none. Within step 10, 20 is TT_LOAD; 21 begins step 11 and 22 step 12; within step 13, 24 is BELL_START_TIME,
  34 BELL_RUN and 44 the return to Watch after a refusal. -/
  next : Nat := 0
  /-- The instant of the start. -/
  at_ : Nat := 0
  /-- Restored training failed, or training ran in full. -/
  full : Bool := true
  /-- Output pins of R486. -/
  resetOut : Bool := false
  shdnDone : Bool := false
  /-- Bells were running at a watchdog expiry and the firmware restarts them (R494). -/
  restartBells : Bool := false
  /-- An unrepaired cell of the application TCM: the application core stays in reset (Table 19-6). -/
  appBad : Bool := false
  deriving DecidableEq, Repr

/-- The instructions of the TAP (Table 20-10). -/
inductive TapInstr where
  | extest | idcode | samplePreload | clamp | highz | dtmcs | dmi | engDebug
  | scanChain (p : Fin 8)
  | bypass
  deriving DecidableEq, Repr

/-- The TAP: its instruction, and what the ENG_DEBUG register captures (Table 6-7). -/
structure Tap where
  /-- The instruction register: it holds IDCODE after Test-Logic-Reset (R501). -/
  ir : BitVec 8 := 0x01
  /-- What a capture finds in a data register whose content the manual does not give (Table 20-10). -/
  dr : BitVec 72 := 0
  result : Nat := 0
  engine : Fin 32 := 0
  address : BitVec 24 := 0
  data : BitVec 32 := 0
  /-- The request in ENG_DEBUG completes at this instant; a capture before it gives result code 0x01 (R170). -/
  busyUntil : Nat := 0
  deriving DecidableEq, Repr

/-! ### Black box and self-test (R462 to R482) -/

/-- A black-box record, Table 19-1 (R462). -/
structure Record where
  /-- The SUPCLK cycle it was formed in: no part of the record, it orders the SEQ of records formed together (R463). -/
  formed : Nat := 0
  seq : Nat
  time : Nat
  bell : Nat
  cls : Nat
  coalesced : Bool
  inHold : Bool
  unlocked : Bool
  wraps : Nat
  source : Nat
  code : Nat
  data : List Byte
  startCount : Nat
  deriving DecidableEq, Repr

/-- Drop state of one class (R471). -/
structure DropState where
  count : Nat := 0
  lowest : Nat := 0
  highest : Nat := 0
  deriving DecidableEq, Repr

/-- A report card, Table 19-5 (R477). -/
structure Card where
  startCount : Nat := 0
  time : Nat := 0
  result : Nat := 0
  partRun : Nat := 0
  partPass : Nat := 0
  signatures : List Nat := []
  vcoreMin : Nat := 0
  vcoreMax : Nat := 0
  dieTemp : Nat := 0
  duration : Nat := 0
  repairs : Nat := 0
  unrepaired : Nat := 0
  deriving DecidableEq, Repr

/-- One memory BIST or slice log entry (R480). -/
structure CellLog where
  kind : Nat := 0
  unit : Nat := 0
  bank : Nat := 0
  outcome : Nat := 0
  word : Nat := 0
  bit : Nat := 0
  deriving DecidableEq, Repr

/-- The black box and the report cards. MRAM keeps its content over every reset; it is empty in the state of a part
that has never started (log entry 2). -/
structure BlackBox where
  /-- Staging queue, oldest first, at most 128 (R470). -/
  queue : List Record := []
  /-- Records held in the 1,024 sealed and 15,360 circular slots, by slot number (R464). -/
  slots : Sparse (Option Record) := []
  /-- What a free slot holds that does not read 0xFF throughout (R469). -/
  torn : Sparse (List Byte) := []
  wraps : Nat := 0
  drops : Vector DropState 6 := Vector.replicate 6 {}
  /-- Fatal codes formed in this start (R471). -/
  fatalFormed : List Nat := []
  lastSealed : Option Record := none
  /-- The two report-card slots and the number of the last start (R463, R477). -/
  cards : Vector (Option Card) 2 := Vector.replicate 2 none
  /-- The two copies of START_COUNT in the report-card area (R463). -/
  startCopies : Vector Nat 2 := Vector.replicate 2 0
  /-- Repair data (R479): log entries of the repairs. -/
  repairs : List CellLog := []
  /-- MRAM holds training results of barn channel 0, 1 (R325). -/
  training : Vector Bool 2 := Vector.replicate 2 false
  /-- Spares marked unusable and cells marked for repair by slices since the last full start (R481). -/
  marks : List CellLog := []
  /-- MBIST log of the last full start, first 64 entries (R480). -/
  bistLog : List CellLog := []
  /-- Bells since the last slice, and the target in turn (R481). -/
  sliceBells : Nat := 0
  sliceTarget : Nat := 0
  lastSlice : Option CellLog := none
  deriving DecidableEq, Repr

/-! ### The whole machine -/

/-- The Pydon 8320. -/
structure State where
  clk : Clock := {}
  bell : BellGen := {}
  launch : Launch := {}
  servo : TimeServo := {}
  tdc : Tdc := {}
  exc : Excitation := {}
  drive : Drive := {}
  chain : Chain := {}
  capture : Capture := {}
  raman : Raman := {}
  detect : Detection := {}
  granary : Granary := {}
  array : EngineArray := {}
  tt : Timetables := {}
  barn : Barn := {}
  streams : Vector Stream 8 := Vector.replicate 8 {}
  profiler : Profiler := {}
  fibre : Break := {}
  ic : Interrupts := {}
  timer : Timer := {}
  cores : Cores := {}
  bb : BlackBox := {}
  hk : Housekeeping := {}
  node : Ring := {}
  policy : Policy := {}
  sec : Security := {}
  power : Power := {}
  start : StartUp := {}
  tap : Tap := {}
  dict : Dictionary := {}
  host : HostPort := {}
  port : StreamPort := {}
  /-- Commands that wait, first in, first out: the model's own queue. -/
  pending : List Instr := []
  /-- How many free values the machine has drawn: the model's own counter (log entry 3). -/
  drawn : Nat := 0
  deriving DecidableEq, Repr

/-- The machine right after reset: every field at the default its structure states. INTERLOCK_N is held low by its pull-down, and
STATUS_LATCH holds that from the first instant (R99, R358). -/
def State.reset : State := { dict := { latch := 0x10 } }

end Sys2Proof.Machine
end

