-- ==== Sys2Proof/Machine/Ops.lean ====
section
/-!
DEFINITION. Machine/Ops.lean: the named operations every meaning is built from: reading and writing dictionary entries,
counters, free values, and the passing of time.
-/

namespace Sys2Proof.Machine

/-! ### Entries -/

/-- The value of entry `k` in a store: in effect, or a copy of what was in effect at a bell start (R58). -/
def valIn (m : Sparse DVal) (k : Key) : DVal := sparseGet defaultVal m k

/-- A scalar read from a store. -/
def numIn (m : Sparse DVal) (k : Key) : Int :=
  match valIn m k with
  | .num v => v
  | .bytes _ => 0

/-- A non-negative scalar read from a store. -/
def natIn (m : Sparse DVal) (k : Key) : Nat := (numIn m k).toNat

/-- A byte block read from a store. -/
def bytesIn (m : Sparse DVal) (k : Key) : List Byte :=
  match valIn m k with
  | .num _ => []
  | .bytes b => b

/-- The value in effect of entry `k` (R342). -/
def State.num (s : State) (k : Key) : Int := numIn s.dict.store k

/-- The value in effect of an unsigned entry. -/
def State.nat (s : State) (k : Key) : Nat := natIn s.dict.store k

/-- The byte block held by a DOM or STR entry. -/
def State.block (s : State) (k : Key) : List Byte := bytesIn s.dict.store k

/-- GENERATION of entry `k` counted on; it wraps (R346). -/
def nextGeneration (g : Sparse Nat) (k : Key) : Sparse Nat :=
  sparseSet (fun _ => 0) g k ((sparseGet (fun _ => 0) g k + 1) % 2 ^ 32)

/-- Count a change of the content of a byte block (R346). -/
def State.bumpGeneration (s : State) (k : Key) : State :=
  { s with dict := { s.dict with generations := nextGeneration s.dict.generations k } }

/-- Put value `v` into effect at entry `k`; a byte block whose content changes counts a generation, which wraps (R346). -/
def State.setVal (s : State) (k : Key) (v : DVal) : State :=
  { s with dict := { s.dict with
    store := sparseSet defaultVal s.dict.store k v,
    generations := match v with
      | .bytes _ => if valIn s.dict.store k = v then s.dict.generations else nextGeneration s.dict.generations k
      | .num _ => s.dict.generations } }

/-- Put a number into effect at entry `k`. -/
def State.setNum (s : State) (k : Key) (v : Int) : State := s.setVal k (.num v)

/-- Put a byte block into effect at entry `k`. -/
def State.setBlock (s : State) (k : Key) (b : List Byte) : State := s.setVal k (.bytes b)

/-- Add `n` to a counter that saturates at 2 ^ w - 1. -/
def State.addSat (s : State) (w : Nat) (k : Key) (n : Nat) : State :=
  s.setNum k (min (s.nat k + n) (2 ^ w - 1) : Nat)

/-- Add one to a counter that saturates at 2³² − 1. -/
def State.inc (s : State) (k : Key) : State := s.addSat 32 k 1

/-- Add one to a count that wraps at 2 ^ w. -/
def State.incWrap (s : State) (w : Nat) (k : Key) : State := s.setNum k ((s.nat k + 1) % 2 ^ w : Nat)

/-! ### Free values -/

/-- Draw a fresh free value below `bound` (log entry 3). -/
def State.free (s : State) (bound : Nat) : Nat := Config.freeNat s.drawn % bound

/-- Count a drawn free value. -/
def State.draw (s : State) : State := { s with drawn := s.drawn + 1 }

/-! ### Time -/

/-- The clock after `n` REFCLK edges: device time advances by 10 on every edge (R28), but for the first edge after a write of
DEVICE_TIME, which has the value written (R61). -/
def Clock.edges (c : Clock) (n : Nat) : Clock :=
  match c.devNext, n with
  | some x, n + 1 => { c with devTime := x + 10 * n, devNext := none }
  | _, n => { c with devTime := c.devTime + 10 * n }

/-- Let time pass to `t` nanoseconds since reset, with the REFCLK edges that this takes. -/
def State.passTo (s : State) (t : Nat) : State :=
  let t' := max s.clk.now t
  { s with clk := { s.clk.edges (t' / 10 - s.clk.now / 10) with now := t' } }

/-- Device time at the last REFCLK edge, counted back from the next edge's (R61). -/
def State.edgeTime (s : State) : Int :=
  match s.clk.devNext with
  | some x => (x : Int) - 10
  | none => s.clk.devTime

/-- The ports transmit and the PCI Express link stays up: no shut-down is 5.0 ms past its turn (Table 20-5, R495). -/
def portsOn (s : State) : Bool :=
  match s.power.shutdownAt with
  | some t => decide (s.clk.now < t + 5000000)
  | none => true

/-- Engines and classrooms have no power: in Standby, and in a shut-down from Standby until 5.0 ms past its turn (R451, Table 20-5). -/
def enginesOff (s : State) : Bool :=
  s.nat K.powerState == 2 || match s.power.transition with
    | some (was, dest, t) => was == 2 && dest == 3 && decide (s.clk.now < t + 5000000)
    | none => false

/-- Let `dt` nanoseconds pass, but not past a bell start that is due: that start is a command of its own (log entry 6). -/
def State.elapse (s : State) (dt : Nat) : State :=
  match s.bell.due with
  | some d => s.passTo (min (s.clk.now + dt) (d - 1))
  | none => s.passTo (s.clk.now + dt)

/-- Move on to the computed instant `t` of an event, held before a bell start that is due. -/
def State.reach (s : State) (t : Nat) : State := s.elapse (t - s.clk.now)

/-- An event at the computed instant `t`: time passes to it and `k` comes about; nothing happens if a bell start is due
before it (log entry 6). -/
def atInstant (t : Nat) (k : State → State) (s : State) : State :=
  let s' := s.reach t
  if s'.clk.now < t then s else k s'

/-- What the block does while no command waits: time passes to the next edge of REFCLK (log entry 6). -/
def idle (s : State) : State := s.elapse (10 - s.clk.now % 10)

/-- MTIME of R405: microseconds since reset. -/
def State.mtime (s : State) : Nat := s.clk.now / 1000

/-! ### The bells -/

/-- "Bells are stopped": BELL_STATE is 0 (R505). -/
def State.stopped (s : State) : Bool := s.nat K.bellState == 0

/-- "Bells run": BELL_STATE is 2 or 3 (R505). -/
def State.running (s : State) : Bool := s.nat K.bellState == 2 || s.nat K.bellState == 3

/-- Sample period of a spatial mode in ns (R11). -/
def tsOf (mode : Nat) : Nat := if mode = 0 then 2 else if mode = 1 then 4 else 8

/-- Maximum phase points of a mode (Table 1-2). -/
def maxPoints (mode : Nat) : Nat := if mode = 2 then 65536 else 262144

/-- The DTS point count N_T (R12). -/
def dtsPoints (mode n : Nat) : Nat := if mode = 0 then n / 4 else if mode = 1 then min (n / 2) 65536 else n

/-- Minimum bell period in REFCLK periods for `n` points (R14). -/
def minBellPeriod (mode n : Nat) : Nat := (n * tsOf mode + 8000 + 9) / 10

/-- Change the bell being acquired. -/
def State.onAcquiring (s : State) (f : BellRec → BellRec) : State :=
  { s with bell := { s.bell with acquiring := s.bell.acquiring.map f } }

/-- Change the bell that the lessons process. -/
def State.onProcessing (s : State) (f : BellRec → BellRec) : State :=
  { s with bell := { s.bell with processing := s.bell.processing.map f } }

/-- Length of the acquisition window of a bell, in ns (R16). -/
def windowLength (h : Header) : Nat := h.points * tsOf h.mode + 3024

/-- Change the header of a bell. -/
def BellRec.onHeader (b : BellRec) (f : Header → Header) : BellRec := { b with header := f b.header }

/-! ### Vectors -/

/-- Change one place of a vector. -/
def vmod {α : Type} {n : Nat} (v : Vector α n) (i : Fin n) (f : α → α) : Vector α n := v.set i (f v[i])

end Sys2Proof.Machine
end

