-- ==== Sys2Proof/Machine/TtImage.lean ====
section
/-!
DEFINITION. Machine/TtImage.lean: reading a timetable image (R201 to R222): header, section table and the sections that the
array runs by.
-/

namespace Sys2Proof.Machine

/-- One section-table entry (Table 8-2). -/
structure Sec where
  type : Nat
  variant : Nat
  scope : Nat
  reserved : Nat
  offset : Nat
  length : Nat
  crc : Nat
  deriving DecidableEq, Repr

/-- Entry `i` of the section table. -/
def secAt (img : List Byte) (i : Nat) : Sec :=
  let b := slice (128 + 16 * i) 16 img
  { type := fieldAt 0 1 b, variant := fieldAt 1 1 b, scope := fieldAt 2 1 b, reserved := fieldAt 3 1 b,
    offset := fieldAt 4 4 b, length := fieldAt 8 4 b, crc := fieldAt 12 4 b }

/-- SECTION_COUNT. -/
def secCount (img : List Byte) : Nat := fieldAt 6 2 img

/-- The section table of an image; an empty image has none. -/
def secTable (img : List Byte) : List Sec := (List.range (secCount img)).map (secAt img)

/-- The bytes of a section. -/
def secBytes (img : List Byte) (x : Sec) : List Byte := slice x.offset x.length img

/-- The kind whose sections serve `kind`: N−1 shares the full variant's (R222), but for its VARIANT and APPENDIX. -/
def servingKind (type kind : Nat) : Nat := if kind = 1 && type ≠ 1 && type ≠ 10 then 0 else kind

/-- The section of a type that serves a kind and scope: its own, else the shared one (R202). -/
def findSec (img : List Byte) (type kind scope : Nat) : Option Sec :=
  let k := servingKind type kind
  match (secTable img).find? fun x => x.type == type && x.scope == scope && x.variant == k with
  | some x => some x
  | none => (secTable img).find? fun x => x.type == type && x.scope == scope && x.variant == 255

/-- Its bytes; none gives no bytes. -/
def findBytes (img : List Byte) (type kind scope : Nat) : List Byte :=
  match findSec img type kind scope with
  | some x => secBytes img x
  | none => []

/-- Split a section into `n`-byte entries. -/
def chunks (n : Nat) (b : List Byte) : List (List Byte) :=
  (List.range (b.length / n)).map fun i => slice (n * i) n b

/-- MODE, GAUGE, PHASE_POINTS, VARIANT_MASK and TIMETABLE_ID of the header (Table 8-1). -/
def imgMode (img : List Byte) : Nat := fieldAt 28 1 img
def imgGauge (img : List Byte) : Nat := fieldAt 29 1 img
def imgPoints (img : List Byte) : Nat := fieldAt 32 4 img
def imgMask (img : List Byte) : Nat := fieldAt 30 1 img
def imgId (img : List Byte) : Nat := fieldAt 16 8 img

/-- Kind `k` is in the image. -/
def hasKind (img : List Byte) (k : Nat) : Bool := !img.isEmpty && k < 4 && bitOf (imgMask img) k

/-- VARIANT record of kind `k`: LEVEL, ENGCLK_MHZ and ENGINE_MASK (R221). -/
def kindLevel (img : List Byte) (k : Nat) : Nat := fieldAt 1 1 (findBytes img 1 k 255)
def kindMhz (img : List Byte) (k : Nat) : Nat := fieldAt 2 2 (findBytes img 1 k 255)
def kindEngines (img : List Byte) (k : Nat) : Nat := fieldAt 4 4 (findBytes img 1 k 255)

/-- A LESSON or APPENDIX section (R205). -/
def lessonBase (b : List Byte) : Nat := fieldAt 0 2 b
def lessonBundles (b : List Byte) : Nat := fieldAt 2 2 b
def lessonCycles (b : List Byte) : Nat := fieldAt 4 4 b
def lessonBundle (b : List Byte) (i : Nat) : BitVec 128 := BitVec.ofNat 128 (fieldAt (16 + 16 * i) 16 b)

/-- One entry of a SEGMENTS section (R206). -/
structure Seg where
  start : Nat
  maxGap : Nat
  cycles : Nat
  pointFirst : Nat
  pointCount : Nat
  appendix : Bool
  reserved : Nat
  deriving DecidableEq, Repr

/-- The entries of a SEGMENTS section. -/
def segsOf (b : List Byte) : List Seg := (chunks 16 b).map fun x =>
  { start := fieldAt 0 2 x, maxGap := fieldAt 2 2 x, cycles := fieldAt 4 4 x, pointFirst := fieldAt 8 4 x,
    pointCount := fieldAt 12 2 x, appendix := bitOf (fieldAt 14 2 x) 15, reserved := fieldAt 14 2 x % 32768 }

/-- One entry of a REGIONS section (R211). -/
structure Region where
  first : Nat
  length : Nat
  cls : Nat
  flags : Nat
  reserved : Nat
  deriving DecidableEq, Repr

/-- The entries of a REGIONS section. -/
def regionsOf (b : List Byte) : List Region := (chunks 12 b).map fun x =>
  { first := fieldAt 0 4 x, length := fieldAt 4 4 x, cls := fieldAt 8 1 x, flags := fieldAt 9 1 x,
    reserved := fieldAt 10 2 x }

/-- CLASS of an address in a region table; scratch where the table lists none. -/
def classIn (rs : List Region) (a : Nat) : Nat :=
  match rs.find? fun r => decide (r.first ≤ a ∧ a < r.first + r.length) with
  | some r => r.cls
  | none => 3

/-- One run of a point map (R212). -/
structure Run where
  first : Nat
  count : Nat
  halo : Bool
  deriving DecidableEq, Repr

/-- A POINT_MAP section (Table 8-5). -/
structure PointMap where
  buf : Nat × Nat
  app : Nat × Nat
  aCap : Nat
  context : Nat
  headerOff : Nat
  clipOff : Nat
  runCount : Nat
  runs : List Run
  deriving DecidableEq, Repr

/-- Read a POINT_MAP section. -/
def pointMapOf (b : List Byte) : PointMap :=
  let n := fieldAt 32 4 b
  { buf := (fieldAt 0 4 b, fieldAt 4 4 b), app := (fieldAt 8 4 b, fieldAt 12 4 b), aCap := fieldAt 16 4 b,
    context := fieldAt 20 4 b, headerOff := fieldAt 24 4 b, clipOff := fieldAt 28 4 b, runCount := n,
    runs := (List.range (min n 256)).map fun i =>
      { first := fieldAt (48 + 8 * i) 4 b, count := fieldAt (52 + 8 * i) 4 b % 2 ^ 31,
        halo := bitOf (fieldAt (52 + 8 * i) 4 b) 31 } }

/-- The buffer of a pair for bell `b`: even or odd (Table 8-5). -/
def byParity (x : Nat × Nat) (b : Nat) : Nat := if b % 2 = 0 then x.1 else x.2

/-- The points that a run covers. -/
def Run.points (r : Run) : List Nat := (List.range r.count).map (r.first + ·)

/-- Points that the map delivers, in buffer order. -/
def PointMap.delivered (m : PointMap) : List Nat := m.runs.flatMap Run.points

/-- The engine's product list: the non-halo points, in run order (R206). -/
def PointMap.products (m : PointMap) : List Nat := (m.runs.filter fun r => !r.halo).flatMap Run.points

/-- Owner nibble of classroom bank `c` in frame cycle `f` (R214). -/
def slotOwner (b : List Byte) (f c : Nat) : Nat :=
  let x := fieldAt (8 * f + c / 2) 1 b
  if c % 2 = 0 then x % 16 else x / 16

/-- One entry of the barn region list (R215). -/
structure BarnRegion where
  kind : Nat
  index : Nat
  access : Nat
  reserved : Nat
  length : Nat
  prefetch : Nat
  deriving DecidableEq, Repr

/-- The barn region list of an image: empty if it declares none. -/
def barnRegions (img : List Byte) : List BarnRegion := (chunks 16 (findBytes img 8 255 255)).map fun x =>
  { kind := fieldAt 0 1 x, index := fieldAt 1 1 x, access := fieldAt 2 1 x, reserved := fieldAt 3 1 x,
    length := fieldAt 4 8 x, prefetch := fieldAt 12 4 x }

/-- One parameter record (R218). -/
structure ParamRec where
  index : Nat
  sub : Nat
  ty : Nat
  rights : Nat
  scope : Nat
  reserved : Nat
  address : Nat
  min : Nat
  max : Nat
  dflt : Nat
  deriving DecidableEq, Repr

/-- The parameter records of an image. -/
def paramsOf (img : List Byte) : List ParamRec := (chunks 40 (findBytes img 9 255 255)).map fun x =>
  { index := fieldAt 0 2 x, sub := fieldAt 2 1 x, ty := fieldAt 3 1 x, rights := fieldAt 4 1 x, scope := fieldAt 5 1 x,
    reserved := fieldAt 6 2 x + fieldAt 12 4 x, address := fieldAt 8 4 x, min := fieldAt 16 8 x, max := fieldAt 24 8 x,
    dflt := fieldAt 32 8 x }

/-- The image of a slot. -/
def State.image (s : State) (slot : Nat) : List Byte := (s.tt.slots.toList.getD slot {}).image

/-- The image that the engines run, and its kind. -/
def runImage (s : State) : List Byte :=
  match s.array.kind with
  | some _ => s.image s.array.slot
  | none => []

/-- The kind that the engines run (0 if none does). -/
def runKind (s : State) : Nat := s.array.kind.getD 0

/-- Physical classroom of logical classroom `l` (R144). -/
def roomOf (s : State) (l : Nat) : Nat := s.nat K.classroomMap / 4 ^ l % 4

/-- Logical classroom of physical classroom `r`. -/
def logicalRoom (s : State) (r : Nat) : Nat := ((List.range 4).find? fun l => roomOf s l == r).getD 0

/-- Logical engine of physical engine `e` (R204). -/
def logicalOf (s : State) (e : Nat) : Nat := 8 * logicalRoom s (e / 8) + e % 8

/-- Physical engine of logical engine `x` (R204). -/
def physicalOf (s : State) (x : Nat) : Nat := 8 * roomOf s (x / 8) + x % 8

/-- A section of the running kind for engine `e`. -/
def engSec (s : State) (type : Nat) (e : Nat) : List Byte := findBytes (runImage s) type (runKind s) (logicalOf s e)

/-- A section of the running kind for physical classroom `r`. -/
def roomSec (s : State) (type : Nat) (r : Nat) : List Byte :=
  findBytes (runImage s) type (runKind s) (0x20 + logicalRoom s r)

/-- The running timetable holds an N−1 variant (R205). -/
def holdsN1 (s : State) : Bool := hasKind (runImage s) 1

/-- ENGCLK cycles per REFCLK period of a kind: 8 for the cool variant, 10 otherwise (R207). -/
def cyclesPerRef (img : List Byte) (k : Nat) : Nat := if kindMhz img k = 800 then 8 else 10

/-- `n` ENGCLK cycles of the running kind in ns, rounded up. -/
def cyclesNs (s : State) (n : Nat) : Nat :=
  let c := cyclesPerRef (runImage s) (runKind s)
  (n * 10 + c - 1) / c

/-- C_bell of R207 for a bell of `t` REFCLK periods. -/
def cBell (c t : Nat) : Nat := c * t

/-- The lesson budget B of R207. -/
def lessonBudget (c t : Nat) : Nat := (cBell c t - 2000) * 7 / 8

/-- The segment limit S_max of R207. -/
def segmentLimit (c t : Nat) : Nat := cBell c t / 16

end Sys2Proof.Machine
end

