-- ==== Sys2Proof/Machine/BarnOps.lean ====
section
/-!
DEFINITION. Machine/BarnOps.lean: the barn's areas (R307), the placement of private and ring regions (R215, R308), and its
bytes.
-/

namespace Sys2Proof.Machine

/-- One MiB. -/
def mib : Nat := 1048576

/-- Sizes of areas 1 to 7 (Table 12-2), with the supervisor area of this start and the harvest area in effect. -/
def areaSizes (s : State) : List Nat :=
  [128 * mib, 64 * mib, 4 * mib, 1028 * mib, 1028 * mib, s.barn.supArea, s.nat K.harvestAreaBytes]

/-- Base of area `k`, 1 to 8 (R307): each starts on a multiple of 1 MiB. -/
def areaBase (s : State) (k : Nat) : Nat := ((areaSizes s).take (k - 1)).foldl (fun t n => t + ceilTo mib n) 0

/-- RING_AREA_BYTES: the rest of the barn (R307). -/
def ringAreaBytes (s : State) : Nat := s.nat K.barnBytes - areaBase s 8

/-- LAYOUT (5400.05). -/
def layoutBlock (s : State) : List Byte := (List.range 8).flatMap fun k => leBytes 8 (areaBase s (k + 1))

/-- The area that holds an address, 1 to 8. -/
def areaOf (s : State) (a : Nat) : Nat :=
  ((List.range 8).reverse.map (· + 1)).find? (fun k => decide (areaBase s k ≤ a)) |>.getD 1

/-! ### The map -/

/-- Value of an address function (R305): the XOR of every bit its U64 lists. -/
def mapFunction (entry a : Nat) : Bool :=
  (List.range 8).foldl (fun x k =>
    let b := entry / 2 ^ (8 * k) % 256
    x != (decide (b ≠ 255) && bitOf a b)) false

/-- Channel `c` is in use: populated and not failed (R303, R325). -/
def chanInUse (s : State) (c : Nat) : Bool := natIn s.barn.inUse (K.populated c) == 1 && s.nat (K.trainingState c) != 3

/-- Channel of a line (R304, R305). -/
def chanOf (s : State) (line : Nat) : Fin 2 :=
  if chanInUse s 0 && chanInUse s 1 then
    (if mapFunction (natIn s.barn.inUse (K.addrMap 0)) (64 * line) then 1 else 0)
  else if chanInUse s 1 then 1 else 0

/-- The number that some bits of `a` spell, the first the least significant. -/
def bitsSpell (a : Nat) (bits : List Nat) : Nat := bits.foldr (fun b t => b2n (bitOf a b) + 2 * t) 0

/-- Rank, bank group, bank, row and column of a line (R305): the functions RK, BG1, BG0, BA1 and BA0, and the address bits from 6 to
A_top that are no home bit, of which the first seven form COL[9:3] and the rest the row. -/
def placeOf (s : State) (line : Nat) : DramPlace :=
  let a := 64 * line
  let f (i : Nat) : Nat := natIn s.barn.inUse (K.addrMap i)
  let on (i : Nat) : Nat := b2n (mapFunction (f i) a)
  let free := (List.range (Nat.log2 (s.nat K.barnBytes))).filter fun b =>
    6 ≤ b && !(List.range 6).any fun i => f i % 256 == b
  { rank := on 1, group := 2 * on 2 + on 3, bank := 2 * on 4 + on 5, row := bitsSpell a (free.drop 7),
    col := 8 * bitsSpell a (free.take 7) }

/-- Change channel `c`. -/
def State.onChan (s : State) (c : Fin 2) (f : BarnChan → BarnChan) : State :=
  { s with barn := { s.barn with chans := vmod s.barn.chans c f } }

/-- Channel `c`. -/
def State.chan (s : State) (c : Fin 2) : BarnChan := s.barn.chans[c]

/-- The write-queue entry of a line, if it has one (R314). -/
def queuedWrite (s : State) (line : Nat) : Option BarnWrite :=
  ((s.chan (chanOf s line)).writes.take 64).find? fun w => w.line == line

/-- Put bytes over an entry's bytes; newer bytes replace older (R314). -/
def mergeBytes (old new : List (Nat × Byte)) : List (Nat × Byte) :=
  (old.filter fun o => !(new.any fun b => b.1 == o.1)) ++ new

/-- Places of records in the barn's system area: the last block, the last profile, the error logs. The manual gives the area's contents,
not their places (R307; DESIGN CHOICE, log entry 76). -/
def blockPlace (s : State) : Nat := areaBase s 1
def profilePlace (s : State) : Nat := areaBase s 1 + 2 * mib
def logPlace (s : State) : Nat := areaBase s 1 + 8 * mib

/-- The oldest harvest, if it is readable: complete, and every lower sequence number is complete (R253). -/
def harvestNext (s : State) : Option Harvest :=
  match s.granary.harvests with
  | h :: _ => if h.complete then some h else none
  | [] => none

/-- The dictionary blocks that stand in the barn, each with its place and size (R307): the capture record, the oldest harvest, the last
block, the last profile, the error logs. -/
def barnBlocks (s : State) : List (Key × Nat × Nat) :=
  [(K.capData, areaBase s 2, s.capture.record.length), (K.lastBlock, blockPlace s, (s.block K.lastBlock).length),
   (K.lastProfile, profilePlace s, (s.block K.lastProfile).length), (K.errorLog 0, logPlace s, 512),
   (K.errorLog 1, logPlace s + 512, 512)]
    ++ ((harvestNext s).map fun h => (K.harvestNext, areaBase s 7 + h.place, h.size)).toList

/-! ### The bytes -/

/-- The byte that the devices hold at a barn address: the capture record, the upload buffer and the checked images stand in their areas
(R307); everything else is held as bytes. -/
def dramByte (s : State) (a : Nat) : Byte :=
  let k := areaOf s a
  let o := a - areaBase s k
  if k = 2 then s.capture.record.getD o 0
  else if k = 3 then s.dict.upload.getD o 0
  else if (k = 4 || k = 5) && o < 4 * mib then (s.image (k - 4)).getD o 0
  else sparseGet (fun _ => 0) s.barn.bytes a

/-- The byte that a read at a barn address returns: a queued byte goes before the devices' (R315). -/
def barnByte (s : State) (a : Nat) : Byte :=
  match (queuedWrite s (a / 64)).bind fun w => w.bytes.find? fun b => b.1 == a % 64 with
  | some b => b.2
  | none => dramByte s a

/-- The bytes `b` that the devices hold from a barn address up, as a read finds them: queued bytes go before them (R315). -/
def overQueued (s : State) (a : Nat) (b : List Byte) : List Byte :=
  (s.barn.chans.toList.flatMap fun c => c.writes.take 64).foldl (fun b w => w.bytes.foldl (fun b x =>
    let p := 64 * w.line + x.1
    if a ≤ p && decide (p < a + b.length) then overlay (p - a) [x.2] b else b) b) b

/-- The mark of the 64-bit word of a barn address (R318). -/
def wordMark (s : State) (a : Nat) : WordMark := sparseGet (fun _ => .good) s.barn.marked (a / 8)

/-- The write queue alone gives the line of an address: its mask covers all 64 bytes (R315). -/
def lineForwarded (s : State) (line : Nat) : Bool := (queuedWrite s line).any fun w => w.bytes.length == 64

/-- A read of the 64-bit word of a barn address meets stored poison or otherwise uncorrectable data (R318); a line given by the write
queue alone is not read from the devices (R315). -/
def barnMarked (s : State) (a : Nat) : Bool := wordMark s a != .good && !lineForwarded s (a / 64)

/-- A read of `requester` at a barn address meets an uncorrectable word, or a command that failed its CA parity (R321). -/
def barnBad (requester : Nat) (s : State) (a : Nat) : Bool :=
  barnMarked s a || (s.chan (chanOf s (a / 64))).caFailed.contains (requester, a / 64)

/-- Give the 64-bit word of an address a mark. -/
def setMark (a : Nat) (p : WordMark) (s : State) : State :=
  { s with barn := { s.barn with marked := sparseSet (fun _ => .good) s.barn.marked (a / 8) p } }

/-- The marked words of a line. -/
def lineMarks (s : State) (line : Nat) : List (Nat × WordMark) :=
  ((List.range 8).map fun w => (w, wordMark s (64 * line + 8 * w))).filter fun m => m.2 != .good

/-- A write of the lines that `p` holds of is performed: the reads of them that are queued were performed before it (R314). -/
def readsFirst (p : Nat → Bool) (s : State) : State :=
  { s with barn := { s.barn with chans := s.barn.chans.map fun x => { x with
    queue := x.queue.map fun r => if p r.line && r.marks.isNone then { r with marks := some (lineMarks s r.line) } else r } } }

/-- Write byte `o` of the image in a timetable slot (R307). -/
def setImageByte (i : Fin 2) (o : Nat) (v : Byte) (s : State) : State :=
  { s with tt := { s.tt with slots := vmod s.tt.slots i fun x => { x with image := overlay o [v] x.image } } }

/-- Write one byte. -/
def setBarnByte (a : Nat) (v : Byte) (s : State) : State :=
  let k := areaOf s a
  let o := a - areaBase s k
  if k = 2 then { s with capture := { s.capture with record := overlay o [v] s.capture.record } }
  else if k = 3 then { s with dict := { s.dict with upload := overlay o [v] s.dict.upload } }
  else if (k == 4 || k == 5) && decide (o < 4 * mib) then
    setImageByte ⟨(k - 4) % 2, Nat.mod_lt _ (by decide)⟩ o v s
  else { s with barn := { s.barn with bytes := sparseSet (fun _ => 0) s.barn.bytes a v } }

/-- Read `n` bytes from a barn address. -/
def readBarn (s : State) (a n : Nat) : List Byte := (List.range n).map fun i => barnByte s (a + i)

/-- A write to a line, which may not overtake those of the line that wait or are queued: it merges into each of them (R314). -/
def waitsInQueue (s : State) (line : Nat) : Bool := (s.chan (chanOf s line)).writes.any fun w => w.line == line

/-- Write one byte as a request that is accepted now: it merges into a queued entry of its line, or is issued at once (R314, R317). -/
def storeByte (a : Nat) (v : Byte) (s : State) : State :=
  if waitsInQueue s (a / 64) then
    s.onChan (chanOf s (a / 64)) fun x => { x with
      writes := x.writes.map fun w => if w.line = a / 64 then { w with bytes := mergeBytes w.bytes [(a % 64, v)] } else w }
  else setBarnByte a v s

/-- The 64-bit word that byte `a` ends a write in, as the write leaves it (R316): good if the write, which began at `start`, covers it
whole; else one that is uncorrectable is stored with the poison marker. -/
def endWord (start a : Nat) (s : State) : State :=
  if waitsInQueue s (a / 64) then s
  else if a % 8 = 7 && start + 7 ≤ a then setMark a .good s
  else if wordMark s a != .good then setMark a .poison s
  else s

/-- Write bytes from a barn address up, of a write that began at `start` (R316). -/
def writeFrom (start : Nat) : Nat → List Byte → State → State
  | _, [], s => s
  | a, b :: bs, s =>
    let s := storeByte a b s
    writeFrom start (a + 1) bs (if a % 8 = 7 || bs.isEmpty then endWord start a s else s)

/-- Bytes `bs` are written from a barn address up: of a dictionary block whose content they change the GENERATION counts on (R346). -/
def touchBlocks (a : Nat) (bs : List Byte) (s : State) : State :=
  let changed (x : Key × Nat × Nat) : Bool :=
    decide (a < x.2.1 + x.2.2) && decide (x.2.1 < a + bs.length) && (List.range bs.length).any fun i =>
      decide (x.2.1 ≤ a + i) && decide (a + i < x.2.1 + x.2.2) && barnByte s (a + i) != bs.getD i 0
  ((barnBlocks s).filter changed).foldl (fun (s : State) (x : Key × Nat × Nat) => s.bumpGeneration x.1) s

/-- Write bytes from a barn address up (R316). -/
def writeBarn (a : Nat) (bs : List Byte) (s : State) : State :=
  writeFrom a a bs (readsFirst (fun l => decide (a / 64 ≤ l ∧ 64 * l < a + bs.length)) (touchBlocks a bs s))

/-- Queued bytes of an address range are overtaken by a later write of the range. -/
def dropQueued (a n : Nat) (x : BarnChan) : BarnChan :=
  let kept (w : BarnWrite) : BarnWrite :=
    { w with bytes := w.bytes.filter fun b => !decide (a ≤ 64 * w.line + b.1 ∧ 64 * w.line + b.1 < a + n) }
  { x with writes := (x.writes.map kept).filter fun w => !w.bytes.isEmpty }

/-- Fill `n` bytes from `a` with 0; the words that lie in them are good again, and a bad word that they cover in part is stored with the
poison marker (R316). -/
def fillBarn (a n : Nat) (s : State) : State :=
  let s := readsFirst (fun l => decide (a / 64 ≤ l ∧ 64 * l < a + n)) s
  { s with barn := { s.barn with
    chans := s.barn.chans.map (dropQueued a n),
    bytes := sparseErase (fun k => decide (a ≤ k ∧ k < a + n)) s.barn.bytes,
    marked := (sparseErase (fun k => decide (a ≤ 8 * k ∧ 8 * k + 8 ≤ a + n)) s.barn.marked).map fun m =>
      if a < 8 * m.1 + 8 ∧ 8 * m.1 < a + n then (m.1, .poison) else m } }

/-! ### Regions of an image -/

/-- Record length S_r of a ring region (R240): granary, stream ring, statistics ring. -/
def granarySlotBytes (n : Nat) : Nat := ceilTo 4096 (2 * n)

/-- Region `i` of an image that lies in the ring area: sum of the ring regions before it, each on 4,096 bytes (R308). -/
def ringOffset (rs : List BarnRegion) (i : Nat) : Nat :=
  (rs.take i).foldl (fun t r => if 2 ≤ r.kind && r.kind ≤ 4 then t + ceilTo 4096 r.length else t) 0

/-- Private regions stand in list order after the 4 MiB of the slot's image (log entry 10). -/
def privateOffset (rs : List BarnRegion) (i : Nat) : Nat :=
  (rs.take i).foldl (fun t r => if r.kind = 1 then t + r.length else t) (4 * mib)

/-- Barn base of region `i` of the image in `slot` (R215, R308). -/
def regionBase (s : State) (slot i : Nat) : Nat :=
  let rs := barnRegions (s.image slot)
  match rs[i]? with
  | some r => if r.kind = 1 then areaBase s (4 + slot) + privateOffset rs i else areaBase s 8 + ringOffset rs i
  | none => 0

/-- Barn base of the granary header table of the image in `slot`: it follows the ring regions (R307, R308). -/
def headerTable (s : State) (slot : Nat) : Nat :=
  let rs := barnRegions (s.image slot)
  areaBase s 8 + ringOffset rs rs.length

/-- The granary region of an image, with its place in the list. -/
def granaryRegion (img : List Byte) : Option (Nat × BarnRegion) :=
  let rs := barnRegions img
  (List.range rs.length).findSome? fun i => match rs[i]? with
    | some r => if r.kind = 2 then some (i, r) else none
    | none => none

/-- The stream ring of stream `k` of an image (R254). -/
def streamRegion (img : List Byte) (k : Nat) : Option (Nat × BarnRegion) :=
  let rs := barnRegions img
  (List.range rs.length).findSome? fun i => match rs[i]? with
    | some r => if r.kind = 3 && r.index = k then some (i, r) else none
    | none => none

/-- GRANARY_SLOTS of an image compiled for `n` points (R240). -/
def granarySlotsOf (img : List Byte) : Nat :=
  match granaryRegion img with
  | some (_, r) => r.length / granarySlotBytes (imgPoints img)
  | none => 0

/-- Empty the private regions of a slot, as its image becomes active (R200, R215). -/
def clearPrivate (slot : Nat) (s : State) : State :=
  fillBarn (areaBase s (4 + slot) + 4 * mib) (1024 * mib) s

end Sys2Proof.Machine
end

