-- ==== Sys2Proof/Machine/IcOps.lean ====
section
/-!
DEFINITION. Machine/IcOps.lean: MSI-X messages (R391, R392), black-box record formation (R462, R463, R471), interrupt
source events, levels and fallback delivery (R411 to R420): the services that every other unit raises its events
through.
-/

namespace Sys2Proof.Machine

/-! ### MSI-X messages -/

/-- The function may send vector `v`: vector and function unmasked, MSI-X enabled, function in D0 (R391). -/
def vectorOpen (v : Fin 5) (s : State) : Bool :=
  s.host.msixEnable && !s.host.functionMask && !bitOf s.host.maskBits.toNat v && s.nat K.hostDState == 0

/-- A TLP crosses the link: one in L1 returns to L0, and its 10 µs start again (R392). -/
def tlpSent (s : State) : State :=
  let s := { s with host := { s.host with lastTlp := s.clk.now } }
  if s.nat K.hostLink = 3 then s.setNum K.hostLink 2 else s

/-- Send the pending message of vector `v`: the PBA bit clears, the ring's count clears and its timer stops (R391). -/
def sendMessage (v : Fin 5) (s : State) : State :=
  let h := s.host
  let rings := if hv : v.val < 4 then
      vmod h.rings ⟨v.val, hv⟩ fun r => { r with count := 0, timer := none, expired := false }
    else h.rings
  tlpSent { s with host := { h with
    pba := h.pba &&& ~~~(1#32 <<< v.val), messages := vmod h.messages v (· + 1), rings := rings } }

/-- Send vector `v`'s message if one is pending and nothing holds it (R391). -/
def trySend (v : Fin 5) (s : State) : State :=
  if bitOf s.host.pba.toNat v && vectorOpen v s then sendMessage v s else s

/-- A message falls due on vector `v` (R391); in D3hot it sets PME_Status and sends a PME if enabled (R392). -/
def messageDue (v : Fin 5) (s : State) : State :=
  let s := { s with host := { s.host with pba := s.host.pba ||| (1#32 <<< v.val) } }
  if s.nat K.hostDState = 3 then
    let s := { s with host := { s.host with pmeStatus := true } }
    if s.host.pmeEnable then tlpSent (s.inc K.pmeCount) else s
  else trySend v s

/-! ### Black-box records -/

/-- Bell field of a record: the bell being acquired, or all ones if none has started since reset (R462). -/
def recordBell (s : State) : Nat := if s.bell.everStarted then s.bell.number else 0xFFFFFFFFFFFF

/-- The record as formed now: SEQ, WRAPS, device time and time state of the instant (R462, R463). -/
def newRecord (cls source code : Nat) (coalesced : Bool) (data : List Byte) (s : State) : Record :=
  { formed := s.clk.now / 4, seq := s.nat K.seqNext, time := s.clk.devTime, bell := recordBell s, cls, coalesced,
    inHold := false, unlocked := s.nat K.timeState != 2, wraps := s.bb.wraps, source, code,
    data := slice 0 28 data, startCount := s.nat K.startCount }

/-- SEQ moves on for every record formed; after 0xFFFF_FFFE it wraps and WRAPS increases, saturating at 15 (R463). -/
def advanceSeq (s : State) : State :=
  let q := s.nat K.seqNext
  if q = 0xFFFFFFFE then
    { s.setNum K.seqNext 0 with bb := { s.bb with wraps := min (s.bb.wraps + 1) 15 } }
  else s.setNum K.seqNext (q + 1 : Nat)

/-- Sources that have had an event in the present SUPCLK cycle of 4 ns (R411, R412). -/
def eventsNow (s : State) : BitVec 192 := if s.ic.cycle = s.clk.now / 4 then s.ic.events else 0

/-- Set the pending bit and count an event of source `src` without moving levels (R412); a source has at most one event in a SUPCLK cycle
(R411). -/
def markPending (src : Nat) (s : State) : State :=
  { s with ic := { s.ic with
    pending := s.ic.pending ||| (1#192 <<< src), cycle := s.clk.now / 4, events := eventsNow s ||| (1#192 <<< src),
    counts := if (eventsNow s).getLsbD src then s.ic.counts
      else sparseSet (fun _ => 0) s.ic.counts src (min (sparseGet (fun _ => 0) s.ic.counts src + 1) 255) } }

/-- A dropped record: drop state of its class and DROP_TOTAL (R471); DROP_TOTAL is six little-endian U32. -/
def dropRecord (r : Record) (s : State) : State :=
  if hc : r.cls < 6 then
    let bump (d : DropState) : DropState :=
      if d.count = 0 then ⟨1, r.seq, r.seq⟩
      else ⟨min (d.count + 1) 65535, min d.lowest r.seq, max d.highest r.seq⟩
    let tot := s.block K.dropTotal
    let t := fieldAt (4 * r.cls) 4 tot
    let s := { s with bb := { s.bb with drops := vmod s.bb.drops ⟨r.cls, hc⟩ bump } }
    markPending 53 (s.setBlock K.dropTotal
      (slice 0 24 (overlay (4 * r.cls) (leBytes 4 (min (t + 1) 0xFFFFFFFF)) (slice 0 24 tot))))
  else s

/-- Replace the newest non-fatal record of a queue (oldest first) by `r`: the new queue and the dropped record. -/
def evictNewest (r : Record) (q : List Record) : List Record × Option Record :=
  match q.reverse.findIdx? (fun x => x.cls ≠ 0) with
  | some i =>
    let j := q.length - 1 - i
    (q.eraseIdx j ++ [r], q[j]?)
  | none => (q, none)

/-- Classes with a drop state (R472). -/
def anyDrops (s : State) : Bool := s.bb.drops.toList.any fun d => d.count ≠ 0

/-- A formed record enters the staging queue or is dropped under R471; while coalesced records are due a non-fatal
record is dropped (R472). -/
def enqueueRecord (r : Record) (s : State) : State :=
  if s.bb.queue.length < 128 then
    if r.cls ≠ 0 && !r.coalesced && anyDrops s then dropRecord r s
    else { s with bb := { s.bb with queue := s.bb.queue ++ [r] } }
  else if r.cls = 0 then
    let (q, d) := evictNewest r s.bb.queue
    let s := { s with bb := { s.bb with queue := q } }
    match d with
    | some x => dropRecord x s
    | none => s
  else dropRecord r s

/-- Place of a record among those formed in one SUPCLK cycle (R463). -/
def Record.place (r : Record) : Nat := r.source * 65536 + r.code

/-- `r`, the newest of a cycle's records, takes its place among them `l`, which are in order. -/
def insertRecord (r : Record) : List Record → List Record
  | [] => [r]
  | x :: xs => if r.place < x.place then r :: x :: xs else x :: insertRecord r xs

/-- The records at the end of the queue that were formed in the cycle of the newest one take their SEQ in ascending SOURCE, then CODE (R463);
a coalesced record keeps its place (R472). -/
def orderCycle (q : List Record) : List Record :=
  match q.reverse with
  | r :: before =>
    let same := (before.takeWhile fun x => x.formed == r.formed && !x.coalesced).reverse
    if r.coalesced then q
    else
      let numbers := (same ++ [r]).map fun x => (x.seq, x.wraps)
      q.take (q.length - 1 - same.length)
        ++ ((insertRecord r same).zip numbers).map fun p => { p.1 with seq := p.2.1, wraps := p.2.2 }
  | [] => q

/-- Form one black-box record of Table 19-3 (R475); a fatal code is formed at most once per start (R471). -/
def formRecord (cls source code : Nat) (data : List Byte) (s : State) : State :=
  if cls = 0 && s.bb.fatalFormed.contains code then s
  else
    let r := newRecord cls source code false data s
    let s := advanceSeq s
    let s := if cls = 0 then { s with bb := { s.bb with fatalFormed := code :: s.bb.fatalFormed } } else s
    let s := enqueueRecord r s
    { s with bb := { s.bb with queue := orderCycle s.bb.queue } }

/-! ### Levels, fallback and events -/

/-- The application core cannot receive: held in reset, loading, without valid firmware or powered off (R419). -/
def appUnreceivable (s : State) : Bool :=
  let a := s.nat K.appCoreState
  a == 0 || a == 1 || a == 5 || a == 6

/-- Sources that count for target `t` (R413, R420). -/
def targetMask (t : Fin 4) (s : State) : BitVec 192 :=
  if t = 0 && appUnreceivable s then s.ic.routes[0] ||| s.ic.routes[1] else s.ic.routes[t]

/-- Target `t` is presented: not disabled, and a pending source is routed to it (R413). -/
def levelOf (t : Fin 4) (s : State) : Bool :=
  !s.ic.disabled[t] && (s.ic.pending &&& targetMask t s) != 0

/-- The lowest-numbered set bit of a source mask. -/
def lowestSource (m : BitVec 192) : Option Nat := (List.range 192).find? fun i => m.getLsbD i

/-- A core that waits in WFI resumes: the application core shows as running (R415). -/
def wakeCore (c : Fin 2) (s : State) : State :=
  let s := { s with cores := { s.cores with waiting := s.cores.waiting.set c false } }
  if c = 1 && s.nat K.appCoreState = 3 then s.setNum K.appCoreState 2 else s

/-- A core's level rises: it is presented as mip.MEIP and a core waiting in WFI resumes (R414, R415). -/
def presentCore (c : Fin 2) (up : Bool) (s : State) : State :=
  let rise := up && !s.cores.meip[c]
  let s := { s with cores := { s.cores with meip := s.cores.meip.set c up } }
  if rise && s.cores.waiting[c] then wakeCore c s else s

/-- The fallback of R420: noted once in each period in which the application core cannot receive. -/
def fallback (s : State) : State :=
  if appUnreceivable s then
    match lowestSource (s.ic.pending &&& s.ic.routes[1]) with
    | some src =>
      if s.ic.fallbackNoted || s.ic.disabled[0] then s
      else
        let s := { s with ic := { s.ic with fallbackNoted := true } }
        formRecord 2 0x5800 0x0A02 [BitVec.ofNat 8 src] (s.inc K.fallbackCount)
    | none => s
  else { s with ic := { s.ic with fallbackNoted := false } }

/-- Bring the four levels up to date after pending bits, routes, GLOBAL_DISABLE or the application core changed
(R413 to R416, R420). -/
def refreshLevels (s : State) : State :=
  let s := fallback s
  let hostWas := s.ic.presented[2]
  let s := { s with ic := { s.ic with presented := #v[levelOf 0 s, levelOf 1 s, levelOf 2 s, levelOf 3 s] } }
  let s := presentCore 1 s.ic.presented[1] (presentCore 0 s.ic.presented[0] s)
  if s.ic.presented[2] && !hostWas then messageDue 4 s else s

/-- Source `src` exists in Table 16-7 (R411). -/
def sourceExists (src : Nat) : Bool :=
  (src ≤ 28) || (32 ≤ src && src ≤ 56) || (64 ≤ src && src ≤ 127)

/-- One event of source `src` (R412): pending bit, counter, levels.  A reserved source never has an event (R411). -/
def raise (src : Nat) (s : State) : State :=
  if sourceExists src then refreshLevels (markPending src s) else s

/-- Clear sources: pending bits and counters; a source with an event in the same SUPCLK cycle stays pending, and its counter reads 1
(R412). -/
def clearSources (m : BitVec 192) (s : State) : State :=
  let won := m &&& eventsNow s
  let gone := m &&& ~~~won
  refreshLevels { s with ic := { s.ic with
    pending := s.ic.pending &&& ~~~gone,
    counts := (sparseErase (fun i => gone.getLsbD i) s.ic.counts).map fun c => if won.getLsbD c.1 then (c.1, 1) else c } }

/-- Raise an event only if `p`. -/
def raiseIf (p : Bool) (src : Nat) (s : State) : State := if p then raise src s else s

/-- Form a record and bring levels up to date (a drop raises source 53). -/
def record (cls source code : Nat) (data : List Byte) (s : State) : State :=
  refreshLevels (formRecord cls source code data s)

end Sys2Proof.Machine
end

