-- ==== Sys2Proof/Machine/Status.lean ====
section
/-!
DEFINITION. Machine/Status.lean: STATUS_NOW and STATUS_LATCH (R358), and the way every meaning ends.
-/

namespace Sys2Proof.Machine

/-- Any engine is out of service: a bit of ENGINES_IN_SERVICE is clear. -/
def engineFailed (s : State) : Bool := s.nat K.enginesInService != 0xFFFFFFFF

/-- Line `l` has a latched fault (R96). -/
def Line.latched (l : Line) : Bool := l.openF || l.shortF || l.darkF || l.overF

/-- A sensor channel reads "open" (R289). -/
def anySensorOpen (s : State) : Bool :=
  (List.range 4).any fun c => bitOf (s.nat (K.sensFlags c)) 1

/-- The 8320 is in Quiet after a failed self-test (R482), or in level 5 (R451). -/
def quiet (s : State) : Bool := s.nat K.quietCause != 0 || s.nat K.levelInEffect == 5

/-- STATUS_NOW: the conditions as they stand (R358). Bit 7, an uncorrectable barn read, is a happening and stands only
as it is latched (log entry 7). -/
def statusNow (s : State) : Nat :=
  bitsOf (fun i =>
    match i with
    | 0 => s.running
    | 1 => s.nat K.refState == 3 || s.nat K.refState == 4
    | 2 => s.nat K.timeSource != 0 && s.nat K.timeState != 2
    | 3 => s.drive.lines.toList.any Line.latched
    | 4 => s.drive.interlockLow
    | 5 => s.chain.lastClipped
    | 6 => engineFailed s
    | 8 => s.nat K.breakState == 2
    | 9 => anySensorOpen s
    | 10 => s.nat K.levelInEffect != 0
    | 11 => quiet s
    | 12 => s.nat K.opsRunning != 0
    | _ => false) 13

/-- Latch the conditions that stand (R358). -/
def latchStatus (s : State) : State :=
  { s with dict := { s.dict with latch := s.dict.latch ||| BitVec.ofNat 32 (statusNow s) } }

/-- Latch one condition that only happens (R358). -/
def latchBit (i : Nat) (s : State) : State :=
  { s with dict := { s.dict with latch := s.dict.latch ||| (1#32 <<< i) } }

/-- How a meaning ends: the conditions that now stand are latched. -/
def finish (s : State) : Host.Outcome State Fault Refusal := .next (latchStatus s)

end Sys2Proof.Machine
end

