-- ==== Sys2Proof/Machine/BarnTraffic.lean ====
section
/-!
DEFINITION. Machine/BarnTraffic.lean: the barn controller (R304 to R327): the address map, requests and their order, the
write queue, error handling, refresh and self-refresh.
-/

namespace Sys2Proof.Machine

/-! ### The error log -/

/-- One entry of Table 12-5. -/
def logEntry (s : State) (line type requester word syndrome : Nat) : List Byte :=
  leBytes 8 s.clk.devTime ++ leBytes 4 line ++ leBytes 1 type ++ leBytes 1 requester ++ leBytes 1 word ++ leBytes 1 syndrome

/-- Write an error log entry, the newest first, at most 32 (R322); the log stands in the barn's system area too (R307). -/
def logError (c : Fin 2) (line type requester word syndrome : Nat) (s : State) : State :=
  let s := s.onChan c fun x => { x with log := (logEntry s line type requester word syndrome :: x.log).take 32 }
  writeBarn (logPlace s + 512 * c.val) (slice 0 512 (s.chan c).log.flatten) s

/-- ERROR_LOG of channel `c`: 512 bytes (R331). -/
def errorLog (s : State) (c : Fin 2) : List Byte := slice 0 512 (s.chan c).log.flatten

/-- A failure that is logged, recorded in the black box, and raises source 47 (R318, R320). -/
def barnFailure (c : Fin 2) (code line type requester word syndrome : Nat) (s : State) : State :=
  let e := logEntry s line type requester word syndrome
  raise 47 (record 1 (0x5400 + c) code e (logError c line type requester word syndrome s))

/-- An uncorrectable word is read (R318): the stored marker is logged as type 3 without a record, any other as type 2 with
one; both latch the barn condition (R358). -/
def uncorrectableRead (line requester word : Nat) (marker : Bool) (syndrome : Nat) (s : State) : State :=
  let c := chanOf s line
  latchBit 7 (if marker then raise 47 (logError c line 3 requester word syndrome (s.inc (K.poisonReads c)))
    else barnFailure c 0x0702 line 2 requester word syndrome (s.inc (K.ueCount c)))

/-! ### Self-refresh -/

/-- SR_ENTRY_DELAY has passed in Standby with no request pending: the controller prepares self-refresh (R327). -/
def entering (s : State) : Bool :=
  s.nat K.powerState == 2 && (s.chan 0).queue.isEmpty && (s.chan 1).queue.isEmpty && match s.barn.idleFrom with
    | some t => decide (t + 1000 * s.nat K.srEntryDelay ≤ s.clk.now)
    | none => false

/-- BARN_STATE: an exit from self-refresh is over once its time has passed, an entry begins with its delay (R327). -/
def barnState (s : State) : Nat :=
  let st := match s.barn.exitAt with
    | some t => if s.nat K.barnState = 5 && decide (t ≤ s.clk.now) then 2 else s.nat K.barnState
    | none => s.nat K.barnState
  if st = 2 && entering s then 3 else st

/-- The barn is in normal operation, though an entry into self-refresh may be under way. -/
def barnAwake (s : State) : Bool := barnState s == 2 || barnState s == 3

/-- A request is accepted: it cancels an entry that has begun, or wakes the barn (R327); answers whether it met
self-refresh. The wait of a waking request is any time up to 1.2 µs. -/
def wakeBarn (requester : Nat) (s : State) : Bool × State :=
  let st := barnState s
  let s := s.setNum K.barnState (if st = 3 then 2 else st : Nat)
  if st = 4 then
    let w := s.free 1201
    let s := (s.draw).inc K.srWakeCount
    let s := (s.setNum K.barnState 5).setBlock K.lastSrWake
      (leBytes 8 s.clk.devTime ++ leBytes 1 requester ++ zeros 3 ++ leBytes 4 w)
    (true, { s with barn := { s.barn with exitAt := some (s.clk.now + w), idleFrom := some (s.clk.now + w) } })
  else
    match s.barn.idleFrom with
    | some _ =>
      let s := if st = 3 then s.inc K.srCancelCount else s
      (false, { s with barn := { s.barn with idleFrom := some s.clk.now } })
    | none => (false, s)

/-! ### Requests -/

/-- Requesters of the scheduled class (Tables 12-3 and 12-5): transfer units and timetable copies. -/
def scheduledRequester (r : Nat) : Bool := r ≤ 3 || r == 13

/-- A request's class and requester code. -/
abbrev Rank := Bool × Nat

/-- `a` is accepted before `b` when both arrive in one MEMCLK cycle (R311): the scheduled one, else the lower requester code, which
for scheduled requests is the classroom. -/
def acceptsFirst (a b : Rank) : Bool := if a.1 != b.1 then a.1 else decide (a.2 < b.2)

def BarnReq.rank (r : BarnReq) : Rank := (r.scheduled, r.requester)
def BarnWrite.rank (w : BarnWrite) : Rank := (w.scheduled, w.requester)
def BarnArrival.rank (a : BarnArrival) : Rank := (a.scheduled, a.requester)

/-- The write queue gives the whole line: the DRAM is not accessed (R315). -/
def BarnReq.full (r : BarnReq) : Bool := r.given.length == 64

/-- A read joins the queue: behind every request but those of its own instant that R311 accepts after it. The model's clock counts
nanoseconds: requests of one instant are those of one MEMCLK cycle (DESIGN CHOICE, log entry 84). -/
def insertRead (r : BarnReq) : List BarnReq → List BarnReq
  | [] => [r]
  | q :: qs => if q.at_ = r.at_ && acceptsFirst r.rank q.rank then r :: q :: qs else q :: insertRead r qs

/-- A write's place in the write queue, in the same order. -/
def insertWrite (r : BarnWrite) : List BarnWrite → List BarnWrite
  | [] => [r]
  | q :: qs => if q.at_ = r.at_ && acceptsFirst r.rank q.rank then r :: q :: qs else q :: insertWrite r qs

/-- A write enters the queue: merged into a queued entry of its line, else a new entry; beyond 64 entries it waits, unmerged, behind what
waits (R314, R317). An entry keeps the requester that made it (DESIGN CHOICE, log entry 111). -/
def enterWrite (w : BarnWrite) (x : BarnChan) : BarnChan :=
  if (x.writes.take 64).any fun q => q.line == w.line then
    { x with writes := (x.writes.take 64).map (fun q =>
        if q.line = w.line then { q with bytes := mergeBytes q.bytes w.bytes } else q) ++ x.writes.drop 64 }
  else { x with writes := insertWrite w x.writes, burst := x.burst || decide (48 ≤ x.writes.length + 1) }

/-- Bytes laid over a line. -/
def overLine (d : List (Nat × Byte)) (b : List Byte) : List Byte := d.foldl (fun b x => overlay x.1 [x.2] b) b

/-- The byte numbers of `l` and of `d`. -/
def alsoGiven (d : List (Nat × Byte)) (l : List Nat) : List Nat := l ++ ((d.map Prod.fst).filter fun i => !l.contains i)

/-- The writes of this instant to a line that R311 accepts after a request of rank `r`. -/
def acceptedAfter (x : BarnChan) (now line : Nat) (r : Rank) : List BarnArrival :=
  x.arrivals.filter fun a => a.at_ == now && a.line == line && acceptsFirst r a.rank

/-- The bytes of `d` with those of later writes over them. -/
def withLater (d : List (Nat × Byte)) (l : List BarnArrival) : List (Nat × Byte) := l.foldl (fun d a => mergeBytes d a.bytes) d

/-- Write `w`, just arrived, in the arrivals of its instant: those that R311 accepts after it find its bytes. -/
def insertArrival (w : BarnArrival) : List (Nat × Byte) → List BarnArrival → List BarnArrival
  | _, [] => [w]
  | d, a :: l =>
    if acceptsFirst w.rank a.rank then
      w :: (a :: l).map fun b => if b.line = w.line then { b with data := overLine d b.data, given := alsoGiven d b.given } else b
    else a :: insertArrival w d l

/-- A write is accepted (R310, R314): the reads and writes of its MEMCLK cycle that R311 accepts after it come after it, though their
commands came before. -/
def queueWrite (c : Fin 2) (requester : Nat) (scheduled : Bool) (line : Nat) (data : List (Nat × Byte)) (s : State) : State :=
  let now := s.clk.now
  let me : Rank := (scheduled, requester)
  let later := acceptedAfter (s.chan c) now line me
  let found : BarnArrival := match later with
    | a :: _ => { a with requester, scheduled, bytes := data }
    | [] => { at_ := now, requester, scheduled, line, bytes := data, data := readBarn s (64 * line) 64,
              given := ((queuedWrite s line).map fun w => w.bytes.map Prod.fst).getD [] }
  let rearrive (x : BarnChan) : List BarnArrival := insertArrival found data (x.arrivals.filter fun a => a.at_ == now)
  let seen (r : BarnReq) : BarnReq :=
    if r.at_ = now && r.line = line && acceptsFirst me r.rank then
      let d := withLater data (later.filter fun a => !acceptsFirst r.rank a.rank)
      { r with data := overLine d r.data, given := alsoGiven d r.given }
    else r
  s.onChan c fun x =>
    let y := enterWrite { line, bytes := withLater data later, requester, scheduled, at_ := now } x
    { y with arrivals := rearrive x, queue := x.queue.map seen }

/-- A request is accepted (R310). A read returns the line as the writes accepted before it leave it (R314, R315). -/
def acceptRequest (requester line : Nat) (write : Option (List (Nat × Byte))) (s : State) : State :=
  let c := chanOf s line
  let (met, s) := wakeBarn requester s
  match write with
  | some d =>
    let s := d.foldl (fun (s : State) (b : Nat × Byte) => touchBlocks (64 * line + b.1) [b.2] s) s
    (queueWrite c requester (scheduledRequester requester) line d s).onChan c fun x => { x with lastWrite := some (requester, line, met) }
  | none =>
    let me : Rank := (scheduledRequester requester, requester)
    let (data, given) := match acceptedAfter (s.chan c) s.clk.now line me with
      | a :: _ => (a.data, a.given)
      | [] => (readBarn s (64 * line) 64, ((queuedWrite s line).map fun w => w.bytes.map Prod.fst).getD [])
    let r : BarnReq := { requester, scheduled := me.1, line, write := false, at_ := s.clk.now, metSr := met, data, given }
    s.onChan c fun x => { x with queue := insertRead r x.queue }

/-- The lines of `n` bytes from a barn address, each with its bytes of `b`. -/
def linesOf (a : Nat) (b : List Byte) : List (Nat × List (Nat × Byte)) :=
  (List.range (b.length / 64 + 2)).map fun i =>
    (a / 64 + i, (List.range b.length).filterMap fun j => if (a + j) / 64 = a / 64 + i then some ((a + j) % 64, b.getD j 0) else none)

/-- A unit writes bytes to the barn as requests, line by line (R310). -/
def requestWrite (requester a : Nat) (b : List Byte) (s : State) : State :=
  ((linesOf a b).filter fun l => !l.2.isEmpty).foldl
    (fun (s : State) (l : Nat × List (Nat × Byte)) => acceptRequest requester l.1 (some l.2) s) s

/-- The read served next (R311): the oldest scheduled one, else the next background requester in turn; its place. -/
def nextRead (x : BarnChan) : Option Nat :=
  match x.queue.findIdx? BarnReq.scheduled with
  | some i => some i
  | none => (List.range 14).findSome? fun k => x.queue.findIdx? fun r => r.requester == (x.lastTurn + 1 + k) % 14

/-- A corrected line is written back (R318): its bytes as the devices hold them enter the write queue, behind newer queued bytes; a word
that is uncorrectable is left as it is. The write-back is background traffic whoever read (Table 12-3). -/
def writeBack (requester line : Nat) (s : State) : State :=
  let c := chanOf s line
  let old := ((s.chan c).writes.find? fun w => w.line == line).map BarnWrite.bytes |>.getD []
  let mine := ((List.range 64).filter fun i => wordMark s (64 * line + i) == .good && !(old.any fun b => b.1 == i)).map
    fun i => (i, dramByte s (64 * line + i))
  queueWrite c requester false line mine s

/-- A corrected word is counted and logged (R318). -/
def countCorrected (requester line : Nat) (w : Fin 8) (syn : BitVec 8) (s : State) : State :=
  let c := chanOf s line
  raise 46 (logError c line 1 requester w syn.toNat (s.incWrap 64 (K.ceCount c)))

/-- What a read meets in one word (R318): a correction, or uncorrectable data, which stays until it is rewritten. -/
def meetWord (requester line : Nat) (w : Fin 8) (e : WordError) (s : State) : State :=
  match e with
  | .corrected syn => countCorrected requester line w syn (writeBack requester line s)
  | .uncorrectable syn =>
    setMark (64 * line + 8 * w) .damaged (uncorrectableRead line requester w false syn.toNat s)

/-- What a read that was performed before a later write of its line meets in one word: nothing of it stands there any more (R314). -/
def metWord (requester line : Nat) (w : Fin 8) (e : WordError) (s : State) : State :=
  match e with
  | .corrected syn => countCorrected requester line w syn s
  | .uncorrectable syn => uncorrectableRead line requester w false syn.toNat s

/-- A read meets the marked words `ws` of a line (R318): the stored marker counts as such, other data as uncorrectable. -/
def meetMarks (requester line : Nat) (ws : List (Nat × WordMark)) (s : State) : State :=
  ws.foldl (fun (s : State) (w : Nat × WordMark) =>
    let syn := s.free 256
    uncorrectableRead line requester w.1 (w.2 == .poison) syn s.draw) s

/-- A requester's read of `n` bytes at a barn address meets every marked 64-bit word of them (R318); a command for them that failed its CA
parity has now answered (R321). -/
def readMarks (requester a n : Nat) (s : State) : State :=
  let words := (List.range (n / 8 + 2)).map fun i => 8 * (a / 8 + i)
  let s := (words.filter fun w => decide (w < a + n) && decide (a < w + 8) && barnMarked s w).foldl
    (fun (s : State) (w : Nat) => meetMarks requester (w / 64) [(w % 64 / 8, wordMark s w)] s) s
  let answered (f : Nat × Nat) : Bool := f.1 == requester && decide (a / 64 ≤ f.2) && decide (64 * f.2 < a + n)
  { s with barn := { s.barn with chans := s.barn.chans.map fun x => { x with caFailed := x.caFailed.filter fun f => !answered f } } }

/-- A read returns (R312, R315, R318, R321): its answer carries the error response for the affected words. -/
def completeRead (c : Fin 2) (errors : List (Fin 8 × WordError)) (s : State) : State :=
  match nextRead (s.chan c) with
  | none => s
  | some i =>
    match (s.chan c).queue[i]? with
    | none => s
    | some r =>
      -- a fully forwarded line does not touch the DRAM (R315)
      let errors := if r.full then [] else errors
      let marks := (if r.full then [] else r.marks.getD (lineMarks s r.line)).filter fun m => !(errors.any fun e => e.1.val == m.1)
      let wrong := errors.filterMap fun e => match e.2 with
        | .corrected _ => none
        | .uncorrectable _ => some e.1.val
      let answer : BarnAnswer :=
        { requester := r.requester, line := r.line, data := r.data, bad := marks.map Prod.fst ++ wrong, metSr := r.metSr }
      let s := s.onChan c fun x => { x with
        queue := x.queue.eraseIdx i, lastTurn := if r.scheduled then x.lastTurn else r.requester, lastRead := some answer,
        lastPlace := if r.full then x.lastPlace else some (placeOf s r.line),
        caRetried := x.caRetried.filter fun f => f != (r.requester, r.line) }
      let s := meetMarks r.requester r.line marks s
      let meets := if r.marks.isSome then metWord else meetWord
      let s := errors.foldl (fun (s : State) (e : Fin 8 × WordError) => meets r.requester r.line e.1 e.2 s) s
      let s := if !answer.bad.isEmpty && (r.requester == 9 || r.requester == 10) then
          { s with cores := { s.cores with accessFault := true } } else s
      -- no request is pending from now on (R327)
      let s := { s with barn := { s.barn with idleFrom := s.barn.idleFrom.map fun _ => s.clk.now } }
      -- the scrubber goes on with the next line (R323)
      let s := if r.requester = 12 && r.line = s.barn.scrubAt then
          { s with barn := { s.barn with scrubAt := r.line + 1 } } else s
      if r.scheduled && decide (r.at_ + 6020 < s.clk.now) then raise 48 (s.inc K.schedLate) else s

/-- The read that completes a partly covered line meets word `w` (R316): what it finds there that no earlier read met, the manual leaves
to the devices, and the model leaves it free (log entry 85). A corrected word is written by the write itself. -/
def completesWord (requester line : Nat) (s : State) (w : Fin 8) : State :=
  let m := wordMark s (64 * line + 8 * w)
  if m != .good then meetMarks requester line [(w.val, m)] s
  else
    let k := s.free 3
    let s := s.draw
    let syn := BitVec.ofNat 8 (s.free 256)
    if k = 0 then s.draw
    else if k = 1 then countCorrected requester line w syn s.draw
    else meetWord requester line w (.uncorrectable syn) s.draw

/-- Issue the oldest write-queue entry (R316, R317): a word that the write covers only in part and that reads uncorrectable
is stored with the marker; every word that it covers whole is good. A scheduled write that had to wait for a place in the queue becomes
visible as it enters, and may be late (R312). -/
def issueWrite (c : Fin 2) (s : State) : State :=
  match (s.chan c).writes with
  | [] => s
  | w :: rest =>
    let covered (i : Nat) : Nat := (w.bytes.filter fun b => b.1 / 8 == i).length
    let place := placeOf s w.line
    let s := readsFirst (fun l => l == w.line) s
    let s := s.onChan c fun x => { x with
      writes := rest, burst := x.burst && decide (16 < rest.length), lastPlace := some place,
      crcTries := x.crcTries.filter fun t => t.1 != w.line, caRetried := x.caRetried.filter fun t => t.2 != w.line }
    let s := if w.bytes.length = 64 then s
      else ([0, 1, 2, 3, 4, 5, 6, 7] : List (Fin 8)).foldl (completesWord w.requester w.line) s
    let s := w.bytes.foldl (fun (s : State) (b : Nat × Byte) => setBarnByte (64 * w.line + b.1) b.2 s) s
    let s := (List.range 8).foldl (fun (s : State) (i : Nat) =>
      let a := 64 * w.line + 8 * i
      if covered i = 8 then setMark a .good s
      else if 0 < covered i && wordMark s a != .good then setMark a .poison s else s) s
    match rest[63]? with
    | some x =>
      -- a place in the queue: what waits for the same line enters with it
      let with_ := (rest.drop 63).filter fun q => q.line == x.line
      let bytes := with_.foldl (fun d q => mergeBytes d q.bytes) []
      let s := s.onChan c fun y => { y with
        writes := rest.take 63 ++ { x with bytes } :: (rest.drop 64).filter fun q => q.line != x.line }
      (with_.filter fun q => q.scheduled && decide (q.at_ + 6020 < s.clk.now)).foldl
        (fun (s : State) _ => raise 48 (s.inc K.schedLate)) s
    | none => s

/-- Issue every queued write, as the queue may whenever no read is ready (R317). -/
def drainWrites (s : State) : State :=
  let drain (c : Fin 2) (s : State) : State := (List.range (s.chan c).writes.length).foldl (fun (s : State) (_ : Nat) => issueWrite c s) s
  drain 1 (drain 0 s)

/-- The command of `requester` for a line has failed its CA parity twice (R320): every read that it serves gets the error response of
Table 12-4 for all its words, a unit's read as it returns. A write whose command failed leaves its line as it was or not, of which the
manual says nothing: free (log entry 86). -/
def caFails (c : Fin 2) (requester line : Nat) (s : State) : State :=
  let served := (s.chan c).queue.filter fun r => r.requester == requester && r.line == line
  let answer (r : BarnReq) : BarnAnswer :=
    { requester, line, data := r.data, bad := List.range 8, metSr := r.metSr }
  match served with
  | r :: _ =>
    let s := s.onChan c fun x => { x with
      queue := x.queue.filter fun r => !(r.requester == requester && r.line == line), lastRead := some (answer r) }
    if requester == 9 || requester == 10 then { s with cores := { s.cores with accessFault := true } } else s
  | [] =>
    if (s.chan c).writes.any fun w => w.line == line then
      let lost := s.free 2 == 1
      s.draw.onChan c fun x => if lost then { x with writes := x.writes.filter fun w => w.line != line } else x
    else s.onChan c fun x => { x with caFailed := (requester, line) :: x.caFailed }

/-- How often the write of a line has been retried for its CRC (R320). -/
def crcRetried (x : BarnChan) (line : Nat) : Nat := ((x.crcTries.find? fun t => t.1 == line).map Prod.snd).getD 0

/-- An ALERT_N pulse (R319, R320) for the command or write of a line: 12 MEMCLK cycles or more tell of a CA parity error, fewer of a
write CRC error. -/
def alert (c : Fin 2) (requester line cycles : Nat) (s : State) : State :=
  let x := s.chan c
  if 12 ≤ cycles then
    if x.caRetried.contains (requester, line) then
      barnFailure c 0x0703 line 5 requester 0 0
        (((caFails c requester line s).onChan c fun x => { x with
          caRetried := x.caRetried.filter fun f => f != (requester, line) }).inc (K.caParityFails c))
    else logError c line 4 requester 0 0
      ((s.onChan c fun x => { x with caRetried := (requester, line) :: x.caRetried }).inc (K.caParityRetries c))
  else
    let tries := crcRetried x line
    let others := x.crcTries.filter fun t => t.1 != line
    if tries < 3 then
      logError c line 6 requester 0 0
        ((s.onChan c fun x => { x with crcTries := (line, tries + 1) :: others }).inc (K.crcRetries c))
    else
      let s := readsFirst (fun l => l == line) s
      let s := (s.onChan c fun x => { x with crcTries := others, writes := x.writes.filter fun w => w.line != line }).inc (K.crcFails c)
      let s := (List.range 8).foldl (fun (s : State) (w : Nat) => setMark (64 * line + 8 * w) .poison s) s
      barnFailure c 0x0704 line 7 requester 0 0 s

/-! ### Refresh, recalibration and the scrub -/

/-- tREFI in ns (Table 12-6). -/
def refreshInterval (s : State) : Nat :=
  (if s.nat K.refreshMode = 0 then 7800 else if s.nat K.refreshMode = 1 then 3900 else 1950)
    / (if s.nat K.refreshDouble = 1 then 2 else 1)

/-- Ranks of a channel. -/
def ranksOf (s : State) (c : Fin 2) : Nat := max 1 (natIn s.barn.inUse (K.ranks c))

/-- The rank of a channel whose value in `v` is lowest, rank 0 of two alike. -/
def earliest (s : State) (c : Fin 2) (v : Vector Nat 2) : Fin 2 := if ranksOf s c = 2 && decide (v[1] < v[0]) then 1 else 0

/-- A refresh falls due in rank `r` (R324): it is made at once or postponed, at most two in a rank; which, the manual leaves to the
controller (free, log entry 87). -/
def refreshRank (c : Fin 2) (r : Fin 2) (s : State) : State :=
  let t := refreshInterval s
  let n := (s.chan c).owed[r] + 1
  let kept := s.free (min n 2 + 1)
  s.draw.onChan c fun x => { x with
    lastRefresh := vmod x.lastRefresh r (· + t), owed := x.owed.set r kept, refreshes := vmod x.refreshes r (· + (n - kept)) }

/-- The recalibration of rank `r` makes a step (R326): the first of one that RECAL_PERIOD has made due, or the next of the one under way.
In how many steps the work is cut, the manual does not say: free (log entry 93). -/
def recalStep (c : Fin 2) (r : Fin 2) (s : State) : State :=
  let x := s.chan c
  let n := s.free 65536
  let s := if x.recalLeft[r] = 0 then
      s.draw.onChan c fun x => { x with recalFrom := x.recalFrom.set r s.clk.now, recalLeft := x.recalLeft.set r (n + 1) } else s
  s.onChan c fun x => { x with
    lastRecal := x.lastRecal.set r s.clk.now, recalSteps := vmod x.recalSteps r (· + 1), recalLeft := vmod x.recalLeft r (· - 1) }

/-- A step of the recalibration of rank `r` may run (R326). -/
def recalDue (s : State) (c : Fin 2) (r : Fin 2) : Bool :=
  let x := s.chan c
  decide (x.lastRecal[r] + refreshInterval s ≤ s.clk.now)
    && (x.recalLeft[r] != 0 || decide (x.recalFrom[r] + s.nat K.recalPeriod * 1000000 ≤ s.clk.now))

/-- The rank whose recalibration makes the next step: of those due, the one whose last step lies furthest back (R326). -/
def recalRank (s : State) (c : Fin 2) : Option (Fin 2) :=
  let r := earliest s c (s.chan c).lastRecal
  let others : List (Fin 2) := if ranksOf s c = 2 then [1 - r] else []
  (r :: others).find? (recalDue s c)

/-- A scrub pass ends (R323): every line that the pass has not read yet is read. The words that are marked are met and left as they are
(Table 12-4); how many single-bit errors are corrected on the way, and where, is left free (log entry 88). -/
def endScrub (s : State) : State :=
  let rest := s.barn.marked.filter fun m => decide (s.barn.scrubAt ≤ m.1 / 8)
  let s := rest.foldl (fun (s : State) (m : Nat × WordMark) => meetMarks 12 (m.1 / 8) [(m.1 % 8, m.2)] s) s
  let n := s.free 65536
  let s := (List.range n).foldl (fun (s : State) (_ : Nat) =>
    let line := s.barn.scrubAt + s.free (s.nat K.barnBytes / 64 - s.barn.scrubAt)
    let w : Fin 8 := ⟨s.draw.free 8 % 8, Nat.mod_lt _ (by decide)⟩
    let syn := BitVec.ofNat 8 (s.draw.draw.free 256)
    let s := s.draw.draw.draw
    if line < s.nat K.barnBytes / 64 then meetWord 12 line w (.corrected syn) s else s) s.draw
  let s := s.incWrap 32 K.scrubPasses
  { s with barn := { s.barn with lastScrub := s.clk.now, scrubAt := 0 } }

/-- Barn entries that take effect at the next start (R330 to R332). -/
def barnStartKeys : List Key :=
  (List.range 2).flatMap (fun c => [K.populated c, K.deviceWidth c, K.densityGb c, K.ranks c, K.casLatency c])
    ++ (List.range 6).map K.addrMap

/-- GiB in one rank of a device width and density (R302). -/
def rankGib (width density : Nat) : Nat := if width = 16 then density / 2 else density

/-- Bytes of channel `c` as described in store `m`. -/
def chanBytes (m : Sparse DVal) (c : Nat) : Nat :=
  if natIn m (K.populated c) = 1 then
    rankGib (natIn m (K.deviceWidth c)) (natIn m (K.densityGb c)) * natIn m (K.ranks c) * 2 ^ 30
  else 0

/-- Both channels are described alike (R303). -/
def chansAgree (m : Sparse DVal) : Bool :=
  natIn m (K.deviceWidth 0) == natIn m (K.deviceWidth 1) && natIn m (K.densityGb 0) == natIn m (K.densityGb 1)
    && natIn m (K.ranks 0) == natIn m (K.ranks 1) && natIn m (K.casLatency 0) == natIn m (K.casLatency 1)

/-- Byte `k` of a map entry. -/
def mapByte (m : Sparse DVal) (f k : Nat) : Nat := natIn m (K.addrMap f) / 2 ^ (8 * k) % 256

/-- Functions CH, RK, BG1, BG0, BA1, BA0 that the described memory needs (R306). -/
def mapRequired (m : Sparse DVal) (two : Bool) (f : Nat) : Bool :=
  if f = 0 then two else if f = 1 then natIn m (K.ranks 0) == 2
  else if f = 2 then natIn m (K.deviceWidth 0) == 8 else true

/-- Row address bits of the devices (R306). -/
def rowBits (m : Sparse DVal) : Nat :=
  if natIn m (K.deviceWidth 0) = 8 && natIn m (K.densityGb 0) = 8 then 16
  else if natIn m (K.deviceWidth 0) = 16 && natIn m (K.densityGb 0) = 8 then 16 else 17

/-- The map of store `m` is valid for memory whose top address bit is `top` (R306). -/
def mapValid (m : Sparse DVal) (two : Bool) (top : Nat) : Bool :=
  let fs := List.range 6
  let homes := (fs.filter (mapRequired m two)).map fun f => mapByte m f 0
  let allHomes := (fs.map fun f => mapByte m f 0).filter (· != 255)
  let extras (f : Nat) : List Nat := ((List.range 7).map fun k => mapByte m f (k + 1)).filter (· != 255)
  (fs.all fun f => if mapRequired m two f then 6 ≤ mapByte m f 0 && mapByte m f 0 ≤ top else natIn m (K.addrMap f) == 2 ^ 64 - 1)
    && decide homes.Nodup
    && (fs.all fun f => (extras f).all (fun b => 6 ≤ b && b ≤ top && !allHomes.contains b) && decide (extras f).Nodup)
    && decide (top + 1 = 6 + homes.length + 7 + rowBits m)

/-- The plain map of R306: BG0, CH, BG1, BA0, BA1 from bit 6 upwards, RK at the top bit. -/
def plainMap (m : Sparse DVal) (two : Bool) (top : Nat) : Sparse DVal :=
  let order := ([3, 0, 2, 5, 4] : List Nat).filter (mapRequired m two)
  let ones : Nat := 2 ^ 64 - 256
  let m := (List.range 6).foldl (fun m f => sparseSet defaultVal m (K.addrMap f) (.num (2 ^ 64 - 1 : Nat))) m
  let m := (List.range order.length).foldl (fun m i =>
    sparseSet defaultVal m (K.addrMap (order.getD i 0)) (.num (ones + 6 + i : Nat))) m
  if mapRequired m two 1 then sparseSet defaultVal m (K.addrMap 1) (.num (ones + top : Nat)) else m

end Sys2Proof.Machine
end

