-- ==== Sys2Proof/Machine/Crypto.lean ====
section
/-!
DEFINITION. Machine/Crypto.lean: the cryptography that R203, R408 and R442 name: SHA-256 (FIPS 180-4), HMAC-SHA-256 (FIPS 198-1) and the
verification of an ECDSA signature over P-256 (FIPS 186-4). The manual cites these standards and does not restate them: what stands here
is taken from them (PRESUMED, log entry 5).
-/

namespace Sys2Proof.Machine

/-! ### SHA-256 -/

/-- The round constants. -/
def shaK : List (BitVec 32) :=
  [0x428A2F98, 0x71374491, 0xB5C0FBCF, 0xE9B5DBA5, 0x3956C25B, 0x59F111F1, 0x923F82A4, 0xAB1C5ED5,
   0xD807AA98, 0x12835B01, 0x243185BE, 0x550C7DC3, 0x72BE5D74, 0x80DEB1FE, 0x9BDC06A7, 0xC19BF174,
   0xE49B69C1, 0xEFBE4786, 0x0FC19DC6, 0x240CA1CC, 0x2DE92C6F, 0x4A7484AA, 0x5CB0A9DC, 0x76F988DA,
   0x983E5152, 0xA831C66D, 0xB00327C8, 0xBF597FC7, 0xC6E00BF3, 0xD5A79147, 0x06CA6351, 0x14292967,
   0x27B70A85, 0x2E1B2138, 0x4D2C6DFC, 0x53380D13, 0x650A7354, 0x766A0ABB, 0x81C2C92E, 0x92722C85,
   0xA2BFE8A1, 0xA81A664B, 0xC24B8B70, 0xC76C51A3, 0xD192E819, 0xD6990624, 0xF40E3585, 0x106AA070,
   0x19A4C116, 0x1E376C08, 0x2748774C, 0x34B0BCB5, 0x391C0CB3, 0x4ED8AA4A, 0x5B9CCA4F, 0x682E6FF3,
   0x748F82EE, 0x78A5636F, 0x84C87814, 0x8CC70208, 0x90BEFFFA, 0xA4506CEB, 0xBEF9A3F7, 0xC67178F2]

/-- The initial hash value. -/
def shaStart : List (BitVec 32) :=
  [0x6A09E667, 0xBB67AE85, 0x3C6EF372, 0xA54FF53A, 0x510E527F, 0x9B05688C, 0x1F83D9AB, 0x5BE0CD19]

/-- The number that big-endian bytes encode. -/
def beNat (b : List Byte) : Nat := b.foldl (fun t x => 256 * t + x.toNat) 0

/-- The next word of the message schedule: `w` holds the 16 words before it, oldest first. -/
def shaNext (w : List (BitVec 32)) : BitVec 32 :=
  let a := w.getD 1 0
  let b := w.getD 14 0
  let s0 := a.rotateRight 7 ^^^ a.rotateRight 18 ^^^ a >>> 3
  let s1 := b.rotateRight 17 ^^^ b.rotateRight 19 ^^^ b >>> 10
  w.getD 0 0 + s0 + w.getD 9 0 + s1

/-- One round with constant `k` and schedule word `w`; the state is a to h. -/
def shaRound (x : List (BitVec 32)) (k w : BitVec 32) : List (BitVec 32) :=
  match x with
  | [a, b, c, d, e, f, g, h] =>
    let s1 := e.rotateRight 6 ^^^ e.rotateRight 11 ^^^ e.rotateRight 25
    let t1 := h + s1 + (e &&& f ^^^ ~~~e &&& g) + k + w
    let s0 := a.rotateRight 2 ^^^ a.rotateRight 13 ^^^ a.rotateRight 22
    let t2 := s0 + (a &&& b ^^^ a &&& c ^^^ b &&& c)
    [t1 + t2, a, b, c, d + t1, e, f, g]
  | _ => x

/-- The rounds of one block, by the constants still to come; `w` holds the next 16 schedule words. -/
def shaRounds : List (BitVec 32) → List (BitVec 32) → List (BitVec 32) → List (BitVec 32)
  | [], _, x => x
  | k :: ks, w, x => shaRounds ks (w.drop 1 ++ [shaNext w]) (shaRound x k (w.getD 0 0))

/-- One block of 64 bytes. -/
def shaBlock (h : List (BitVec 32)) (b : List Byte) : List (BitVec 32) :=
  let w := (List.range 16).map fun i => BitVec.ofNat 32 (beNat (slice (4 * i) 4 b))
  List.zipWith (· + ·) h (shaRounds shaK w h)

/-- A message padded to whole blocks. -/
def shaPad (m : List Byte) : List Byte :=
  let n := m.length
  m ++ 0x80 :: zeros ((119 - n % 64) % 64) ++ beBytes 8 (8 * n)

/-- The SHA-256 hash of a message: 32 bytes. -/
def sha256 (m : List Byte) : List Byte :=
  let p := shaPad m
  ((List.range (p.length / 64)).foldl (fun h i => shaBlock h (slice (64 * i) 64 p)) shaStart).flatMap fun x => beBytes 4 x.toNat

/-- HMAC-SHA-256 of a message under a key of at most 64 bytes. -/
def hmacSha256 (key m : List Byte) : List Byte :=
  let pad (c : Byte) : List Byte := (slice 0 64 key).map (· ^^^ c)
  sha256 (pad 0x5C ++ sha256 (pad 0x36 ++ m))

/-! ### ECDSA over P-256 -/

/-- The field prime, the group order, the curve's b and its base point. -/
def ecP : Nat := 2 ^ 256 - 2 ^ 224 + 2 ^ 192 + 2 ^ 96 - 1
def ecN : Nat := 0xFFFFFFFF00000000FFFFFFFFFFFFFFFFBCE6FAADA7179E84F3B9CAC2FC632551
def ecB : Nat := 0x5AC635D8AA3A93E7B3EBBD55769886BC651D06B0CC53B0F63BCE3C3E27D2604B
def ecG : Nat × Nat := (0x6B17D1F2E12C4247F8BCE6E563A440F277037D812DEB33A0F4A13945D898C296,
                        0x4FE342E2FE1A7F9B8EE7EB4A7C0F9E162BCE33576B315ECECBB6406837BF51F5)

/-- x to the power `e` modulo `p`, by the `n` low bits of `e`. -/
def powMod (p : Nat) : Nat → Nat → Nat → Nat
  | 0, _, _ => 1
  | n + 1, x, e => powMod p n (x * x % p) (e / 2) * (if e % 2 = 1 then x else 1) % p

/-- The inverse modulo a prime below 2^256. -/
def invMod (p x : Nat) : Nat := powMod p 256 (x % p) (p - 2)

/-- The point where a line of slope `m` through `a` and `b` leads. -/
def ecLine (m : Nat) (a b : Nat × Nat) : Nat × Nat :=
  let x := (m * m + 2 * ecP - a.1 - b.1) % ecP
  (x, (m * (a.1 + ecP - x) + ecP - a.2) % ecP)

/-- The sum of two points; none is the point at infinity. -/
def ecAdd : Option (Nat × Nat) → Option (Nat × Nat) → Option (Nat × Nat)
  | none, b => b
  | a, none => a
  | some a, some b =>
    if a.1 ≠ b.1 then some (ecLine ((b.2 + ecP - a.2) * invMod ecP (b.1 + ecP - a.1) % ecP) a b)
    else if a.2 = b.2 ∧ a.2 ≠ 0 then some (ecLine ((3 * a.1 * a.1 + ecP - 3) * invMod ecP (2 * a.2) % ecP) a b)
    else none

/-- `k` times a point, by the `n` low bits of `k`. -/
def ecMul : Nat → Nat → Option (Nat × Nat) → Option (Nat × Nat)
  | 0, _, _ => none
  | n + 1, k, a => ecAdd (if k % 2 = 1 then a else none) (ecMul n (k / 2) (ecAdd a a))

/-- A point of the curve. -/
def onCurve (q : Nat × Nat) : Bool :=
  q.1 < ecP && q.2 < ecP && (q.2 * q.2) % ecP == (q.1 * q.1 * q.1 + (ecP - 3) * q.1 + ecB) % ecP

/-- The signature (r, s) of a message, each 32 bytes big-endian, verifies under the public key Qx, Qy. -/
def ecdsaVerifies (key m sig : List Byte) : Bool :=
  let q := (beNat (slice 0 32 key), beNat (slice 32 32 key))
  let r := beNat (slice 0 32 sig)
  let s := beNat (slice 32 32 sig)
  let w := invMod ecN s
  let u := beNat (sha256 m) * w % ecN
  let v := r * w % ecN
  decide (0 < r ∧ r < ecN ∧ 0 < s ∧ s < ecN) && onCurve q
    && match ecAdd (ecMul 256 u (some ecG)) (ecMul 256 v (some q)) with
       | some t => t.1 % ecN == r
       | none => false

end Sys2Proof.Machine
end

