-- ==== Sys2Proof/Machine/HostOps.lean ====
section
/-!
DEFINITION. Machine/HostOps.lean: the endpoint's completions, moderation and buffers (R387 to R391), and what a reset of its
queues drops (R392).
-/

namespace Sys2Proof.Machine

/-- The function's identity in its type 0 header (Table 15-1): device ID, class code, and revision ID, which is SILICON_STEP. -/
def hostDeviceId : Nat := 0x8320
def hostClassCode : Nat := 0x118000
def hostRevisionId : Nat := Config.siliconStep.toNat

/-- Change completion ring `r`. -/
def State.onRing (s : State) (r : Fin 4) (f : CqRing → CqRing) : State :=
  { s with host := { s.host with rings := vmod s.host.rings r f } }

/-- Completion ring `r`. -/
def State.ring (s : State) (r : Fin 4) : CqRing := s.host.rings[r]

/-- The vendor ID, the subsystem IDs and what else of the header the spec does not give: free (log entry 115). -/
def configWord (s : State) (a : Nat) : Nat :=
  if a = 0 then hostDeviceId * 65536 + s.free 65536
  else if a = 8 then hostClassCode * 256 + hostRevisionId % 256
  else s.free (2 ^ 32)

/-- The AER classes of Table 15-6. -/
inductive Severity where
  | none | advisoryNonFatal | nonFatal
  deriving DecidableEq, Repr

/-- The severity with which row `i` of Table 15-6 is reported. -/
def aerSeverity (i : Fin 6) : Severity := if i.val < 2 then .advisoryNonFatal else if i.val < 4 then .nonFatal else .none

/-- An error of row `i` of Table 15-6: it adds one to its count in AER_COUNTS, saturating, and is reported through AER unless its class is
"None" (R393, R397). -/
def aerCount (i : Fin 6) (s : State) : State :=
  { s with host := { s.host with
    aer := vmod s.host.aer i fun n => min (n + 1) 0xFFFFFFFF,
    aerReported := if aerSeverity i = .none then s.host.aerReported else s.host.aerReported ||| (1#6 <<< i.val) } }

/-- DMA runs: link up, as it is until a shut-down takes it down, and the function in D0 (R392, R495). -/
def dmaRuns (s : State) : Bool := portsOn s && 2 ≤ s.nat K.hostLink && s.nat K.hostDState == 0

/-- An access of the host after `dt`: its TLP crosses the link. -/
def hostAccess (dt : Nat) (s : State) : State := tlpSent (s.elapse dt)

/-- The ring has room for a record: it is enabled, and the host has consumed the one at its position (R390). -/
def CqRing.room (r : CqRing) : Bool := decide ((r.written + 2 ^ 32 - r.head) % 2 ^ 32 < r.size)

/-- MOD_COUNT, 0 read as 1. -/
def CqRing.modCount (r : CqRing) : Nat := max 1 (r.modReg % 65536)

/-- MOD_TIME in µs, 0 no timer. -/
def CqRing.modTime (r : CqRing) : Nat := r.modReg / 65536

/-- The completion record's 32 bytes (Table 15-4). -/
def Completion.bytes (c : Completion) : List Byte :=
  leBytes 4 c.tag ++ leBytes 1 c.status ++ leBytes 1 c.opcode ++ leBytes 2 c.channel ++ leBytes 4 c.length ++ leBytes 4 c.cqSeq
    ++ leBytes 8 c.detail ++ zeros 8

/-- The data of a completion as writes of at most 256 bytes (R385); one that an uncorrectable word affects has EP set (Table 15-6). -/
def dataWrites (c : Completion) : List HostWrite :=
  (List.range ((c.data.length + 255) / 256)).map fun i =>
    { addr := c.dataAt + 256 * i, bytes := slice (256 * i) (min 256 (c.data.length - 256 * i)) c.data,
      ep := c.poisoned.any fun b => b / 256 == i }

/-- The three steps of R390 for a completion `c` of ring `x`: the data, the record at its position, and CQ_WRITTEN. -/
def completionWrites (x : CqRing) (c : Completion) : List HostWrite :=
  dataWrites c ++ [{ addr := x.base + 32 * (x.written % x.size), bytes := c.bytes },
                   { addr := x.index, bytes := leBytes 4 ((x.written + 1) % 2 ^ 32) }]

/-- Write one completion: data, record, written index; then count it for moderation (R390, R391). -/
def writeCompletion (r : Fin 4) (c : Completion) (s : State) : State :=
  let s := tlpSent s
  let s := { s with host := { s.host with
    postedWrites := completionWrites (s.ring r) { c with cqSeq := (s.ring r).written } } }
  let s := s.onRing r fun x =>
    { x with last := some { c with cqSeq := x.written }, written := (x.written + 1) % 2 ^ 32, count := x.count + 1,
             timer := match x.timer with
               | some t => some t
               | none => if x.modTime = 0 || x.expired then none else some s.clk.now }
  if (s.ring r).modCount ≤ (s.ring r).count then messageDue ⟨r, by omega⟩ s else s

/-- Write held completions of ring `r` while there is room (R390); `n` bounds how many. -/
def flushRing (r : Fin 4) : Nat → State → State
  | 0, s => s
  | n + 1, s =>
    match (s.ring r).held with
    | [] => s
    | c :: cs =>
      if dmaRuns s then
        if (s.ring r).room then flushRing r n (writeCompletion r c (s.onRing r fun x => { x with held := cs }))
        else { s with host := { s.host with cqStall := true } }
      else s

/-- A completion falls due: it takes its place in order and is written when the ring and the function let it (R389, R390). -/
def complete (r : Fin 4) (c : Completion) (s : State) : State :=
  let s := s.onRing r fun x => { x with held := x.held ++ [c] }
  flushRing r (s.ring r).held.length s

/-- The completion of a buffer. -/
def bufferDone (p : Posted) (status detail : Nat) (data : List Byte) (s : State) (poisoned : List Nat := []) : State :=
  complete p.cq { tag := p.tag, status, opcode := 2, channel := p.channel, length := data.length, detail, dataAt := p.addr,
                  data, poisoned } s

/-- Posted buffers of channel `c`. -/
def State.posted (s : State) (c : Fin 16) : List Posted := s.host.buffers[c]

/-- Replace the posted buffers of channel `c`. -/
def State.setPosted (s : State) (c : Fin 16) (l : List Posted) : State :=
  { s with host := { s.host with buffers := s.host.buffers.set c l } }

/-! ### Host-owned time-stamp queues -/

/-- Change TDC channel `c`. -/
def State.onTdc (s : State) (c : Fin 8) (f : TdcChan → TdcChan) : State :=
  { s with tdc := { s.tdc with chan := vmod s.tdc.chan c f } }

/-- Host channel of TDC channel `c`. -/
def tdcChannel (c : Fin 8) : Fin 16 := ⟨8 + c.val, by omega⟩

/-- OWNER leaves the host: the oldest buffer completes, with STATUS 6 if it holds no stamp (R388, R389; log entry 116). -/
def returnStamps (c : Fin 8) (s : State) : State :=
  match s.posted (tdcChannel c) with
  | p :: ps => bufferDone p (if p.bytes.isEmpty then 6 else 0) (p.bytes.length / 8) p.bytes (s.setPosted (tdcChannel c) ps)
  | [] => s

/-- Close the oldest buffer of TDC channel `c` with the stamps it holds (R388). -/
def closeStamps (c : Fin 8) (s : State) : State :=
  match s.posted (tdcChannel c) with
  | p :: ps => bufferDone p 0 (p.bytes.length / 8) p.bytes (s.setPosted (tdcChannel c) ps)
  | [] => s

/-- Pack queued stamps of a host-owned channel into its oldest buffer; a full one completes (R388). `n` bounds how many. -/
def packStamps (c : Fin 8) : Nat → State → State
  | 0, s => s
  | n + 1, s =>
    if s.nat (K.owner c) = 1 && dmaRuns s then
      match s.tdc.chan[c].queue, s.posted (tdcChannel c) with
      | q :: qs, p :: ps =>
        if p.len < 8 then packStamps c n (closeStamps c s) else
        let s := s.onTdc c fun x => { x with queue := qs }
        let p := { p with bytes := p.bytes ++ leBytes 8 q.toNat, firstAt := if p.bytes.isEmpty then s.clk.now else p.firstAt }
        let s := s.setPosted (tdcChannel c) (p :: ps)
        packStamps c n (if p.len < p.bytes.length + 8 then closeStamps c s else s)
      | _, _ => s
    else s

/-! ### Stream records -/

/-- Change stream `k`. -/
def State.onStream (s : State) (k : Fin 8) (f : Stream → Stream) : State :=
  { s with streams := vmod s.streams k f }

/-- Host channel of stream `k`. -/
def streamChannel (k : Fin 8) : Fin 16 := ⟨k.val, by omega⟩

/-- The route of a record is done; a record with no route left is gone. -/
def dropRoute (host : Bool) (seq : Nat) (x : Stream) : Stream :=
  let done (r : StreamRec) : StreamRec :=
    if r.seq = seq then (if host then { r with toHost := false } else { r with toPort := false }) else r
  { x with records := (x.records.map done).filter fun r => r.toHost || r.toPort }

/-- Write stream records into posted buffers, oldest first (R388); a buffer too small completes empty. `n` bounds how
many buffers are used. -/
def deliverStream (k : Fin 8) : Nat → State → State
  | 0, s => s
  | n + 1, s =>
    if dmaRuns s then
      match s.streams[k].records.find? StreamRec.toHost, s.posted (streamChannel k) with
      | some r, p :: ps =>
        let s := s.setPosted (streamChannel k) ps
        if p.len < r.bytes then deliverStream k n (bufferDone p 2 r.seq [] s)
        else
          let (_, s) := wakeBarn 7 s
          let bad := (List.range r.bytes).filter fun i => barnBad 7 s (r.slot + i)
          let s := if bad.isEmpty then s else aerCount 0 (readMarks 7 r.slot r.bytes s)
          let data := readBarn s r.slot r.bytes
          deliverStream k n (bufferDone p (if bad.isEmpty then 0 else 3) r.seq data (s.onStream k (dropRoute true r.seq)) bad)
      | _, _ => s
    else s

/-- Everything that waits for the host and can go, goes: held completions, stamps and stream records (R388, R390, R392). -/
def serveHost (s : State) : State :=
  let s := ([0, 1, 2, 3] : List (Fin 4)).foldl (fun (s : State) r => flushRing r (s.ring r).held.length s) s
  ([0, 1, 2, 3, 4, 5, 6, 7] : List (Fin 8)).foldl (fun (s : State) k =>
    let s := packStamps k ((s.tdc.chan[k].queue).length + (s.posted (tdcChannel k)).length) s
    deliverStream k (s.posted (streamChannel k)).length s) s

/-- Every vector whose message is pending and may go sends it. -/
def trySendAll (s : State) : State := ([0, 1, 2, 3, 4] : List (Fin 5)).foldl (fun (s : State) (v : Fin 5) => trySend v s) s

/-- The function returns to D0 (R392): the held writes go in R390 order, and then the pending messages, which are masked until then. -/
def returnToD0 (s : State) : State :=
  let masked := s.host.functionMask
  let s := { s.setNum K.hostDState 0 with host := { s.host with functionMask := true } }
  let s := serveHost (raise 49 s)
  trySendAll { s with host := { s.host with functionMask := masked } }

/-- What RESET_QUEUES does (R392): posted buffers are dropped and the rings start afresh, their set-up kept (log entry 13); a dictionary
request fetched and not yet answered is answered in its turn, and its answer discarded. -/
def dropQueues (s : State) : State :=
  let h := s.host
  { s with host := { h with
    rqTail := 0, rqHead := 0, fetched := h.fetched.map fun f => { f with discard := true }, buffers := Vector.replicate 16 [], pba := h.pba &&& 0x10#32,
    rings := h.rings.map fun r => { base := r.base, size := r.size, index := r.index, modReg := r.modReg } } }

/-- A hot reset, link down or FLR (R392): as RESET_QUEUES, and every BAR0 register returns to 0; the function is in D0 again with its
MSI-X, power-management and link controls as the base specification resets them (PRESUMED, log entry 50). -/
def hostReset (s : State) : State :=
  let s := ((dropQueues s).setNum K.hostDState 0).setNum (K.sessionLevel 2) 2
  raise 49 ({ s with host := { s.host with
    enable := false, fetchError := false, cqStall := false, resetDone := false, rqBase := 0, rqSize := 0,
    rings := Vector.replicate 4 {}, pba := 0, maskBits := 0xFFFFFFFF, functionMask := false, msixTable := [], msixEnable := false,
    pmeStatus := false, pmeEnable := false, aspmEnable := false, timeoutSetting := 0 } }.inc K.hostResets)

/-! ### Requests -/

/-- Initiator `i` presents a request to the serialiser (R338). -/
def presentRequest (i : Initiator) (req : Request) (replyTo : ReplyTo) (s : State) : State :=
  { s with dict := { s.dict with waiting := s.dict.waiting.set i (some { req, arrived := s.clk.now, replyTo }) } }

/-- The oldest fetched request is presented once the one before it has been answered (R387). -/
def presentHost (s : State) : State :=
  match s.host.fetched, s.dict.waiting[2] with
  | f :: _, none =>
    if s.host.presented then s
    else presentRequest 2 f.req (.host f.tag f.dst f.dstLen) { s with host := { s.host with presented := true } }
  | _, _ => s

/-- The answer of the presented request leaves (R387): cut to DST_LEN with STATUS 1 if longer; after a reset of the queues
it is discarded (R392). -/
def answerHost (bytes : List Byte) (csn : Nat) (s : State) : State :=
  match s.host.fetched with
  | f :: rest =>
    if f.discard then presentHost { s with host := { s.host with fetched := rest, presented := false } } else
    let cut := decide (f.dstLen < bytes.length)
    let data := bytes.take f.dstLen
    let s := { s with host := { s.host with fetched := rest, presented := false } }
    presentHost (complete f.cq { tag := f.tag, status := b2n cut, opcode := 1, channel := f.channel, length := data.length,
                                 detail := csn, dataAt := f.dst, data } s)
  | [] => s

end Sys2Proof.Machine
end

