-- ==== Sys2Proof/Machine/SecurityOps.lean ====
section
/-!
DEFINITION. Machine/SecurityOps.lean: initiator windows (R446, R447), sessions (R442 to R444), and the matrix of lifecycle,
debug and power (R439, R459).
-/

namespace Sys2Proof.Machine

/-! ### Windows -/

/-- One window entry of Table 18-9. -/
structure WindowEntry where
  base : Nat
  size : Nat
  perms : Nat
  deriving DecidableEq, Repr

/-- The default windows of Table 18-10. -/
def defaultWindow (w : Nat) : List WindowEntry :=
  if w = 0 then [⟨0x18000000, 0x80000, 7⟩, ⟨0x20000000, 0x100000, 7⟩, ⟨0x40010000, 0x50000, 3⟩, ⟨0x80000000, 0x80000000, 3⟩]
  else if w = 1 then [⟨0, 0x40000000, 3⟩]
  else [⟨0, 0xFFFFF000, 3⟩]

/-- The bytes of a window as 6040+w.01 reads (R460). -/
def windowBytes (l : List WindowEntry) : List Byte :=
  slice 0 128 (l.flatMap fun e => leBytes 8 e.base ++ leBytes 4 e.size ++ leBytes 1 e.perms ++ zeros 3)

/-- The entries of a written window; an empty block stands for the default. -/
def windowOf (w : Nat) (b : List Byte) : List WindowEntry :=
  if b.isEmpty then defaultWindow w
  else (List.range 8).map fun i =>
    { base := fieldAt (16 * i) 8 b, size := fieldAt (16 * i + 8) 4 b, perms := fieldAt (16 * i + 12) 1 b }

/-- One entry contains every byte of an access and grants its kind: 0 read, 1 write, 2 execute (R446). -/
def permits (l : List WindowEntry) (kind a n : Nat) : Bool :=
  l.any fun e => e.size != 0 && decide (e.base ≤ a ∧ a + n ≤ e.base + e.size) && bitOf e.perms kind

/-- The change instant of window `w` has come: the new window is in force (R447). -/
def changeWindow (w : Fin 3) (s : State) : State :=
  match s.sec.windowNext[w] with
  | some (_, b) => { s with sec := { s.sec with windows := s.sec.windows.set w b,
                                                 windowNext := s.sec.windowNext.set w none } }
  | none => s

/-- An access that arrives between the turn of a window write and its change instant waits for it (R447). -/
def awaitWindow (w : Fin 3) (s : State) : State :=
  match s.sec.windowNext[w] with
  | some (c, _) => changeWindow w (s.reach c)
  | none => s

/-- HOST_WINDOW_BASE follows the same rule (R397, R447). -/
def awaitBase (s : State) : State :=
  match s.sec.baseNext with
  | some (c, b) =>
    let s := s.reach c
    { s with sec := { s.sec with baseNext := none }, host := { s.host with windowBase := b } }
  | none => s

/-- Window `w` permits an access. -/
def windowPermits (s : State) (w : Fin 3) (kind a n : Nat) : Bool := permits (windowOf w s.sec.windows[w]) kind a n

/-- A refused access is counted and noted (R446, R460). -/
def refuseAccess (w : Fin 3) (a : Nat) (s : State) : State :=
  (s.inc (K.windowRefusals w)).setBlock (K.lastRefused w) (leBytes 8 s.clk.devTime ++ leBytes 8 a)

/-! ### Sessions -/

/-- Session of initiator `i` ends (R443). -/
def endSession (i : Fin 3) (s : State) : State := s.setNum (K.sessionLevel i) 2

/-- The message of R442. -/
def sessionMessage (i : Fin 3) (level : Nat) (nd nc : List Byte) : List Byte :=
  [0x43, 0x57, 0x53, 0x31] ++ leBytes 8 Config.unitId.toNat ++ leBytes 1 i ++ leBytes 1 level ++ zeros 2 ++ nd ++ nc

/-- Key register of a level: in Blank lifecycle every level opens with a key of zeros (R439). -/
def sessionKey (s : State) (level : Nat) : Option (List Byte) :=
  if s.nat K.lifecycle = 0 then some (zeros 32)
  else if level = 0 then s.sec.keyRegs[0] else s.sec.keyRegs[1]

/-- SESSION_OPEN's tag matches (R442). -/
def tagMatches (s : State) (i : Fin 3) (data : List Byte) : Bool :=
  match s.sec.nonces[i], sessionKey s (fieldAt 0 1 data) with
  | some nd, some k =>
    slice 32 32 data == hmacSha256 k (sessionMessage i (fieldAt 0 1 data) nd (slice 16 16 data))
  | _, _ => false

/-- SESSION_OPEN from initiator `i` is locked out (R444). -/
def lockedOut (s : State) (i : Fin 3) : Bool :=
  match s.sec.lockUntil[i] with
  | some t => decide (s.clk.now < t)
  | none => false

/-- A failed attempt (R442, R444): counted, the fourth in a row locks the initiator out for 60 s with one record. -/
def failSession (i : Fin 3) (s : State) : State :=
  let n := s.sec.fails[i] + 1
  let s := s.inc K.authFailures
  let s := { s with sec := { s.sec with fails := s.sec.fails.set i n, nonces := s.sec.nonces.set i none } }
  if n = 4 then
    let s := { s with sec := { s.sec with fails := s.sec.fails.set i 0,
                                          lockUntil := s.sec.lockUntil.set i (some (s.clk.now + 60000000000)) } }
    record 4 (0x6000 + i) 0x0C01 (leBytes 4 (s.nat K.authFailures)) s
  else s

/-- An accepted attempt. -/
def openSession (i : Fin 3) (level : Nat) (s : State) : State :=
  { s.setNum (K.sessionLevel i) level with
    sec := { s.sec with fails := s.sec.fails.set i 0, nonces := s.sec.nonces.set i none } }

/-! ### Lifecycle, keys, debug -/

/-- KEY_STATE (R460). -/
def keyState (s : State) : Nat :=
  bitsOf (fun k => ((s.sec.keys.toList.map Option.isSome).getD k false)) 6 + 256 * s.sec.revoked.toNat

/-- Signing slots programmed and not revoked. -/
def liveSlots (s : State) : Nat :=
  (List.range 4).countP fun k => (s.sec.keys.toList.map Option.isSome).getD k false && !s.sec.revoked.getLsbD k

/-- Debug reset value of a lifecycle (Table 18-1). -/
def debugReset (s : State) : Nat :=
  let l := s.nat K.lifecycle
  if l = 0 then 2 else if l = 1 then s.nat K.debugDefault else 0

/-- Table 18-8: a lifecycle permits a debug state in a power state (0 Run, 1 Watch, 2 Standby). -/
def matrix (lifecycle debug power : Nat) (stopped : Bool) : Bool :=
  if debug = 3 then power == 1 && lifecycle != 2 && stopped
  else if lifecycle = 2 && debug == 2 then power != 0
  else true

/-- Power state as the matrix takes it: Quiet counts as Watch (R451). -/
def matrixPower (s : State) : Nat :=
  match s.power.transition with
  | some (_, t, _) => t
  | none => if s.nat K.powerState = 4 then 1 else s.nat K.powerState

/-- Debug state Scan holds cores and engines and refuses writes (R449, R450). -/
def inScan (s : State) : Bool := s.nat K.debugState == 3

/-- The instruction of an opcode; one that Table 20-10 does not list is BYPASS. -/
def tapDecode (b : BitVec 8) : TapInstr :=
  if b = 0x00 then .extest else if b = 0x01 then .idcode else if b = 0x02 then .samplePreload else if b = 0x03 then .clamp
  else if b = 0x04 then .highz else if b = 0x10 then .dtmcs else if b = 0x11 then .dmi else if b = 0x20 then .engDebug
  else if h : 0x30 ≤ b.toNat ∧ b.toNat < 0x38 then .scanChain ⟨b.toNat - 0x30, by omega⟩
  else .bypass

/-- The instruction is allowed in a debug state, 0 Closed to 3 Scan (Table 20-10). -/
def TapInstr.allowed (i : TapInstr) (debug : Nat) : Bool :=
  match i with
  | .idcode | .samplePreload | .bypass => true
  | .dtmcs | .dmi | .engDebug => debug == 1 || debug == 2
  | .extest | .clamp | .highz => debug == 3
  | .scanChain _ => debug == 3

/-- The instruction in effect: what the instruction register holds, or BYPASS where the debug state in effect does not allow it (R501). -/
def tapInstr (s : State) : TapInstr :=
  let i := tapDecode s.tap.ir
  if i.allowed (s.nat K.debugState) then i else .bypass

/-- The device answers at all: not in reset, Hold or Off (R338, R363). -/
def awake (s : State) : Bool := !s.power.hold && !s.power.inReset && !s.power.off

end Sys2Proof.Machine
end

