-- ==== Sys2Proof/Machine/Harts.lean ====
section
/-!
DEFINITION. Machine/Harts.lean: the supervisor cores' own state (R400): modes, traps, physical memory protection and control registers. The
manual names RV32IMAC, machine and user modes, PMP and Zicsr; what these do is taken from the RISC-V standards it cites (log entry 117).
-/

namespace Sys2Proof.Machine

/-- Change core `c`. -/
def State.onHart (s : State) (c : Fin 2) (f : Hart → Hart) : State :=
  { s with cores := { s.cores with harts := vmod s.cores.harts c f } }

/-- Core `c`. -/
def State.hart (s : State) (c : Fin 2) : Hart := s.cores.harts[c]

/-- Core `h` sees its machine timer interrupt pending: MTIME is at or above its compare (R405). -/
def State.mtip (s : State) (h : Fin 2) : Bool := decide (s.timer.cmp[h].toNat ≤ s.mtime)

/-- Core `c` executes instructions: it is powered and out of reset, outside Scan, not halted and not waiting in WFI; the control core runs its
firmware, the application core has started (R410, R415, R448, R449, R451, R494). -/
def coreActs (c : Fin 2) (s : State) : Bool :=
  awake s && !inScan s && !(s.hart c).halted && !s.cores.waiting[c]
    && (if c = 0 then s.cores.controlAlive else s.nat K.appCoreState == 2)

/-! ### Traps -/

/-- Cause of an exception. -/
def CoreFault.cause (f : CoreFault) : BitVec 32 :=
  match f with
  | .instructionAccess => 1
  | .illegalInstruction => 2
  | .loadMisaligned => 4
  | .loadAccess => 5
  | .storeMisaligned => 6
  | .storeAccess => 7

/-- An access fault, not a misaligned access or an illegal instruction. -/
def CoreFault.isAccess (f : CoreFault) : Bool :=
  match f with
  | .instructionAccess | .loadAccess | .storeAccess => true
  | .illegalInstruction | .loadMisaligned | .storeMisaligned => false

/-- The core takes a trap: mepc, mcause and mtval are written, interrupts are disabled in machine mode, and the handler is next. An interrupt,
bit 31 of the cause, is vectored if mtvec says so. -/
def Hart.trap (h : Hart) (cause tval : BitVec 32) : Hart :=
  let base := h.mtvec &&& 0xFFFFFFFC#32
  { h with mepc := h.pc, mcause := cause, mtval := tval, mpie := h.mie, mie := false, mpp := h.mode, mode := .machine,
           pc := if h.mtvec.getLsbD 0 && cause.getLsbD 31 then base + (cause <<< 2) else base }

/-- The one instruction that a single step executes is over: the core is halted again (R448). -/
def endStep (c : Fin 2) (s : State) : State :=
  if (s.hart c).stepping then
    let s := s.onHart c fun h => { h with stepping := false, halted := true }
    if c = 1 then s.setNum K.appCoreState 4 else s
  else s

/-- An operation of core `c` raises an exception and is not performed (R400, R402). -/
def faulted (c : Fin 2) (f : CoreFault) (tval : Nat) (s : State) : State :=
  let s := { s with cores := { s.cores with accessFault := f.isAccess } }
  endStep c (s.onHart c fun h => { h.trap f.cause (BitVec.ofNat 32 tval) with fault := some f })

/-- An operation of core `c` was performed. -/
def performed (c : Fin 2) (s : State) : State :=
  let s := { s with cores := { s.cores with accessFault := false } }
  endStep c (s.onHart c fun h => { h with fault := none })

/-- Interrupts pending at core `c`, as in mip: external 11, timer 7; msip is 0 (R405, R414). -/
def pendingInterrupts (c : Fin 2) (s : State) : BitVec 32 :=
  (if s.cores.meip[c] then 0x800#32 else 0) ||| (if s.mtip c then 0x80#32 else 0)

/-- The interrupt that core `c` takes before its next instruction, external before timer (R414, R415). -/
def interruptTaken (c : Fin 2) (s : State) : Option (BitVec 32) :=
  let h := s.hart c
  let p := pendingInterrupts c s &&& h.enables
  if !(h.mie || h.mode == .user) then none
  else if p.getLsbD 11 then some 0x8000000B
  else if p.getLsbD 7 then some 0x80000007
  else none

/-- WFI does not wait: the level is presented, whatever the masks (R415), or an enabled interrupt is pending. -/
def wfiPasses (c : Fin 2) (s : State) : Bool := s.cores.meip[c] || (pendingInterrupts c s &&& (s.hart c).enables) != 0

/-! ### Physical memory protection -/

/-- The bytes that PMP entry `i` matches, from its first to past its last; off matches none. -/
def pmpRange (h : Hart) (i : Fin 16) : Nat × Nat :=
  let p := h.pmp[i].address.toNat
  let below := if i.val = 0 then 0 else (h.pmp.toList.getD (i.val - 1) {}).address.toNat
  let ones := ((List.range 32).takeWhile fun b => h.pmp[i].address.getLsbD b).length
  match (h.pmp[i].config.extractLsb' 3 2).toNat with
  | 0 => (0, 0)
  | 1 => (4 * below, 4 * p)
  | 2 => (4 * p, 4 * p + 4)
  | _ => (4 * (p / 2 ^ (ones + 1) * 2 ^ (ones + 1)), 4 * (p / 2 ^ (ones + 1) * 2 ^ (ones + 1)) + 2 ^ (ones + 3))

/-- PMP permits an access of kind `k` (0 read, 1 write, 2 execute): the lowest-numbered entry that matches a byte decides; with none, machine
mode may and user mode may not. -/
def pmpPermits (h : Hart) (k a n : Nat) : Bool :=
  match (List.finRange 16).find? fun i => decide ((pmpRange h i).1 < a + n ∧ a < (pmpRange h i).2) with
  | some i =>
    decide ((pmpRange h i).1 ≤ a ∧ a + n ≤ (pmpRange h i).2)
      && ((h.mode == .machine && !h.pmp[i].config.getLsbD 7) || h.pmp[i].config.getLsbD k)
  | none => h.mode == .machine

/-! ### Control and status registers -/

/-- mstatus as it reads. -/
def Hart.mstatus (h : Hart) : BitVec 32 :=
  BitVec.ofNat 32 (b2n h.mie * 8 + b2n h.mpie * 128 + (if h.mpp = .machine then 0x1800 else 0))

/-- A word of pmpcfg. -/
def pmpConfig (h : Hart) (w : Nat) : Nat :=
  (List.range 4).foldl (fun n i => n + (h.pmp.toList.getD (4 * w + i) {}).config.toNat * 256 ^ i) 0

/-- A control and status register of core `c` that the model holds (R400, R405); others are none. -/
def csrRead (c : Fin 2) (n : Nat) (s : State) : Option (BitVec 32) :=
  let h := s.hart c
  if n = 0x300 then some h.mstatus
  else if n = 0x301 then some 0x40101105
  else if n = 0x304 then some h.enables
  else if n = 0x305 then some h.mtvec
  else if n = 0x340 then some h.mscratch
  else if n = 0x341 then some h.mepc
  else if n = 0x342 then some h.mcause
  else if n = 0x343 then some h.mtval
  else if n = 0x344 then some (pendingInterrupts c s)
  else if 0x3A0 ≤ n ∧ n < 0x3A4 then some (BitVec.ofNat 32 (pmpConfig h (n - 0x3A0)))
  else if 0x3B0 ≤ n ∧ n < 0x3C0 then some (h.pmp.toList.getD (n - 0x3B0) {}).address
  else if n = 0xF14 then some (BitVec.ofNat 32 c.val)
  else none

/-- PMP entry `i` may not be written: it is locked, or the next one is and begins at it. -/
def pmpLocked (h : Hart) (i : Nat) : Bool :=
  (h.pmp.toList.getD i {}).config.getLsbD 7
    || ((h.pmp.toList.getD (i + 1) {}).config.getLsbD 7 && (h.pmp.toList.getD (i + 1) {}).config.extractLsb' 3 2 == 1)

/-- A write of a control and status register: what the core then holds. -/
def csrWrite (n : Nat) (v : BitVec 32) (h : Hart) : Hart :=
  if n = 0x300 then { h with mie := v.getLsbD 3, mpie := v.getLsbD 7, mpp := if v.extractLsb' 11 2 = 3 then .machine else .user }
  else if n = 0x304 then { h with enables := v &&& 0x880#32 }
  else if n = 0x305 then { h with mtvec := v &&& 0xFFFFFFFD#32 }
  else if n = 0x340 then { h with mscratch := v }
  else if n = 0x341 then { h with mepc := v &&& 0xFFFFFFFE#32 }
  else if n = 0x342 then { h with mcause := v }
  else if n = 0x343 then { h with mtval := v }
  else if 0x3A0 ≤ n ∧ n < 0x3A4 then
    { h with pmp := (List.range 4).foldl (fun p i =>
        vmod p ⟨(4 * (n - 0x3A0) + i) % 16, Nat.mod_lt _ (by decide)⟩ fun e =>
          if e.config.getLsbD 7 then e else { e with config := v.extractLsb' (8 * i) 8 }) h.pmp }
  else if 0x3B0 ≤ n ∧ n < 0x3C0 then
    { h with pmp := vmod h.pmp ⟨(n - 0x3B0) % 16, Nat.mod_lt _ (by decide)⟩ fun e =>
        if pmpLocked h (n - 0x3B0) then e else { e with address := v } }
  else h

/-- Core `c` reads a control and status register and may write it. A machine-mode register is illegal in user mode, and so is a write of a
read-only one; a register that the manual does not name reads a free value and keeps nothing. -/
def csrAccess (c : Fin 2) (n : Nat) (w : Option (BitVec 32)) (s : State) : State :=
  if ((s.hart c).mode = .user && n / 256 % 4 != 0) || (w.isSome && n / 1024 == 3) then faulted c .illegalInstruction 0 s
  else
    let old := (csrRead c n s).getD (BitVec.ofNat 32 (s.free (2 ^ 32)))
    performed c (s.draw.onHart c fun h => { (match w with
      | some v => csrWrite n v h
      | none => h) with loaded := old })

/-- MRET: the mode and MIE that the trap saved return, and the instruction at mepc is next. -/
def returnFromTrap (c : Fin 2) (s : State) : State :=
  if (s.hart c).mode = .user then faulted c .illegalInstruction 0 s
  else performed c (s.onHart c fun h => { h with mode := h.mpp, mie := h.mpie, mpie := true, mpp := .user, pc := h.mepc })

end Sys2Proof.Machine
end

