-- ==== Sys2Proof/Machine/BarnCommands.lean ====
section
/-!
DEFINITION. Machine/BarnCommands.lean: the events of the barn controller (R310 to R327).
-/

namespace Sys2Proof.Machine

/-- The bytes of a write as an entry's mask has them: byte numbers rising, each once. -/
def maskBytes (l : List (Fin 64 × Byte)) : List (Nat × Byte) :=
  (List.range 64).filterMap fun i => (l.find? fun b => b.1.val == i).map fun b => (i, b.2)

/-- A supervisor core makes requests while it executes, within SUP_AREA_BYTES of the supervisor area; the control core's working data lie in
the system area too (R307, R403). Other requesters are not bound. -/
def requesterMay (r : Fin 14) (line : Nat) (s : State) : Bool :=
  if r = 9 ∨ r = 10 then
    coreActs (if r = 9 then 0 else 1) s
      && ((r == 9 && decide (64 * line < areaBase s 2))
        || decide (areaBase s 6 ≤ 64 * line ∧ 64 * line < areaBase s 6 + s.barn.supArea))
  else true

/-- BARN_REQUEST (R310): accepted while the barn is trained; no line lies at or above BARN_BYTES (R307). A supervisor core's request beyond its
area raises its access fault (R403). -/
def execBarnRequest (requester : Fin 14) (line : BitVec 29) (write : Option (List (Fin 64 × Byte))) (dt : Nat) (s : State) :
    Host.Outcome State Fault Refusal :=
  let st := barnState s
  if !(st == 2 || st == 3 || st == 4 || st == 5) then finish s
  else if 64 * line.toNat < s.nat K.barnBytes then
    if !requesterMay requester line.toNat s then
      let c : Fin 2 := if requester = 9 then 0 else 1
      finish (if coreActs c s then faulted c (if write.isSome then .storeAccess else .loadAccess) (0x80000000 + (64 * line.toNat - areaBase s 6))
        (s.elapse dt) else s)
    else finish (acceptRequest requester line.toNat (write.map maskBytes) (s.elapse dt))
  else .fault .noSuchBarnAddress

/-- BARN_READ_COMPLETE (R318). -/
def execBarnReadComplete (chan : Fin 2) (errors : List (Fin 8 × WordError)) (dt : Nat) (s : State) :
    Host.Outcome State Fault Refusal :=
  if (s.chan chan).queue.isEmpty then finish s else finish (completeRead chan errors (s.elapse dt))

/-- BARN_WRITE_BURST (R317): in a burst, or while no read is ready. -/
def execBarnWriteBurst (chan : Fin 2) (dt : Nat) (s : State) : Host.Outcome State Fault Refusal :=
  let x := s.chan chan
  if !x.writes.isEmpty ∧ (x.burst ∨ x.queue.isEmpty) then finish (issueWrite chan (s.elapse dt)) else finish s

/-- BARN_ALERT (R319). -/
def execBarnAlert (chan : Fin 2) (requester : Fin 14) (line : BitVec 29) (cycles dt : Nat) (s : State) :
    Host.Outcome State Fault Refusal :=
  finish (alert chan requester line.toNat cycles (s.elapse dt))

/-- REFRESH_DUE (R324): an interval after the last one in the rank whose turn comes first. -/
def execRefreshDue (chan : Fin 2) (s : State) : Host.Outcome State Fault Refusal :=
  if chanInUse s chan ∧ barnAwake s then
    let r := earliest s chan (s.chan chan).lastRefresh
    finish (atInstant ((s.chan chan).lastRefresh[r] + refreshInterval s) (refreshRank chan r) s)
  else finish s

/-- RECAL_STEP (R326): at most one step per rank per tREFI, in the recalibrations that RECAL_PERIOD makes due. -/
def execRecalStep (chan : Fin 2) (dt : Nat) (s : State) : Host.Outcome State Fault Refusal :=
  let t := s.elapse dt
  if chanInUse t chan && barnAwake t then
    match recalRank t chan with
    | some r => finish (recalStep chan r t)
    | none => finish s
  else finish s

/-- SCRUB_PASS_END (R323): one pass per SCRUB_PERIOD. -/
def execScrubPassEnd (dt : Nat) (s : State) : Host.Outcome State Fault Refusal :=
  let t := s.elapse dt
  if s.nat K.scrubPeriod ≠ 0 ∧ barnAwake t ∧ s.barn.lastScrub + s.nat K.scrubPeriod * 1000000000 ≤ t.clk.now then
    finish (endScrub t)
  else finish s

/-- SELF_REFRESH_ENTRY (R327): SR_ENTRY_DELAY in Standby with no request pending; the write queues drain, then SRE. -/
def execSelfRefreshEntry (s : State) : Host.Outcome State Fault Refusal :=
  match s.barn.idleFrom with
  | some t =>
    if s.nat K.powerState = 2 ∧ barnAwake s ∧ (s.chan 0).queue.isEmpty ∧ (s.chan 1).queue.isEmpty then
      finish (atInstant (t + 1000 * s.nat K.srEntryDelay) (fun s =>
        (drainWrites s).setNum K.barnState 4) s)
    else finish s
  | none => finish s

end Sys2Proof.Machine
end

