-- ==== Sys2Proof/Machine/Flags.lean ====
section
/-!
DEFINITION. Machine/Flags.lean: the bell header FLAGS of Table 9-2 (R235), by name.
-/

namespace Sys2Proof.Machine

/-- A header flag of Table 9-2 by its bit. -/
inductive HFlag where
  | holdover | unsynchronised | noLaunch | truncated | excClipped | excAdjusted | rxClipped | filterSat | coefFade
  | driveCapped | supplyDip | settling | switching | overrun | dark | engineLoss
  deriving DecidableEq, Repr

/-- Its bit (R235). -/
def HFlag.bit : HFlag → Nat
  | .holdover => 0 | .unsynchronised => 1 | .noLaunch => 2 | .truncated => 3 | .excClipped => 4 | .excAdjusted => 5
  | .rxClipped => 6 | .filterSat => 7 | .coefFade => 8 | .driveCapped => 9 | .supplyDip => 10 | .settling => 11
  | .switching => 12 | .overrun => 13 | .dark => 14 | .engineLoss => 15

/-- Set flag `f` if `p`. -/
def Header.flagIf (h : Header) (p : Bool) (f : HFlag) : Header :=
  if p then { h with flags := h.flags ||| (1#32 <<< f.bit) } else h

/-- The header carries flag `f`. -/
def Header.has (h : Header) (f : HFlag) : Bool := h.flags.getLsbD f.bit

/-- Set flag `f` of a bell if `p`. -/
def BellRec.flagIf (b : BellRec) (p : Bool) (f : HFlag) : BellRec := b.onHeader fun h => h.flagIf p f

end Sys2Proof.Machine
end

