-- ==== Sys2Proof/Machine/Trig.lean ====
section
/-!
DEFINITION. Machine/Trig.lean: the real functions that the manual's formulas name (R63, R113, R124, R263, R287), in fixed point with 80
fractional bits.  The manual gives the functions and not how the 8320 evaluates them: a value rounded from one of these differs from the
exact one only where the exact one lies within about 2^-75 of a tie (DEDUCED, log entry 8).
-/

namespace Sys2Proof.Machine

/-- One, as a fixed-point number. -/
def fixOne : Int := 2 ^ 80

/-- π. -/
def fixPi : Int := 3797952473636338580787994

/-- ln 2. -/
def fixLn2 : Int := 837963523372001241319908

/-- `n` terms of an alternating power series: the next term is the last times -`x2` over k (k + 1). -/
def alternating (x2 : Int) : Nat → Int → Int → Int
  | 0, _, _ => 0
  | n + 1, k, term => term + alternating x2 n (k + 2) (-(term * x2) / (fixOne * (k * (k + 1))))

/-- cos x and sin x of an angle from 0 to π / 2. -/
def cosSinQuarter (x : Int) : Int × Int :=
  let x2 := x * x / fixOne
  (alternating x2 16 1 fixOne, alternating x2 16 2 x)

/-- exp(i × 2π × ph / 2^32): its real and imaginary parts. -/
def cosSin (ph : BitVec 32) : Int × Int :=
  let (c, s) := cosSinQuarter ((ph.toNat % 2 ^ 30 : Nat) * fixPi / 2 ^ 31)
  match ph.toNat / 2 ^ 30 with
  | 0 => (c, s)
  | 1 => (-s, c)
  | 2 => (-c, -s)
  | _ => (s, -c)

/-- The argument of (re, im) is at least `w` units of π / 65,536, for both in the first quadrant; the slack lets the diagonal, the one
exact case, be reached. -/
def argReaches (re im : Int) (w : Nat) : Bool :=
  let (c, s) := cosSinQuarter (w * fixPi / 65536)
  decide (re * s ≤ im * c + (re + im) * 1024)

/-- The largest of the words from `lo` up, in steps below 2 ^ n, that the argument reaches. -/
def argSearch (re im : Int) : Nat → Nat → Nat
  | 0, lo => lo
  | n + 1, lo => argSearch re im n (if argReaches re im (lo + 2 ^ n) then lo + 2 ^ n else lo)

/-- The argument of (re, im), not both 0, in units of π / 65,536, rounded down: from 0 to 131,071. -/
def argFloor (re im : Int) : Nat :=
  if 0 < re ∧ 0 ≤ im then argSearch re im 15 0
  else if re ≤ 0 ∧ 0 < im then 32768 + argSearch im (-re) 15 0
  else if re < 0 ∧ im ≤ 0 then 65536 + argSearch (-re) (-im) 15 0
  else 98304 + argSearch (-im) re 15 0

/-- `n` terms of the series z + z³ / 3 + z⁵ / 5 + …: the next power is the last times `z2`. -/
def oddPowers (z2 : Int) : Nat → Int → Int → Int
  | 0, _, _ => 0
  | n + 1, k, p => p / k + oddPowers z2 n (k + 2) (p * z2 / fixOne)

/-- ln(a / 2^(log2 a)) of a positive number: twice the inverse hyperbolic tangent of (m − 1) / (m + 1), m from 1 to 2. -/
def lnMantissa (a : Nat) : Int :=
  let d : Int := 2 ^ Nat.log2 a
  let z := ((a : Int) - d) * fixOne / ((a : Int) + d)
  2 * oddPowers (z * z / fixOne) 28 1 z

/-- ln(a / b) of two positive numbers. -/
def lnFix (a b : Nat) : Int :=
  lnMantissa a - lnMantissa b + ((Nat.log2 a : Int) - Nat.log2 b) * fixLn2

/-- ln(a / b) of two positive numbers, in units of 10^-12, to the nearest. -/
def lnRatio (a b : Nat) : Int := roundDiv (lnFix a b * 10 ^ 12) (2 ^ 80)

end Sys2Proof.Machine
end

