-- ==== Sys2Proof/Machine/ExcOps.lean ====
section
/-!
DEFINITION. Machine/ExcOps.lean: patterns, the bell sequence and the checks on them (R63 to R83), read from a store `m`: the
values in effect, or the shadow as a commit would leave it.
-/

namespace Sys2Proof.Machine

/-- Sub-pulse `j` of pattern `p` is enabled. -/
def pulseOn (m : Sparse DVal) (p j : Nat) : Bool := bitOf (natIn m (K.subpulseEnable p)) j

/-- The enabled sub-pulses of pattern `p`. -/
def pulsesOn (m : Sparse DVal) (p : Nat) : List Nat := (List.range 4).filter (pulseOn m p)

/-- Start frequency in units of 0.25 Hz. -/
def pulseF0 (m : Sparse DVal) (p j : Nat) : Int := 4 * numIn m (K.pulseFreq p j)

/-- End frequency, FREQ + CHIRP × WIDTH × 0.5 Hz, in units of 0.25 Hz (R63). -/
def pulseF1 (m : Sparse DVal) (p j : Nat) : Int :=
  4 * numIn m (K.pulseFreq p j) + 2 * (numIn m (K.pulseChirp p j) * natIn m (K.pulseWidth p j))

/-- Centre frequency, FREQ + CHIRP × WIDTH × 0.25 Hz, in units of 0.25 Hz (R63). -/
def pulseCentre (m : Sparse DVal) (p j : Nat) : Int :=
  4 * numIn m (K.pulseFreq p j) + numIn m (K.pulseChirp p j) * natIn m (K.pulseWidth p j)

/-- `x` lies within ± `d`. -/
def within (x : Int) (d : Nat) : Bool := x.natAbs ≤ d

/-- Every enabled sub-pulse of `p` starts and ends within ±400 MHz (R64). -/
def freqOk (m : Sparse DVal) (p : Nat) : Bool :=
  (pulsesOn m p).all fun j => within (pulseF0 m p j) 1600000000 && within (pulseF1 m p j) 1600000000

/-- Sub-pulse `j` is active at DAC sample `k` (R63). -/
def pulseAt (m : Sparse DVal) (p j k : Nat) : Bool :=
  let a := natIn m (K.pulseStart p j)
  pulseOn m p j && a ≤ k && k < a + natIn m (K.pulseWidth p j)

/-- Sum of AMPLITUDE over the sub-pulses active at sample `k` (R64). -/
def ampSum (m : Sparse DVal) (p k : Nat) : Nat :=
  (List.range 4).foldl (fun t j => if pulseAt m p j k then t + natIn m (K.pulseAmplitude p j) else t) 0

/-- The amplitude sum stays at or below 32,767 at every sample; it can only rise at a START (R64). -/
def ampOk (m : Sparse DVal) (p : Nat) : Bool :=
  (pulsesOn m p).all fun j => ampSum m p (natIn m (K.pulseStart p j)) ≤ 32767

/-- Pattern `p` fits spatial mode `mode` (R67, Table 3-1). -/
def fitsMode (m : Sparse DVal) (p mode : Nat) : Bool :=
  let on := pulsesOn m p
  if mode = 2 then
    natIn m (K.bands p) == 4 && on.length == 4
      && on.all (fun j => within (pulseF0 m p j - pulseCentre m p j) 200000000
          && within (pulseF1 m p j - pulseCentre m p j) 200000000)
      && on.all (fun i => on.all fun j => i == j || 500000000 ≤ (pulseCentre m p i - pulseCentre m p j).natAbs)
  else
    let span := if mode = 0 then 800000000 else 400000000
    let c := pulseCentre m p 0
    natIn m (K.bands p) == 1 && pulseOn m p 0
      && on.all fun j => within (pulseF0 m p j - c) span && within (pulseF1 m p j - c) span

/-- SEQ_LENGTH of a store. -/
def seqLen (m : Sparse DVal) : Nat := natIn m K.seqLength

/-- The pattern at a sequence position (R70). -/
def patternAt (m : Sparse DVal) (pos : Nat) : Nat := natIn m (K.seqEntry pos)

/-- The patterns named in the sequence. -/
def sequence (m : Sparse DVal) : List Nat := (List.range (seqLen m)).map (patternAt m)

/-- The band centre of band `b` of pattern `p` as a DAC frequency word (R72: to the frequency-word resolution). -/
def centreWord (m : Sparse DVal) (p b : Nat) : Int := roundDiv (pulseCentre m p b * 2 ^ 32) 8000000000

/-- Every pattern of the sequence has the same BANDS and band centres (R72). -/
def seqUniform (m : Sparse DVal) : Bool :=
  let p0 := patternAt m 0
  (sequence m).all fun p =>
    natIn m (K.bands p) == natIn m (K.bands p0)
      && (List.range (if natIn m (K.bands p0) = 4 then 4 else 1)).all fun b => centreWord m p b == centreWord m p0 b

/-- Every pattern of the sequence fits the mode of the store (R79). -/
def seqFits (m : Sparse DVal) : Bool := (sequence m).all fun p => fitsMode m p (natIn m K.spatialMode)

/-- The bell is long enough for the range (R14, R26). -/
def rangeFits (m : Sparse DVal) : Bool :=
  natIn m K.phasePoints * tsOf (natIn m K.spatialMode) + 8000 ≤ natIn m K.bellPeriod * 10

/-- The checks 0x02 to 0x06 of Table 3-3, and the pattern half of 0x07, in table order (R80); 0 if none fails.
`modeChanges` says whether the commit changes SPATIAL_MODE. -/
def excCheck (m : Sparse DVal) (modeChanges : Bool) : Nat :=
  if !rangeFits m then 2
  else if !(sequence m).all (freqOk m) then 3
  else if !(sequence m).all (ampOk m) then 4
  else if !modeChanges && !seqFits m then 5
  else if !seqUniform m then 6
  else if modeChanges && !seqFits m then 7
  else 0

/-- The geometry of a store: mode, N, G (R24). -/
def geometry (m : Sparse DVal) : Nat × Nat × Nat :=
  (natIn m K.spatialMode, natIn m K.phasePoints, natIn m K.gaugeSpacings)

/-- The keys of pattern `p` other than AMPLITUDE (R73). -/
def patternKeys (p : Nat) : List Key :=
  [K.bands p, K.gateMask p, K.subpulseEnable p]
    ++ (List.range 4).flatMap fun j =>
      [K.pulseStart p j, K.pulseWidth p j, K.pulseFreq p j, K.pulseChirp p j, K.pulsePhase p j]

/-- SEQ_LENGTH, or a SEQ_ENTRY below the new SEQ_LENGTH, differs between two stores (R70, R73). -/
def seqChanged (old new : Sparse DVal) : Bool :=
  seqLen old != seqLen new || (List.range (seqLen new)).any fun k => patternAt old k != patternAt new k

/-- A commit from `old` to `new` is a pattern change (R73). -/
def patternChanged (old new : Sparse DVal) : Bool :=
  seqChanged old new
    || (sequence new).any fun p => (patternKeys p).any fun k => decide (valIn old k ≠ valIn new k)

/-- A commit changes what R73 calls an adjustment: AMPLITUDE of a played pattern, the gate lead, lag or polarity, the full
scale, the I/Q corrections or the offsets. -/
def excAdjusted (old new : Sparse DVal) : Bool :=
  ([K.gateLead, K.gateLag, K.gatePolarity, K.dacFullScale, K.iqGain, K.iqPhase, K.offsetI, K.offsetQ]
    ++ (sequence new).flatMap fun p => (List.range 4).map fun j => K.pulseAmplitude p j).any
      fun k => decide (valIn old k ≠ valIn new k)

/-- Earliest START of the enabled sub-pulses (R69). -/
def startMin (m : Sparse DVal) (p : Nat) : Nat :=
  (pulsesOn m p).foldl (fun t j => min t (natIn m (K.pulseStart p j))) 22000

/-- Latest START + WIDTH of the enabled sub-pulses (R69). -/
def endMax (m : Sparse DVal) (p : Nat) : Nat :=
  (pulsesOn m p).foldl (fun t j => max t (natIn m (K.pulseStart p j) + natIn m (K.pulseWidth p j))) 0

/-- Points at the end of the range that a long pattern leaves incomplete (R68): extent beyond 1.024 µs, in DAC samples of
0.5 ns, over Ts. -/
def longPatternPoints (m : Sparse DVal) (p : Nat) : Nat :=
  let e := if (pulsesOn m p).isEmpty then 0 else endMax m p - startMin m p
  let ts := tsOf (natIn m K.spatialMode)
  (e - 2048 + 2 * ts - 1) / (2 * ts)

/-- The frequency word of FREQ (R63). -/
def freqWord (f : Int) : BitVec 32 := BitVec.ofInt 32 (roundDiv (f * 2 ^ 32) 2000000000)

/-- The chirp step per DAC sample (R63): CHIRP × 1.073741824, rounded. -/
def chirpStep (c : Int) : BitVec 32 := BitVec.ofInt 32 (roundDiv (c * 1073741824) 1000000000)

/-- Phase and frequency words of sub-pulse `j`, `k` samples after its START (R63): each sample adds the frequency word to
the phase word and then the chirp step to the frequency word, both modulo 2^32. -/
def pulseWords (m : Sparse DVal) (p j k : Nat) : BitVec 32 × BitVec 32 :=
  let f := freqWord (numIn m (K.pulseFreq p j))
  let c := chirpStep (numIn m (K.pulseChirp p j))
  (BitVec.ofNat 32 (natIn m (K.pulsePhase p j) * 65536) + BitVec.ofNat 32 k * f + BitVec.ofNat 32 (k * (k - 1) / 2) * c,
   f + BitVec.ofNat 32 k * c)

/-- The baseband sum z of sample `k` (R63) in units of 2^-95. -/
def baseband (m : Sparse DVal) (p k : Nat) : Int × Int :=
  (List.range 4).foldl (fun (z : Int × Int) j =>
    if pulseAt m p j k then
      let e := cosSin (pulseWords m p j (k - natIn m (K.pulseStart p j))).1
      let a : Int := natIn m (K.pulseAmplitude p j)
      (z.1 + a * e.1, z.2 + a * e.2)
    else z) (0, 0)

/-- sat12 of R63. -/
def sat12 (x : Int) : Int := clampInt (-2048) 2047 x

/-- The unlimited DAC codes of sample `k`: iq_correct of R65, scaling, rounding and offsets of R63. -/
def dacRaw (m : Sparse DVal) (p k : Nat) : Int × Int :=
  let (i, q) := baseband m p k
  -- Q × (1 + IQ_GAIN / 32,768), then Q + I × IQ_PHASE / 32,768, in units of 2^-110
  let q2 := q * (32768 + numIn m K.iqGain) + i * numIn m K.iqPhase
  (roundDiv (i * 2048) (2 ^ 95) + numIn m K.offsetI, roundDiv (q2 * 2048) (2 ^ 110) + numIn m K.offsetQ)

/-- The DAC codes of sample `k` of pattern `p` (R63). -/
def dacCodes (m : Sparse DVal) (p k : Nat) : Int × Int :=
  let (i, q) := dacRaw m p k
  (sat12 i, sat12 q)

/-- Codes that sat12 limits in samples `k`, `k` + 1, … (`n` of them) (R65). -/
def dacClips (m : Sparse DVal) (p : Nat) : Nat → Nat → Nat
  | _, 0 => 0
  | k, n + 1 =>
    let (i, q) := dacRaw m p k
    b2n (i != sat12 i) + b2n (q != sat12 q) + dacClips m p (k + 1) n

/-! ### The excitation unit as it plays -/

/-- The samples of the bell in progress that have been played are counted for what sat12 limits of them (R65): those before the present
instant, while the pattern plays. -/
def advanceDac (s : State) : State :=
  match s.bell.acquiring with
  | some b =>
    let m := b.settings
    let p := b.header.tag
    let k := 2 * (s.clk.now - b.startAt)
    let from_ := max s.exc.countedTo (startMin m p)
    let clips := if s.exc.playing then dacClips m p from_ (min k (endMax m p) - from_) else 0
    let s := { s with exc := { s.exc with clipCount := s.exc.clipCount + clips, countedTo := max s.exc.countedTo k } }
    s.onAcquiring fun b => b.flagIf (0 < clips) .excClipped
  | none => s

/-- What the excitation unit plays in a bell of settings `m` and tag `p` that starts, or started, at `start`. -/
def playOf (m : Sparse DVal) (p start : Nat) (x : Excitation) : BellPlay :=
  { settings := m, tag := p, startAt := start, playing := x.playing, idleI := x.idleI, idleQ := x.idleQ,
    gates := x.gates, gateFrom := x.gateFrom, gateTo := x.gateTo }

/-- Codes of sample `k` of a bell, I and Q (R63, R66). -/
def BellPlay.codes (x : BellPlay) (k : Nat) : Int × Int :=
  if x.playing && (List.range 4).any fun j => pulseAt x.settings x.tag j k then dacCodes x.settings x.tag k else (x.idleI, x.idleQ)

/-- Gate `g` is active at sample `k` of a bell (R69). -/
def BellPlay.gate (x : BellPlay) (g : Fin 4) (k : Nat) : Bool := x.gates.getLsbD g && decide (x.gateFrom ≤ k ∧ k < x.gateTo)

/-- The bell and the sample of it whose codes stand at the DAC pins, and whose gate levels stand at the gate pins: 24.0 ns after its place
in the bell, so that the bell before still stands there for the first 24.0 ns of a bell (R63, R69). -/
def pinSample (s : State) : Option (BellPlay × Nat) :=
  s.bell.acquiring.map fun b =>
    let x := if b.startAt + 24 ≤ s.clk.now then playOf b.settings b.header.tag b.startAt s.exc else s.exc.before
    (x, 2 * (s.clk.now - x.startAt - 24))

/-- Codes at the DAC pins, I and Q (R63, R66). -/
def dacPins (s : State) : Int × Int :=
  match pinSample s with
  | some (x, k) => x.codes k
  | none => (s.exc.idleI, s.exc.idleQ)

/-- Level of GATEg_OUT: high while active, or low while active if GATE_POLARITY says so (R69). -/
def gatePin (g : Fin 4) (s : State) : Bool :=
  let active := match pinSample s with
    | some (x, k) => x.gate g k
    | none => false
  active != bitOf (s.nat K.gatePolarity) g

end Sys2Proof.Machine
end

