-- ==== Sys2Proof/Machine/ChainOps.lean ====
section
/-!
DEFINITION. Machine/ChainOps.lean: the receive path as arithmetic (R107 to R125): front corrections, down-conversion, CIC,
matched filter, alignment and phase unit of one bell, from its converter codes; the clip map; the coefficient sets.  `m` is the store
as the bell started, which holds the offsets, gains and trims of that bell (R58, R109).
-/

namespace Sys2Proof.Machine

/-- Number of complex streams S of a mode (Table 1-2). -/
def streamsOf (mode : Nat) : Nat := if mode = 2 then 8 else 2

/-- Matched-filter length L of a mode (R117). -/
def tapsOf (mode : Nat) : Nat := if mode = 1 then 256 else 128

/-- The code of converter `c` in a sample (R107). -/
def codeOf (x : Sample) (c : Nat) : Int :=
  (if c = 0 then x.c0 else if c = 1 then x.c1 else if c = 2 then x.c2 else x.c3).toInt

/-- A clipped code (R107). -/
def codeClipped (v : Int) : Bool := v == -2048 || v == 2047

/-- sat16 of R108. -/
def sat16 (x : Int) : Int := clampInt (-32768) 32767 x

/-- Corrected sample of converter `c` before the I/Q correction, in units of 2^-30 of 1/16 code (R108). -/
def gainCorrect (m : Sparse DVal) (c : Nat) (code : Int) : Int :=
  (code * 16 - numIn m (K.offsetEst c)) * (32768 + numIn m (K.gainTrim c)) * numIn m (K.calGain c)

/-- I and Q of polarisation `p` after R108, before sat16, in 1/16 code. -/
def frontRaw (m : Sparse DVal) (p : Nat) (x : Sample) : Int × Int :=
  let i := gainCorrect m (2 * p) (codeOf x (2 * p))
  let q := gainCorrect m (2 * p + 1) (codeOf x (2 * p + 1))
  let q2 := q * (32768 + numIn m (K.rxiqGain p)) - i * numIn m (K.rxiqPhase p)
  (roundDiv i (2 ^ 30), roundDiv q2 (2 ^ 45))

/-- I and Q of polarisation `p` after R108. -/
def frontIQ (m : Sparse DVal) (p : Nat) (x : Sample) : Int × Int :=
  let (i, q) := frontRaw m p x
  (sat16 i, sat16 q)

/-- Converter `c`'s sample counts as clipped: its code, or what sat16 limits (R107, R108). -/
def sampleClipped (m : Sparse DVal) (c : Nat) (x : Sample) : Bool :=
  let (i, q) := frontRaw m (c / 2) x
  let v := if c % 2 = 0 then i else q
  codeClipped (codeOf x c) || v != sat16 v

/-- Clipped samples of converter `c` among `xs` (R111). -/
def clipCountOf (m : Sparse DVal) (c : Nat) (xs : List Sample) : Nat := xs.countP (sampleClipped m c)

/-- Points covered by one clip-map bit (R111). -/
def clipBlock (mode : Nat) : Nat := if mode = 2 then 256 else 1024

/-- The clip map bits that a clipped sample at point index `u` sets (R111): none if every index of its range lies outside 0 to N − 1. -/
def clipBits (mode n g : Nat) (u : Int) : Nat :=
  let lo := max 0 (u - tapsOf mode - 16)
  let hi := min ((n : Int) - 1) (u + g + 16)
  let bl := clipBlock mode
  if hi < lo then 0
  else bitsOf (fun b => decide ((lo.toNat / bl ≤ b) ∧ (b ≤ hi.toNat / bl))) 256

/-- The clip map of a bell: `j0` is its sample-zero index, `xs` the samples of its acquisition window (R111). -/
def clipMapOf (m : Sparse DVal) (mode n g : Nat) (j0 : Int) : Nat → List Sample → Nat
  | _, [] => 0
  | k, x :: xs =>
    let rest := clipMapOf m mode n g j0 (k + 1) xs
    if (List.range 4).any fun c => sampleClipped m c x then
      rest ||| clipBits mode n g ((k / tsOf mode : Nat) - j0)
    else rest

/-- The NCO word of band `b` of pattern `p` (R113). -/
def ncoWord (m : Sparse DVal) (p b : Nat) : Nat :=
  if b < (if natIn m (K.bands p) = 4 then 4 else 1) then
    ((roundDiv (pulseCentre m p b * 2 ^ 32) 4000000000) % (2 ^ 32 : Nat)).toNat
  else 0

/-- sat18 of R117. -/
def sat18 (x : Int) : Int := clampInt (-131072) 131071 x

/-- (I + iQ) × exp(−i × 2π × θ / 2^32) with θ's top 16 bits, rounded to 18 bits (R113).  The manual gives neither the entries of the sine
table nor the weight of the 18 bits: the model takes the exact function and the unit of the input, 1/16 code (DESIGN CHOICE, log
entry 8). -/
def mixDown (i q : Int) (th : Nat) : Int × Int :=
  let (c, s) := cosSin (BitVec.ofNat 32 (th / 65536 * 65536))
  (sat18 (roundDiv (i * c + q * s) (2 ^ 80)), sat18 (roundDiv (q * c - i * s) (2 ^ 80)))

/-- Down-converted samples of band word `w` and polarisation `p`; θ starts at 0 (R112, R113). -/
def downConvert (m : Sparse DVal) (p w : Nat) : Nat → List Sample → List (Int × Int)
  | _, [] => []
  | th, x :: xs =>
    let (i, q) := frontIQ m p x
    mixDown i q th :: downConvert m p w ((th + w) % 2 ^ 32) xs

/-- One pass of an integrator over a sequence, modulo 2^48 (R114). -/
def integrate : BitVec 48 → List (BitVec 48) → List (BitVec 48)
  | _, [] => []
  | a, x :: xs => (a + x) :: integrate (a + x) xs

/-- One comb with differential delay 1, modulo 2^48 (R114). -/
def comb : BitVec 48 → List (BitVec 48) → List (BitVec 48)
  | _, [] => []
  | a, x :: xs => (x - a) :: comb x xs

/-- Every `r`-th element from the first, with `r` − 1 skipped after each. -/
def decimate (r : Nat) : Nat → List (BitVec 48) → List (BitVec 48)
  | _, [] => []
  | 0, x :: xs => x :: decimate r (r - 1) xs
  | k + 1, _ :: xs => decimate r k xs

/-- Arithmetic right shift with rounding to nearest (R114): a tie, of which R114 says nothing, goes towards +∞, as adding a half before
the shift does (DESIGN CHOICE, log entry 22). -/
def shiftRound (x : Int) (k : Nat) : Int := if k = 0 then x else (x + 2 ^ (k - 1)) / 2 ^ k

/-- The CIC decimator of order 5 (R114): decimation factor `r` = 2 ^ `lg`. -/
def cic (lg : Nat) (xs : List Int) : List Int :=
  let i5 := integrate 0 (integrate 0 (integrate 0 (integrate 0 (integrate 0 (xs.map (BitVec.ofInt 48))))))
  let c5 := comb 0 (comb 0 (comb 0 (comb 0 (comb 0 (decimate (2 ^ lg) 0 i5)))))
  c5.map fun y => shiftRound y.toInt (5 * lg)

/-- The final values of the five integrators after a sequence (R114, R115). -/
def integratorsAfter (xs : List Int) : List (BitVec 48) :=
  let i1 := integrate 0 (xs.map (BitVec.ofInt 48))
  let i2 := integrate 0 i1
  let i3 := integrate 0 i2
  let i4 := integrate 0 i3
  let i5 := integrate 0 i4
  [i1, i2, i3, i4, i5].map fun l => l.getLastD 0

/-- log2 of the decimation factor of a mode (Table 5-2). -/
def lgR (mode : Nat) : Nat := if mode = 0 then 1 else if mode = 1 then 2 else 3

/-- Band and polarisation of stream `k` in a mode ("The receive path"). -/
def streamBand (mode k : Nat) : Nat := if mode = 2 then k / 2 else 0

/-! ### The droop compensator (R116) -/

/-- The 16 pairs of a symmetric 32-tap filter of which `h` gives the outer 15, in units of 2^-24: a DC gain of exactly 1 gives the last. -/
def closePairs (h : List Int) : List Int := h.take 15 ++ [2 ^ 23 - (h.take 15).foldl (· + ·) 0]

/-- exp(i × 2π × a / b) in fixed point. -/
def turn (a b : Nat) : Int × Int := cosSin (BitVec.ofNat 32 (a * 2 ^ 32 / b))

/-- At `k` hundredths of the stream rate, the CIC decimator of factor `r` and the compensator of pairs `h` together have a gain within
±0.05 dB, which is 0.994260 to 1.005773. -/
def flatAt (r : Nat) (h : List Int) (k : Nat) : Bool :=
  let gain := h.zipIdx.foldl (fun t (c, u) => t + 2 * c * (turn ((31 - 2 * u) * k) 200).1) 0
  let above := gain * (turn k 200).2 ^ 5 * 1000000
  let unit := 2 ^ 24 * fixOne * (r * (turn k (200 * r)).2) ^ 5
  decide (994260 * unit ≤ above ∧ above ≤ 1005773 * unit)

/-- They are flat across the passband of Table 5-2, which in every mode ends at 0.4 of the stream rate (R116): judged at `compPoints`
hundredths of it, up to the edge. -/
def compFlat (mode : Nat) (h : List Int) : Bool := compPoints.all fun k => flatAt (2 ^ lgR mode) h k
where
  compPoints : List Nat := (List.range 20).map fun k => 2 * (k + 1)

/-- Pairs that are flat, by mode. -/
def flatPairs (mode : Nat) : List Int :=
  closePairs (if mode = 0 then
      [-5281, 20444, -52914, 113696, -216661, 379761, -624358, 976816, -1468970, 2142303, -3053673, 4289823, -5992506, 8401411, -11831331]
    else if mode = 1 then
      [-7095, 28319, -74465, 161467, -309564, 544736, -897826, 1406307, -2114613, 3078691, -4371630, 6096979, -8404328, 11484659, -15308749]
    else
      [-7624, 30655, -80928, 175880, -337705, 594837, -981003, 1537018, -2311048, 3363182, -4770884, 6641574, -9124519, 12390343, -16299729])

/-- The pairs in the read-only memory of a mode: the manual gives what they do and not what they are, so they are whatever flat pairs
`Config.compTap` names, and `flatPairs` where it names none (log entry 8). -/
def compPairs (mode : Nat) : List Int :=
  let h := closePairs ((List.range 15).map (Config.compTap mode))
  if compFlat mode h then h else flatPairs mode

/-- Output `i` of the droop compensator of pairs `h` for a CIC output sequence, rounded and limited to 18 bits (R116). Its group delay of
15.5 samples is removed; which of the two whole samples beside it counts is the unit's (log entry 8). -/
def compensate (mode : Nat) (h : List Int) (xs : Array Int) (i : Nat) : Int :=
  let first := i + 15 + Config.compLead mode % 2
  sat18 (roundDiv ((List.range 32).foldl (fun a t =>
    if t ≤ first then a + h.getD (min t (31 - t)) 0 * xs.getD (first - t) 0 else a) 0) (2 ^ 24))

/-- The compensated samples of stream `k` of a bell that plays pattern `p`: I parts and Q parts (R113 to R116). -/
def compensated (m : Sparse DVal) (mode p k : Nat) (xs : List Sample) : List (Int × Int) :=
  let d := downConvert m (k % 2) (ncoWord m p (streamBand mode k)) 0 xs
  let ci := (cic (lgR mode) (d.map Prod.fst)).toArray
  let cq := (cic (lgR mode) (d.map Prod.snd)).toArray
  let h := compPairs mode
  (List.range ci.size).map fun i => (compensate mode h ci i, compensate mode h cq i)

/-! ### Coefficient sets -/

/-- The unit impulse of a mode: tap 0 of every stream 32,767 + 0i (R120). -/
def unitImpulse (mode : Nat) : List Byte :=
  slice 0 4096 ((List.range (streamsOf mode)).flatMap fun _ =>
    leBytes 2 32767 ++ zeros (4 * tapsOf mode - 2))

/-- A stored set: as written, or the unit impulse until COEF_SET is first written (R120). -/
def setOrImpulse (mode : Nat) (b : List Byte) : List Byte := if b.isEmpty then unitImpulse mode else b

/-- One I16 of a set, `o` bytes in. -/
def tapPart (b : List Byte) (o : Nat) : Int := toSigned 16 (fieldAt o 2 b)

/-- The mixed set of bell `j` of a fade of length `f` (R121), per part of each tap. -/
def mixSets (f j : Nat) (old new : List Byte) : List Byte :=
  (List.range 2048).flatMap fun q =>
    leBytes 2 (ofSigned 16 (roundDiv (((f : Int) - j - 1) * tapPart old (2 * q) + (j + 1) * tapPart new (2 * q)) f))

/-- The set in use for tag `t` in a bell with fade `f` of the tag, given the committed sets in store `m` (R120 to R122). -/
def setInUse (f : Option CoefFade) (m : Sparse DVal) (mode t : Nat) : List Byte :=
  match f with
  | some f => mixSets f.length f.bell f.old f.new
  | none => setOrImpulse mode (bytesIn m (K.coefSet t))

/-- Tap `t` of stream `k` of a set: real and imaginary parts (R120). -/
def tapOf (b : List Byte) (l k t : Nat) : Int × Int :=
  (tapPart b (4 * (k * l + t)), tapPart b (4 * (k * l + t) + 2))

/-- Stream sample `j` of a bell: 0 beyond what was taken, and before the bell start, whence samples enter as zero (R112). -/
def streamSample (x : Array (Int × Int)) (j : Int) : Int × Int := if j < 0 then (0, 0) else x.getD j.toNat (0, 0)

/-- The exact complex sum of R117 for output `i` of stream `k`. -/
def matchSum (b : List Byte) (l k : Nat) (x : Array (Int × Int)) (i : Int) : Int × Int :=
  (List.range l).foldl (fun (a : Int × Int) t =>
    let (hr, hi) := tapOf b l k t
    let (xr, xi) := streamSample x (i + t)
    (a.1 + hr * xr - hi * xi, a.2 + hr * xi + hi * xr)) (0, 0)

/-- Matched-filter output before sat18 (R117). -/
def matchRaw (b : List Byte) (l k sh : Nat) (x : Array (Int × Int)) (i : Int) : Int × Int :=
  let (r, q) := matchSum b l k x i
  (roundDiv r (2 ^ sh), roundDiv q (2 ^ sh))

/-- Matched-filter output (R117). -/
def matched (b : List Byte) (l k sh : Nat) (x : Array (Int × Int)) (i : Int) : Int × Int :=
  let (r, q) := matchRaw b l k sh x i
  (sat18 r, sat18 q)

/-! ### The phase unit -/

/-- wrap16 of R124. -/
def wrap16 (x : Int) : Int := toSigned 16 (ofSigned 16 x)

/-- The product of R124 of two aligned samples. -/
def gaugeProduct (z w : Int × Int) : Int × Int := (z.1 * w.1 + z.2 * w.2, z.2 * w.1 - z.1 * w.2)

/-- PHASE of a product (R124): 0 for a zero product, else the rounded argument to within the CORDIC's 1 LSB, which is free. -/
def phaseOf (p : Int × Int) : Int :=
  if p = (0, 0) then 0
  else wrap16 (((argFloor p.1 p.2 + 1) / 2 : Nat) + ((Config.phaseError p.1 p.2 % 3 : Nat) : Int) - 1)

/-- Integer square root by `fuel` halvings of an interval. -/
def isqrtIn : Nat → Nat → Nat → Nat → Nat
  | 0, lo, _, _ => lo
  | f + 1, lo, hi, x =>
    if hi ≤ lo + 1 then lo
    else
      let mid := (lo + hi) / 2
      if mid * mid ≤ x then isqrtIn f mid hi x else isqrtIn f lo mid x

/-- Integer square root of a number below 2^80. -/
def isqrt (x : Nat) : Nat := isqrtIn 48 0 (2 ^ 40) x

/-- MAG of a product (R125): |p|, to a free error of at most 1 part in 2^14, shifted by MAG_SHIFT, at most 65,535. -/
def magOf (sh : Nat) (p : Int × Int) : Nat :=
  let a := isqrt (p.1 * p.1 + p.2 * p.2).toNat
  let b := a / 16384
  min 65535 ((a - b + Config.magnitudeError p.1 p.2 % (2 * b + 1)) / 2 ^ sh)

/-- The arithmetic of a bell: what its phase unit needs. -/
structure BellSignal where
  mode : Nat
  points : Nat
  gauge : Nat
  j0 : Int
  mfShift : Nat
  magShift : Nat
  set : List Byte
  /-- Compensated samples by stream. -/
  streams : List (Array (Int × Int))

/-- The signal of a bell with its sample-zero index and its samples. -/
def bellSignal (b : BellRec) (j0 : Int) (xs : List Sample) : BellSignal :=
  let h := b.header
  let m := b.settings
  { mode := h.mode, points := h.points, gauge := h.gauge, j0, mfShift := natIn m K.mfShift,
    magShift := natIn m K.magShift, set := setInUse b.fade m h.mode h.tag,
    streams := (List.range (streamsOf h.mode)).map fun k => (compensated m h.mode h.tag k xs).toArray }

/-- The stream sample of point `i` (R112): j0 + i, which lies before the bell start where the launch does. -/
def BellSignal.sampleOf (b : BellSignal) (i : Nat) : Int := b.j0 + i

/-- The aligned sample of stream `k` at point `i` (R117, R119). -/
def BellSignal.aligned (b : BellSignal) (k i : Nat) : Int × Int :=
  matched b.set (tapsOf b.mode) k b.mfShift (b.streams.getD k #[]) (b.sampleOf i)

/-- The matched filter limits its output for stream sample `i` of stream `k` (R117). -/
def BellSignal.limited (b : BellSignal) (k i : Nat) : Nat :=
  let (r, q) := matchRaw b.set (tapsOf b.mode) k b.mfShift (b.streams.getD k #[]) i
  b2n (r != sat18 r || q != sat18 q)

/-- PHASE and MAG of point `i` of stream `k`; 0 and 0 below the gauge (R18, R124, R125). -/
def BellSignal.point (b : BellSignal) (k i : Nat) : Int × Nat :=
  if i < b.gauge then (0, 0)
  else
    let p := gaugeProduct (b.aligned k i) (b.aligned k (i - b.gauge))
    (phaseOf p, magOf b.magShift p)

/-- The point data record of point `i`, Table 1-6 (R27): phase then magnitude of each stream in order. -/
def BellSignal.pointRecord (b : BellSignal) (i : Nat) : List Byte :=
  (List.range (streamsOf b.mode)).flatMap fun k =>
    let (ph, mg) := b.point k i
    leBytes 2 (ofSigned 16 ph) ++ leBytes 2 mg

/-- Matched-filter outputs limited in the bell (R117, R126), over every stream sample of its acquisition window. -/
def BellSignal.saturations (b : BellSignal) : Nat :=
  (List.range (streamsOf b.mode)).foldl (fun t k =>
    (List.range (b.streams.getD k #[]).size).foldl (fun t i => t + b.limited k i) t) 0

/-- A magnitude of 65,535 occurs in the bell (SAT_SUMMARY[5], R137). -/
def BellSignal.fullScale (b : BellSignal) : Bool :=
  (List.range b.points).any fun i => (List.range (streamsOf b.mode)).any fun k => (b.point k i).2 == 65535

/-! ### Trace end -/

/-- Points in a trace-end block (R270). -/
def endBlock (mode : Nat) : Nat := if mode = 0 then 16 else if mode = 1 then 8 else 4

/-- The mean MAG of block `k` reaches `level` (R270), over its points below N and all streams. -/
def BellSignal.blockReaches (b : BellSignal) (level k : Nat) : Bool :=
  let w := endBlock b.mode
  let pts := (List.range w).filter fun x => k * w + x < b.points
  let total := pts.foldl (fun t x =>
    (List.range (streamsOf b.mode)).foldl (fun t q => t + (b.point q (k * w + x)).2) t) 0
  level * (pts.length * streamsOf b.mode) ≤ total

/-- Highest of `n` blocks whose mean reaches the level, plus one; 0 if none. -/
def BellSignal.lastBlock (b : BellSignal) (level : Nat) : Nat → Nat
  | 0 => 0
  | n + 1 => if b.blockReaches level n then n + 1 else b.lastBlock level n

/-- The trace end E(n) (R270). -/
def BellSignal.traceEnd (b : BellSignal) (level : Nat) : Nat :=
  min b.points (b.lastBlock level ((b.points + endBlock b.mode - 1) / endBlock b.mode) * endBlock b.mode)

/-- E × s in units of 10 µm (R9, R10). -/
def positionOf (mode e : Nat) : Nat := e * 20419 * (tsOf mode / 2)

/-- A position in mm, rounded to nearest. -/
def millimetres (x : Nat) : Nat := (x + 50) / 100

end Sys2Proof.Machine
end

