-- ==== Sys2Proof/Machine/CaptureOps.lean ====
section
/-!
DEFINITION. Machine/CaptureOps.lean: the raw capture tap (R127 to R130).
-/

namespace Sys2Proof.Machine

/-- Entry bytes and streams of a capture point in a mode (Table 5-5). -/
def capEntryBytes (point : Nat) : Nat := if point = 6 then 4 else 8
def capStreams (point mode : Nat) : Nat := if point = 0 then 1 else if point = 1 then 2 else streamsOf mode

/-- Entry period in ns (Table 5-5). -/
def capPeriod (point mode : Nat) : Nat := if point ≤ 1 then 1 else tsOf mode

/-- j0 of a bell (R53): the held sample-zero index that its header's offset and residual give. -/
def zeroIndex (b : BellRec) : Int :=
  (b.header.launchOffset + 16 * natIn b.settings K.receivePathDelay + b.header.residual) / (16000 * tsOf b.header.mode : Nat)

/-- The first entry's index on the entry grid: a point index, or the first sample at or after CAP_OFFSET: of an offset that is no multiple
of the entry period R127 says nothing, the model takes the next entry, and START of the header stays as written (DESIGN CHOICE, log
entry 72). -/
def capFirst (c : Capture) (mode : Nat) : Nat :=
  if 5 ≤ c.point then c.offset else (c.offset + capPeriod c.point mode - 1) / capPeriod c.point mode

/-- Entries per stream before the next bell start, or before point N (R130). -/
def capRoom (c : Capture) (b : BellRec) : Nat :=
  let p := capPeriod c.point b.header.mode
  (if 5 ≤ c.point then b.header.points else (b.period + p - 1) / p) - capFirst c b.header.mode

/-- An entry of two 32-bit parts. -/
def pairEntry (z : Int × Int) : List Byte := leBytes 4 (ofSigned 32 z.1) ++ leBytes 4 (ofSigned 32 z.2)

/-- Entry `i` of stream `k`, on the point's own grid, of bell `b` with its signal `g` and its converter codes `xs` (Table 5-5). -/
def capEntry (c : Capture) (b : BellRec) (g : BellSignal) (xs : List Sample) (k i : Nat) : List Byte :=
  let m := b.settings
  let mode := b.header.mode
  let p := b.header.tag
  if c.point = 0 then
    let x := xs.getD i ⟨0, 0, 0, 0⟩
    (List.range 4).flatMap fun q => leBytes 2 (ofSigned 16 (codeOf x q))
  else if c.point = 1 then
    pairEntry ((downConvert m k (ncoWord m p c.band) 0 (xs.take (i + 1))).getD i (0, 0))
  else if c.point = 2 then
    let d := downConvert m (k % 2) (ncoWord m p (streamBand mode k)) 0 xs
    pairEntry ((cic (lgR mode) (d.map Prod.fst)).getD i 0, (cic (lgR mode) (d.map Prod.snd)).getD i 0)
  else if c.point = 3 then pairEntry ((g.streams.getD k #[]).getD i (0, 0))
  else if c.point = 4 then pairEntry (matched g.set (tapsOf mode) k g.mfShift (g.streams.getD k #[]) i)
  else if c.point = 5 then pairEntry (g.aligned k i)
  else
    let (ph, mg) := g.point k i
    leBytes 2 (ofSigned 16 ph) ++ leBytes 2 mg

/-- Instant of entry index `i` in ps from the bell start (R129). -/
def capInstant (c : Capture) (b : BellRec) (k i : Nat) : Int :=
  let mode := b.header.mode
  (if 5 ≤ c.point then zeroIndex b + i else (i : Int)) * (capPeriod c.point mode * 1000 : Nat)
    + (if c.point = 4 then k * 2000 else 0 : Nat)

/-- The capture's record with `n` entries per stream of bell `b`, whose converter codes are `xs` (R128). Points of the bell come of the
codes of its acquisition window alone. -/
def capRecord (s : State) (c : Capture) (b : BellRec) (xs : List Sample) (n : Nat) (overrun : Bool) : List Byte :=
  let h := b.header
  let sc := capStreams c.point h.mode
  let f := capFirst c h.mode
  let g := bellSignal b (zeroIndex b) (if 5 ≤ c.point then xs.take (windowLength h) else xs)
  let p := capPeriod c.point h.mode
  -- converter samples within the span
  let lo : Int := if 5 ≤ c.point then (zeroIndex b + f) * p else (f * p : Nat)
  let span := (xs.drop lo.toNat).take (n * p)
  let clipped := (List.range 4).any fun q => 0 < clipCountOf b.settings q span
  let flags := b2n overrun + 2 * b2n clipped + 4 * b2n (decide (capRoom c b < c.length))
  leBytes 8 h.number ++ leBytes 1 c.point ++ leBytes 1 sc ++ leBytes 1 (capEntryBytes c.point)
    ++ leBytes 1 (if c.point = 1 then c.band else 0) ++ leBytes 4 (p * 1000) ++ leBytes 4 n ++ leBytes 4 flags
    ++ ((List.range 8).flatMap fun k =>
          let t := if k < sc then capInstant c b k f else 0
          -- an instant beyond I32 is a value that the manual does not state
          leBytes 4 (if t < 2147483648 then ofSigned 32 t else { s with drawn := s.drawn + k }.free (2 ^ 32)))
    ++ leBytes 4 c.offset ++ zeros 4
    ++ ((List.range n).flatMap fun j => (List.range sc).flatMap fun k => capEntry c b g xs k (f + j))

/-- The bell being captured: kept as its acquisition window closed, or still being acquired. -/
def capturedBell (s : State) : Option BellRec :=
  match s.capture.taken with
  | some b => some b
  | none => s.bell.acquiring.filter fun a => a.header.number == s.capture.capturing

/-- A converter code that no command brings. -/
def freeCode (s : State) (i : Nat) : BitVec 12 := BitVec.ofNat 12 ({ s with drawn := s.drawn + i }.free 4096)

/-- The converter codes of the captured bell, one per ns, to the next bell start (R130): those of its acquisition window, and after it
free ones, since no command brings them (log entry 77). -/
def capturedSamples (b : BellRec) (s : State) : List Sample :=
  let xs := s.capture.samples
  xs ++ (List.range (b.period - xs.length)).map fun i =>
    ⟨freeCode s (8 + 4 * i), freeCode s (9 + 4 * i), freeCode s (10 + 4 * i), freeCode s (11 + 4 * i)⟩

/-- Entries per stream that a capture of bell `b` can hold by now: those of points 5 and 6 follow the choice of sample zero (R112). -/
def capWritten (c : Capture) (b : BellRec) : Nat :=
  if 5 ≤ c.point && !b.launchFixed then 0 else min c.length (capRoom c b)

/-- The acquisition window of the captured bell closes: it and its converter codes are kept for the record. -/
def keepCaptured (b : BellRec) (xs : List Sample) (s : State) : State :=
  if s.nat K.capState = 2 && b.header.number == s.capture.capturing then
    { s with capture := { s.capture with taken := some b, samples := xs } }
  else s

/-- Converter codes drawn for a record at most: those of one bell period. -/
def captureLength (s : State) : Nat := ((capturedBell s).map BellRec.period).getD 0

/-- A capture ends in state `v` with `record` (R130). -/
def endCapture (v : Nat) (record : List Byte) (s : State) : State :=
  let s := ({ s with drawn := s.drawn + 8 + 4 * captureLength s }.setNum K.capState v).bumpGeneration K.capData
  -- the record's lines are written, and what was queued for them before (R314, R316)
  let s := fillBarn (areaBase s 2) record.length s
  raise 21 { s with capture := { s.capture with record, taken := none, samples := [] } }

/-- Arm a capture with the settings as they stand; the previous record is overwritten (R130). -/
def armCapture (s : State) : State :=
  let s := (s.setNum K.capState 1).bumpGeneration K.capData
  { s with capture := { s.capture with
    record := [], taken := none, samples := [], armedAt := s.clk.now, bell := s.nat K.capBell, point := s.nat K.capPoint, band := s.nat K.capBand,
    offset := s.nat K.capOffset, length := s.nat K.capLength } }

/-- Bell `n` starts at `start`: an armed capture of it begins (R130). -/
def captureBellStart (n start : Nat) (s : State) : State :=
  let c := s.capture
  if s.nat K.capState = 1 && (if c.bell = 0 then decide (c.armedAt + 1000 ≤ start) else c.bell == n) then
    { s.setNum K.capState 2 with capture := { c with capturing := n, taken := none, samples := [] } }
  else s

/-- Bells stop before the capture bell (R130). -/
def cancelCapture (s : State) : State :=
  if s.nat K.capState = 1 then raise 21 (s.setNum K.capState 5) else s

end Sys2Proof.Machine
end

