-- ==== Sys2Proof/Machine/TimeOps.lean ====
section
/-!
DEFINITION. Machine/TimeOps.lean: the time-source servo (R41, R42), edge stamps and their queues (R43 to R51), the launch
instant and sample zero (R52, R53).
-/

namespace Sys2Proof.Machine

/-! ### The servo -/

/-- Move TIME_STATE; a change is an event of source 20 (R42). -/
def setTimeState (v : Nat) (s : State) : State :=
  if s.nat K.timeState = v then s else raise 20 (s.setNum K.timeState v)

/-- Start an acquisition: "acquiring", counts afresh (R42). The 2.0 s of R42 go on from the last accepted measurement, also where 8 edges
outside the window end "coasting": the manual does not say whether they begin anew (DESIGN CHOICE, log entry 98). -/
def startAcquiring (s : State) : State :=
  setTimeState 1 { s with servo := { s.servo with within50 := 0, beyond200 := 0, outside := 0, stepped := false } }

/-- The trim after a measurement: the manual gives its limit, SLEW_LIMIT, and not its value (R30): a free value. -/
def newTrim (s : State) : State :=
  let l := s.nat K.slewLimit
  (s.draw).setNum K.freqTrim ((s.free (2 * l + 1) : Nat) - (l : Int))

/-- Device time stepped back by `x` ns, at the edges passed and to come (R42). -/
def Clock.step (c : Clock) (x : Int) : Clock :=
  { c with devTime := ((c.devTime : Int) - x).toNat, devNext := c.devNext.map fun (t : Nat) => ((t : Int) - x).toNat }

/-- One offset measurement of `x` / 16 ps (R41, R42): positive while device time is ahead. TIME_OFFSET counts whole ps while a stamp
counts 7.8125 ps: the manual gives no rounding, the model takes the nearest ps, halves away from zero, and a step of whole REFCLK
periods likewise (DESIGN CHOICE, log entry 65). R42 keeps the last trim in "coasting" while R41 corrects the offset of an edge accepted
there: the model keeps the trim until such an edge comes and takes a new one for it (DESIGN CHOICE, log entry 97). -/
def measureOffset (x : Int) (s : State) : State :=
  let s := s.setNum K.timeOffset (roundDiv x 16)
  let a := x.natAbs
  let v := { s.servo with
    lastMeasure := s.clk.now, within50 := if a ≤ 800000 then s.servo.within50 + 1 else 0,
    beyond200 := if 3200000 < a then s.servo.beyond200 + 1 else 0 }
  let s := newTrim { s with servo := v }
  let s := if s.stopped && s.nat K.timeState == 1 && !v.stepped && decide (16000000 < a) then
      { s with
        clk := s.clk.step (10 * roundDiv x 160000),
        servo := { s.servo with stepped := true } }
    else s
  if s.nat K.timeState = 2 then (if 2 ≤ v.beyond200 then startAcquiring s else s)
  else if 8 ≤ v.within50 then setTimeState 2 s
  else s

/-- Select a time source (R42). -/
def selectSource (v : Nat) (s : State) : State :=
  let s := { s.setNum K.timeSource v with servo := { s.servo with lastMeasure := s.clk.now } }
  if v = 0 then setTimeState 0 s else startAcquiring s

/-- A PPS_IN edge `frac` / 128 ns after now (R41). -/
def ppsEdge (frac : Nat) (s : State) : State :=
  let dev : Int := ((s.clk.devTime + s.clk.now % 10) * 16000 + frac * 125 : Nat)
  let x := dev - ((s.nat K.ppsNextSecond * 16000000000000 : Nat) + s.num K.ppsDelay * 16)
  if s.nat K.timeSource ≠ 1 then s
  else if s.nat K.timeState = 1 || x.natAbs ≤ 16000000000 then
    let s := { s with servo := { s.servo with outside := 0 } }
    measureOffset x (s.setNum K.ppsNextSecond ((s.nat K.ppsNextSecond + 1) % 2 ^ 64 : Nat))
  else if s.nat K.timeState = 3 then
    let n := s.servo.outside + 1
    let s := { s with servo := { s.servo with outside := n } }
    if 8 ≤ n then startAcquiring s else s
  else s

/-! ### Stamps -/

/-- Instant of the last bell start (or of reset) from which the coarse count runs, in 1/128 ns (R45, R46). -/
def coarseOrigin (s : State) : Nat := if s.bell.everStarted then 128 * s.bell.startAt else 0

/-- BELL field of a stamp (R45, R46). -/
def stampBell (s : State) : Nat := if s.bell.everStarted then s.bell.number % 2 ^ 24 else 0xFFFFFF

/-- The stamp of an edge `t` 128ths of a ns after reset (Table 2-1). -/
def stampOf (c : Nat) (rising lost : Bool) (t : Nat) (s : State) : BitVec 64 :=
  let d := t - coarseOrigin s
  let r := s.nat K.refState
  BitVec.ofNat 64 (stampBell s * 2 ^ 40 + d / 320 % 2 ^ 22 * 2 ^ 18 + d % 320 * 2 ^ 9 + c * 2 ^ 6 + b2n rising * 2 ^ 5
    + b2n (decide (2 ^ 22 ≤ d / 320)) * 2 ^ 4 + b2n lost * 2 ^ 3 + b2n (r == 0 || r == 3) * 2 ^ 2
    + b2n (r == 3 || r == 4) * 2 + b2n (!s.running))

/-- Count `n` lost stamps of channel `c` (R44). -/
def loseStamps (c : Fin 8) (n : Nat) (s : State) : State :=
  if n = 0 then s
  else (s.onTdc c fun x => { x with lostSticky := true, markLost := true }).addSat 32 (K.lostCount c) n

/-- A recorded edge's stamp enters the queue or is lost (R44); the watermark interrupts (R50), a host reads on (R388). -/
def queueStamp (c : Fin 8) (rising : Bool) (t : Nat) (s : State) : State :=
  let x := s.tdc.chan[c]
  if x.queue.length < 512 then
    let s := s.onTdc c fun x => { x with queue := x.queue ++ [stampOf c rising x.markLost t s], markLost := false }
    let s := raiseIf (x.queue.length + 1 == s.nat (K.watermark c)) c s
    packStamps c (1 + (s.posted (tdcChannel c)).length) s
  else loseStamps c 1 s

/-- The launch that an edge `d` 128ths of a ns after the bell start tells of, in sixteenths of a ps from the bell start: 1/128 ns is
125 of them (R45, R52). -/
def edgeLaunch (b : BellRec) (d : Nat) : Int := (d : Int) * 125 - 16 * natIn b.settings K.launchDelay

/-- First point whose backscatter arrives after the window has closed, N if none (R16): a launch within the allowance leaves none, so
what counts is the launch that the first edge after an empty launch window tells of (DEDUCED, log entry 66). -/
def lateFrom (b : BellRec) : Nat :=
  let h := b.header
  match b.lateEdge with
  | some d =>
    let room := windowLength h * 16000 - edgeLaunch b d - 16 * natIn b.settings K.receivePathDelay
    (clampInt 0 h.points (room / (16000 * tsOf h.mode : Nat) + 1)).toNat
  | none => h.points

/-- The points that come after the window's close are marked "truncated" in the bell's header (R16). -/
def BellRec.truncateLate (b : BellRec) : BellRec :=
  (b.flagIf (lateFrom b < b.header.points) .truncated).onHeader fun h => { h with truncFrom := min h.truncFrom (lateFrom b) }

/-- Channel 0's edge is the launch edge of the bell, if it is the first in its launch window (R52); the first after a window without
one tells of a launch later than the allowance (R16), whether the acquisition window is still open or has closed. -/
def noteLaunch (t : Nat) (s : State) : State :=
  s.onAcquiring fun b =>
    let d := t - 128 * b.startAt
    if b.launchEdge.isSome then b
    else if d ≤ 256000 then { b with launchEdge := some d }
    else if b.lateEdge.isSome then b
    else if b.windowClosed then BellRec.truncateLate { b with lateEdge := some d } else { b with lateEdge := some d }

/-- An edge at `t` falls within 5.0 ns of the last recorded edge (R43). -/
def TdcChan.tooClose (x : TdcChan) (t : Nat) : Bool :=
  match x.lastEdge with
  | some u => decide (t < u + 640)
  | none => false

/-- An edge on channel `c` (R43): selected by TDC_ENABLE and SLOPE, at least 5.0 ns after the last recorded one. -/
def tdcEdge (c : Fin 8) (rising : Bool) (t : Nat) (s : State) : State :=
  let slope := s.nat (K.slope c)
  if !(bitOf (s.nat K.tdcEnable) c && bitOf slope (if rising then 0 else 1)) then s
  else
    if s.tdc.chan[c].tooClose t then s.inc (K.closeCount c)
    else
      let s := s.onTdc c fun x => { x with lastEdge := some t }
      let s := s.incWrap 64 (K.stampCount c)
      let s := if c = 0 then noteLaunch t s else s
      queueStamp c rising t s

/-- TDC_POP_LO of channel `c` (R50). -/
def popLo (c : Fin 8) (s : State) : State :=
  if s.nat (K.owner c) ≠ 0 then { s with tdc := { s.tdc with lastRead := 0xFFFFFFFF } }
  else
    match s.tdc.chan[c].queue with
    | q :: qs =>
      let s := s.onTdc c fun x => { x with queue := qs, popHi := q.extractLsb' 32 32 }
      { s with tdc := { s.tdc with lastRead := q.extractLsb' 0 32 } }
    | [] =>
      let s := s.onTdc c fun x => { x with popHi := 0xFFFFFFFF }
      { s with tdc := { s.tdc with lastRead := 0xFFFFFFFF } }

/-- TDC_POP_HI of channel `c` as it reads (R50). -/
def popHi (c : Fin 8) (s : State) : BitVec 32 := if s.nat (K.owner c) ≠ 0 then 0xFFFFFFFF else s.tdc.chan[c].popHi

/-- TDC_STATUS of channel `c` (Table 2-3). -/
def tdcStatus (c : Fin 8) (s : State) : Nat :=
  let x := s.tdc.chan[c]
  b2n (s.nat (K.owner c) == 0) * 2 ^ 31 + b2n x.lostSticky * 2 ^ 17 + b2n (!x.queue.isEmpty) * 2 ^ 16 + x.queue.length

/-- OWNER changes: the host's oldest buffer completes and every queued stamp is lost (R44, R388). -/
def setOwner (c : Fin 8) (v : Nat) (s : State) : State :=
  if s.nat (K.owner c) = v then s
  else
    let n := s.tdc.chan[c].queue.length
    let s := if s.nat (K.owner c) = 1 then returnStamps c s else s
    loseStamps c n ((s.onTdc c fun x => { x with queue := [] }).setNum (K.owner c) v)

/-! ### Launch -/

/-- T_launch of a bell from its start in sixteenths of a ps, and whether the bell carries "no-launch" (R52). -/
def launchOffset (b : BellRec) (s : State) : Int × Bool :=
  match b.launchEdge with
  | some d => (edgeLaunch b d, false)
  | none =>
    match s.launch.offset with
    | some x => (x, true)
    | none => (16 * natIn b.settings K.launchNominal, true)

/-- Stream sample nearest to an instant `x` sixteenths of a ps from the bell start, ties away from zero (R53). -/
def nearestSample (mode : Nat) (x : Int) : Int := roundDiv x (16000 * tsOf mode)

/-- Sample zero of a bell, its residual in sixteenths of a ps, and whether it moved (R53). -/
def sampleZero (b : BellRec) (off : Int) (s : State) : Int × Int × Bool :=
  let ts : Int := 16000 * tsOf b.header.mode
  let ideal := off + 16 * natIn b.settings K.receivePathDelay
  let fresh := nearestSample b.header.mode ideal
  match s.launch.held with
  | some h =>
    if s.launch.heldMode ≠ b.header.mode then (fresh, fresh * ts - ideal, false)
    else if 4 * (ideal - h * ts).natAbs ≤ 3 * ts.natAbs then (h, h * ts - ideal, false)
    else (fresh, fresh * ts - ideal, true)
  | none => (fresh, fresh * ts - ideal, false)

/-- Sixteenths of a ps as whole ps: the manual gives no rounding, the model takes the nearest, halves away from zero (DESIGN CHOICE,
log entry 65). -/
def wholePs (x : Int) : Int := roundDiv x 16

/-- t_event of R54 in ps of device time, for point `i` of a bell of `time` ns, launch offset `off` sixteenths of a ps, gauge and
mode. -/
def eventPs (time : Nat) (off : Int) (mode gauge i : Nat) : Int :=
  wholePs (((time : Int) * 1000 + (2 * (i : Int) - gauge) * tsOf mode * 250) * 16 + off)

end Sys2Proof.Machine
end

