-- ==== Sys2Proof/Machine/DetectOps.lean ====
section
/-!
DEFINITION. Machine/DetectOps.lean: header bytes (R234), zones and detectors (R242 to R246), triggers (R247 to R249), harvests
and the granary (R240, R241, R250 to R253).
-/

namespace Sys2Proof.Machine

/-! ### Header bytes -/

/-- Bytes 0 to 127 of a header with the given FLAGS (Table 9-1). -/
def headerLow (h : Header) (flags : Nat) : List Byte :=
  leBytes 8 h.number ++ leBytes 8 h.time ++ leBytes 4 h.launchWord ++ leBytes 4 (ofSigned 32 (wholePs h.residual))
    ++ leBytes 8 h.csn ++ leBytes 1 h.mode ++ leBytes 1 h.gauge ++ leBytes 1 h.tag ++ leBytes 1 h.seqPos
    ++ leBytes 4 h.points ++ leBytes 4 flags ++ leBytes 1 h.variant ++ leBytes 1 h.level ++ leBytes 1 h.settlingRemain
    ++ zeros 1 ++ leBytes 4 h.truncFrom ++ leBytes 4 h.darkFrom ++ zeros 8 ++ leBytes 32 h.clipMap.toNat ++ zeros 32

/-- The released header, 256 bytes (R234). -/
def headerBytes (h : Header) : List Byte :=
  headerLow h h.flags.toNat ++ leBytes 32 h.overrunMap.toNat ++ leBytes 4 h.invalidPoints ++ leBytes 4 h.triggers
    ++ leBytes 8 h.releaseTime ++ zeros 80

/-- The copy that the fabric writes at HEADER_OFF: bytes 0 to 127, FLAGS bits 13 and 15 read as 0 (R234). -/
def headerCopy (h : Header) : List Byte := headerLow h (h.flags &&& ~~~0xA000#32).toNat

/-! ### The granary -/

/-- The image of the active timetable (R200); none is active while TT_ACTIVE_SLOT is 0xFF. -/
def activeImage (s : State) : List Byte := s.image (s.nat K.ttActiveSlot)

/-- Barn address of the granary record of bell `b` of the image in `slot` (R240). -/
def granaryAddr (s : State) (slot b : Nat) : Option Nat :=
  let img := s.image slot
  (granaryRegion img).map fun (i, _) =>
    regionBase s slot i + b % (max 1 (granarySlotsOf img)) * granarySlotBytes (imgPoints img)

/-- Restart the granary with bell `n` (R241). -/
def restartGranary (n : Nat) (s : State) : State :=
  { s.setNum K.granaryFirstBell n with granary := { s.granary with headers := [] } }

/-- Keep a released header in the granary header table, in the barn's ring area (R241, R308). -/
def keepHeader (h : Header) (s : State) : State :=
  let r := granarySlotsOf (s.image s.array.slot)
  if r = 0 then s
  else
    let s := writeBarn (headerTable s s.array.slot + 256 * (h.number % r)) (headerBytes h) s
    { s with granary := { s.granary with headers := sparseSet (fun _ => none) s.granary.headers (h.number % r) (some h) } }

/-- The released header of bell `b`, if its slot still holds usable history (R241). -/
def granaryHeader (s : State) (b : Nat) : Option Header :=
  match sparseGet (fun _ => none) s.granary.headers (b % (max 1 (granarySlotsOf (s.image s.array.slot)))) with
  | some h => if h.number = b && decide (s.nat K.granaryFirstBell ≤ b) then some h else none
  | none => none

/-! ### Zones and detectors -/

/-- The 32 bytes of zone `z` in store `m` (R242). -/
def zoneDef (m : Sparse DVal) (z : Nat) : List Byte := slice (32 * (z % 64)) 32 (bytesIn m (K.zoneBlock (z / 64)))

/-- The fields of Table 9-4. -/
def zFirst (b : List Byte) : Nat := fieldAt 0 4 b
def zCount (b : List Byte) : Nat := fieldAt 4 4 b
def zFlag (b : List Byte) (i : Nat) : Bool := bitOf (fieldAt 8 1 b) i
def zAlarm (b : List Byte) : Nat := fieldAt 9 1 b
def zMargin (b : List Byte) : Nat := fieldAt 10 2 b
def zHoldoff (b : List Byte) : Nat := fieldAt 12 4 b
def zAuto (b : List Byte) : Nat := fieldAt 16 4 b
def zPre (b : List Byte) : Nat := fieldAt 20 2 b
def zPost (b : List Byte) : Nat := fieldAt 22 2 b

/-- The 16 bytes of detector `d` of zone `z` in store `m` (R243). -/
def detDef (m : Sparse DVal) (z d : Nat) : List Byte :=
  slice (16 * (4 * (z % 64) + d)) 16 (bytesIn m (K.detectorBlock (z / 64)))

/-- A zone's extent goes beyond `n` points: it is suspended (R246). -/
def zSuspended (b : List Byte) (n : Nat) : Bool := zFlag b 0 && zCount b != 0 && decide (n < zFirst b + zCount b)

/-- A zone is evaluated: enabled, not empty, not suspended (R242, R246). -/
def zLive (b : List Byte) (n : Nat) : Bool := zFlag b 0 && zCount b != 0 && decide (zFirst b + zCount b ≤ n)

/-- The zones of a store whose block is not empty. -/
def zonesOf (m : Sparse DVal) : List Nat :=
  (List.range 64).flatMap fun k => if (bytesIn m (K.zoneBlock k)).isEmpty then [] else (List.range 64).map (64 * k + ·)

/-- ZONES_SUSPENDED of a store (R246). -/
def zonesSuspended (m : Sparse DVal) : Nat := (zonesOf m).countP fun z => zSuspended (zoneDef m z) (natIn m K.phasePoints)

/-- in_limits of R245. -/
def inLimits (b : List Byte) (v : Nat) : Bool :=
  (decide (fieldAt 12 2 b ≤ v ∧ v ≤ fieldAt 14 2 b)) != bitOf (fieldAt 2 1 b) 1

/-- One valid sample `x` of a detector with definition `b` (R245): its new state, and whether it fires. -/
def detStep (b : List Byte) (x : Int) (d : DetState) : DetState × Bool :=
  let sg : Int := if bitOf (fieldAt 2 1 b) 0 then -1 else 1
  let x := sg * x
  let lo := sg * toSigned 32 (fieldAt 4 4 b)
  let hi := sg * toSigned 32 (fieldAt 8 4 b)
  match fieldAt 0 1 b with
  | 1 =>
    let fires := !d.above && decide (lo ≤ x)
    let up := d.above || decide (lo ≤ x)
    ({ d with above := up && !(decide (x < hi)) }, fires)
  | 2 =>
    if lo ≤ x then ({ d with w := d.w + 1 }, false)
    else ({ d with w := 0 }, decide (0 < d.w) && inLimits b d.w)
  | 3 =>
    if lo ≤ x then ({ d with inp := true, reached := d.reached || decide (hi ≤ x) }, false)
    else if d.inp then ({ d with inp := false, reached := false }, !d.reached)
    else (d, false)
  | 4 =>
    if x < lo then ({ d with s := d.s + 1 }, d.s + 1 == fieldAt 12 2 b) else ({ d with s := 0 }, false)
  | 5 =>
    if x < lo then ({ d with t := 0, armed := true }, false)
    else if d.armed then
      let t := d.t + 1
      if hi ≤ x then ({ d with t, armed := false }, inLimits b t) else ({ d with t }, false)
    else (d, false)
  | _ => (d, false)

/-- The code of an invalid statistic (R239). -/
def statInvalid : Int := toSigned 32 0x80008000

/-! ### Detection state -/

/-- A zone's trigger state. -/
def zoneState (s : State) (z : Nat) : ZoneState := sparseGet (fun _ => {}) s.detect.zones z

/-- Change a zone's trigger state. -/
def onZone (z : Nat) (f : ZoneState → ZoneState) (s : State) : State :=
  { s with detect := { s.detect with zones := sparseSet (fun _ => {}) s.detect.zones z (f (zoneState s z)) } }

/-- Change a detector's state: detector `d` of zone `z` stands at 4 z + d. -/
def setDet (z d : Nat) (v : DetState) (s : State) : State :=
  { s with detect := { s.detect with dets := sparseSet (fun _ => {}) s.detect.dets (4 * z + d) v } }

/-- What a change from the store `old` to `new` that takes effect at bell `m` clears before the evaluation of bell `m` (R246, R259). -/
def renewalOf (m : Nat) (old new : Sparse DVal) : Renewal :=
  let blocks := (List.range 64).filter fun k =>
    valIn old (K.zoneBlock k) != valIn new (K.zoneBlock k) || valIn old (K.detectorBlock k) != valIn new (K.detectorBlock k)
  let zones := blocks.flatMap fun k => (List.range 64).map (64 * k + ·)
  { bell := m, all := numIn old K.detectEnable == 0 && numIn new K.detectEnable == 1,
    zones := zones.filter fun z => zoneDef old z != zoneDef new z,
    dets := zones.flatMap fun z => ((List.range 4).filter fun d => detDef old z d != detDef new z d).map (4 * z + ·) }

/-- The clear happens. -/
def renew (s : State) (r : Renewal) : State :=
  let s := { s with detect := { s.detect with dets := if r.all then [] else sparseErase r.dets.contains s.detect.dets } }
  r.zones.foldl (fun (s : State) (z : Nat) =>
    onZone z (fun x => { x with holdFrom := none, holdEvents := 0, autoCount := 0 }) s) s

/-- A clear falls due with bell `m`, of which the evaluation is still to come; with bells stopped (`m` none) every bell has been
evaluated, and it happens at once. -/
def oweRenewal (m : Option Nat) (r : Renewal) (s : State) : State :=
  if m.isSome then { s with detect := { s.detect with renewals := s.detect.renewals ++ [r] } } else renew s r

/-- Every detector is cleared before the evaluation of bell `n` (R246): a bell start, a bell switch or a geometry change. -/
def clearDetectors (n : Nat) (s : State) : State :=
  { s with detect := { s.detect with renewals := s.detect.renewals ++ [{ bell := n, all := true }] } }

/-- The clears that the evaluation of bell `n` waits for happen. -/
def takeRenewals (n : Nat) (s : State) : State :=
  let (due, later) := s.detect.renewals.partition fun r => decide (r.bell ≤ n)
  due.foldl renew { s with detect := { s.detect with renewals := later } }

/-- With bells stopped no evaluation is to come: every clear that waits happens. -/
def takeAllRenewals (s : State) : State := s.detect.renewals.foldl renew { s with detect := { s.detect with renewals := [] } }

/-! ### Triggers -/

/-- The bytes of a trigger record (Table 9-6). -/
def triggerBytes (r : TriggerRec) : List Byte :=
  leBytes 8 r.bell ++ leBytes 8 r.timeNs ++ leBytes 2 r.timePs ++ leBytes 2 r.zone ++ leBytes 1 r.detectors
    ++ leBytes 1 r.flags ++ zeros 2 ++ leBytes 4 r.point ++ leBytes 4 r.harvestSeq

/-- A trigger record enters the queue, or is lost (R249). -/
def queueTrigger (r : TriggerRec) (s : State) : State :=
  if s.detect.queue.length < 1024 then
    let r := if s.detect.lostPending then { r with flags := r.flags ||| 2 } else r
    let s := { s with detect := { s.detect with queue := s.detect.queue ++ [r], lostPending := false } }
    raiseIf (s.detect.queue.length == s.nat K.triggerWatermark) 36 s
  else ({ s with detect := { s.detect with lostPending := true } }).inc K.triggerLost

/-- Row bytes of a harvest (R251). -/
def rowBytes (points : Nat) : Nat := ceilTo 8 (24 + 2 * points)

/-- Size of a harvest's record (R251). -/
def Harvest.bytes (h : Harvest) : Nat := 128 + (h.lastBell + 1 - h.firstBell) * rowBytes h.pointCount

/-- Harvests in formation (R250). -/
def formingCount (s : State) : Nat := s.granary.harvests.countP fun h => h.forming && !h.complete

/-- The lowest place in the harvest area where `n` bytes lie free of every harvest not released, if there is one. The manual gives the
area, not the places in it (R250, R307; DESIGN CHOICE, log entry 83). -/
def harvestPlace (n : Nat) (s : State) : Option Nat :=
  let held := s.granary.harvests
  let free (p : Nat) : Bool := decide (p + n ≤ s.nat K.harvestAreaBytes)
    && held.all fun h => decide (p + n ≤ h.place ∨ h.place + h.room ≤ p)
  let at_ := (0 :: held.map fun h => h.place + h.room).filter free
  at_.foldl (fun (b : Option Nat) p => some (match b with
    | some q => min p q
    | none => p)) none

/-- The header of row bell `b`: that of its granary slot, or, where a later bell has overwritten the slot, the bell number beside fields of
which nothing is left: their values are free, drawn from the `i`-th place on (R252; log entry 107). -/
def rowHeader (s : State) (b i : Nat) : Header :=
  let fresh (k bound : Nat) : Nat := State.free { s with drawn := s.drawn + 3 * i + k } bound
  (granaryHeader s b).getD
    { number := b, time := fresh 0 (2 ^ 64), flags := BitVec.ofNat 32 (fresh 1 (2 ^ 31)), launchWord := fresh 2 (2 ^ 32) }

/-- Request a harvest (R250): its sequence number, or none if it is dropped. -/
def requestHarvest (h : Harvest) (s : State) : Option Nat × State :=
  match if 16 ≤ formingCount s then none else harvestPlace h.bytes s with
  | some place =>
    let q := s.granary.nextSeq
    let before := h.triggerBell - h.firstBell
    let heads := (List.range before).map fun k => rowHeader s (h.firstBell + k) k
    (some q, { s with
      drawn := s.drawn + 3 * before,
      granary := { s.granary with
        harvests := s.granary.harvests ++ [{ h with seq := q, place, room := h.bytes, heads }], nextSeq := (q + 1) % 2 ^ 32 } })
  | none => (none, s.inc K.harvestDropped)

/-- The event point of a trigger, and whether it is located (R248). -/
def eventPoint (zb : List Byte) (stat7 : Option Int) : Nat × Bool :=
  match stat7 with
  | some v =>
    if zFlag zb 1 && decide ((zFirst zb : Int) ≤ v ∧ v < (zFirst zb + zCount zb : Nat)) then (v.toNat, true)
    else (zFirst zb + zCount zb / 2, false)
  | none => (zFirst zb + zCount zb / 2, false)

/-- Form the trigger of zone `z` (R247 to R250); `fired` are the detectors that fired if it is not forced, `bits` byte 20 of the record. -/
def formTrigger (b : BellRec) (z : Nat) (zb : List Byte) (stats : Option (List Int)) (fired bits : Nat) (s : State) : State :=
  let h := b.header
  let (pt, located) := eventPoint zb (stats.map fun l => l.getD 7 0)
  let ps := eventPs h.time h.launchOffset h.mode h.gauge pt
  let ns := (ps / 1000 % (2 ^ 64 : Nat)).toNat
  let pp := (ps % 1000).toNat
  let lo := zFirst zb - zMargin zb
  let hi := min (h.points - 1) (zFirst zb + zCount zb - 1 + zMargin zb)
  let first := (List.range 4).find? (bitOf fired)
  -- a harvest is cut at GRANARY_FIRST_BELL (R252)
  let from_ := max (h.number - zPre zb) (s.nat K.granaryFirstBell)
  let cut := decide (h.number < zPre zb) || decide (h.number - zPre zb < from_)
  let sv := match first, stats with
    | some d, some l => ofSigned 32 (l.getD (fieldAt 1 1 (detDef b.settings z d) % 8) 0)
    | _, _ => 0x80008000
  let (seq, s) := if zFlag zb 2 then
      requestHarvest {
        seq := 0, zone := z, detectors := bits, hflags := b2n cut + if located then 0 else 16, triggerBell := h.number,
        timeNs := ns, timePs := pp,
        uncertainty := (if located then h.gauge else h.gauge + zCount zb) * tsOf h.mode * 250,
        eventPoint := pt, firstPoint := lo, pointCount := hi + 1 - lo, firstBell := from_,
        lastBell := h.number + zPost zb, mode := h.mode, gauge := h.gauge,
        timeSource := natIn b.settings K.timeSource, timeState := natIn b.settings K.timeState, statValue := sv } s
    else (none, s)
  let flags := b2n seq.isSome + (if located then 0 else 4) + b2n (h.has .holdover || h.has .unsynchronised) * 8
    + b2n (h.has .settling) * 16
  let s := queueTrigger { bell := h.number, timeNs := ns, timePs := pp, zone := z, detectors := bits, flags, point := pt,
                          harvestSeq := seq.getD 0xFFFFFFFF } (s.inc K.triggerCount)
  raiseIf (bitOf (zAlarm zb) 2) (32 + zAlarm zb % 4) s

/-- Step the detectors of a zone on a record of statistics: the detectors that fire as a mask (R244, R245). -/
def stepDetectors (m : Sparse DVal) (z : Nat) (rec : List Int) (s : State) : Nat × State :=
  (List.range 4).foldl (fun (r : Nat × State) d =>
    let db := detDef m z d
    let x := rec.getD (fieldAt 1 1 db % 8) 0
    if fieldAt 0 1 db = 0 || x == statInvalid then r
    else
      let (v, f) := detStep db x (sparseGet (fun _ => {}) r.2.detect.dets (4 * z + d))
      (r.1 + (if f then 2 ^ d else 0), setDet z d v r.2)) (0, s)

/-- Evaluate zone `z` for bell `b` (R244, R247); counts the bell's triggers. In a bell in which the zone is not evaluated it forms no
trigger, a forced one neither: a manual trigger waits (DEDUCED, log entry 89). -/
def evalZone (b : BellRec) (z : Nat) (r : State × Nat) : State × Nat :=
  let (s, count) := r
  let m := b.settings
  let zb := zoneDef m z
  let n := b.header.number
  let stats : Option (List Int) :=
    if b.header.has .switching then none
    else match sparseGet (fun _ => []) b.stats z with
      | [] => none
      | l => some l
  let s := if stats.isNone && !b.header.has .switching then s.inc K.statsMissing else s
  let valid := stats.isSome && !(b.header.has .settling && zFlag zb 5)
  let (fired, s) := match valid, stats with
    | true, some l => stepDetectors m z l s
    | _, _ => (0, s)
  let zs := zoneState s z
  let held := match zs.holdFrom with
    | some k => decide (k < n ∧ n ≤ k + zHoldoff zb)
    | none => decide (0 < zs.holdEvents)
  let suppressed := fired != 0 && held
  let real := fired != 0 && !held
  let s := if suppressed then (onZone z (fun x => { x with holdEvents := x.holdEvents - 1 }) s).inc K.suppressedCount else s
  let autoDue := valid && zFlag zb 3 && decide (zAuto zb ≤ zs.autoCount)
  let due (t : Nat) : Bool := decide (t + 1000 ≤ s.clk.now)
  let manual := valid && zs.manualAt.any due
  let s := if manual then onZone z (fun x => { x with manualAt := x.manualAt.filter fun t => !due t }) s else s
  if real || autoDue || manual then
    let bits := (if real || manual then fired else 0) + b2n (autoDue && !real) * 16 + b2n manual * 32
    let s := onZone z (fun x =>
      let x := { x with autoCount := 0 }
      if real then
        if zFlag zb 4 then { x with holdFrom := none, holdEvents := zHoldoff zb }
        else { x with holdFrom := some n, holdEvents := 0 }
      else x) s
    (formTrigger b z zb stats (if real then fired else 0) bits s, count + 1)
  else
    (onZone z (fun x => { x with autoCount := if suppressed then 0 else if valid then x.autoCount + 1 else x.autoCount }) s,
     count)

/-- The evaluation of a bell's statistics (R244 to R249), at the release of the bell; the state, and the triggers formed. -/
def evaluateBell (b : BellRec) (s : State) : State × Nat :=
  let s := takeRenewals b.header.number s
  if natIn b.settings K.detectEnable = 1 then
    ((zonesOf b.settings).filter fun z => zLive (zoneDef b.settings z) b.header.points).foldl
      (fun r z => evalZone b z r) (s, 0)
  else (s, 0)

/-! ### Formation of harvests -/

/-- A stored granary word of bell `b` as a harvest row carries it (R252); an uncorrectable word is invalid (R321). -/
def rowWord (s : State) (h : Header) (i : Nat) : Nat :=
  if h.has .switching || h.overrunMap.getLsbD (i / clipBlockOf h.mode) then 0x8000
  else match granaryAddr s s.array.slot h.number with
    | some a => if barnBad 5 s (a + 2 * i) then 0x8000 else leNat (readBarn s (a + 2 * i) 2)
    | none => 0x8000
where
  /-- Points of a map block (R111). -/
  clipBlockOf (mode : Nat) : Nat := if mode = 2 then 256 else 1024

/-- The row of the bell of header `h` of a harvest (R251, R252). -/
def harvestRow (s : State) (x : Harvest) (h : Header) : Nat × List Byte × List Nat :=
  (h.number, leBytes 8 h.number ++ leBytes 8 h.time ++ leBytes 4 h.flags.toNat ++ leBytes 4 h.launchWord,
   (List.range x.pointCount).map fun i => rowWord s h (x.firstPoint + i))

/-- The granary slot of row bell `b` has been overwritten (R252): during the bell after the first later bell of the run in
progress that shares the slot. -/
def overtaken (s : State) (slots b : Nat) : Bool :=
  let first := s.nat K.granaryFirstBell
  let next := if first ≤ b then b + slots else first + (((b : Int) - first) % slots).toNat
  s.bell.everStarted && decide (slots ≠ 0) && decide (next + 1 ≤ s.bell.number)

/-- A row lost to overwriting: row flag 31, every word invalid (R252). -/
def lostRow (r : Nat × List Byte × List Nat) : Nat × List Byte × List Nat :=
  let f := fieldAt 16 4 r.2.1
  (r.1, overlay 16 (leBytes 4 (f ||| 0x80000000)) r.2.1, r.2.2.map fun _ => 0x8000)

/-- Formation starts (R250): the rows released by now are taken, one whose slot has been overwritten meanwhile as lost; rows before
GRANARY_FIRST_BELL are left out (R252). The copy meets the marked words of the slots (R321). -/
def startFormation (s : State) (x : Harvest) : Harvest × State :=
  let slots := granarySlotsOf (s.image s.array.slot)
  let heads := x.heads.filter fun h => decide (s.nat K.granaryFirstBell ≤ h.number)
  let rows := heads.map fun h =>
    if overtaken s slots h.number then lostRow (harvestRow s x h) else harvestRow s x h
  let lost := heads.any fun h => overtaken s slots h.number
  let x := { x with forming := true, slots, rows,
                    hflags := x.hflags ||| b2n (decide (heads.length < x.heads.length)) ||| b2n lost * 2 ||| b2n x.cut * 4 }
  (x, heads.foldl (fun (s : State) (h : Header) => match granaryAddr s s.array.slot h.number with
    | some a => readMarks 5 (a + 2 * x.firstPoint) (2 * x.pointCount) s
    | none => s) s)

/-- The last row of a harvest has been released. -/
def lastRowOut (s : State) (h : Harvest) : Bool := match s.bell.lastReleased with
  | some r => decide (h.lastBell ≤ r.number)
  | none => false

/-- Start every formation that is due, oldest first, while fewer than 16 form (R250): the last row is released, or bells
have stopped. -/
def startFormations (s : State) : State :=
  (List.range s.granary.harvests.length).foldl (fun (s : State) (j : Nat) => match s.granary.harvests[j]? with
    | some h =>
      if !h.forming && (h.cut || lastRowOut s h) && decide (formingCount s < 16) then
        let (x, s) := startFormation s h
        { s with granary := { s.granary with harvests := s.granary.harvests.set j x } }
      else s
    | none => s) s

/-- The header of a released bell is kept for the rows of the harvests that hold it. -/
def keepHeads (h : Header) (s : State) : State :=
  let keep (x : Harvest) : Harvest :=
    if !x.forming && decide (x.firstBell ≤ h.number ∧ h.number ≤ x.lastBell) then { x with heads := x.heads ++ [h] } else x
  { s with granary := { s.granary with harvests := s.granary.harvests.map keep } }

/-- Bells have stopped: every harvest that still waits for rows is cut (R252). -/
def cutHarvests (s : State) : State :=
  startFormations { s with granary := { s.granary with
    harvests := s.granary.harvests.map fun h => if h.forming || lastRowOut s h then h else { h with cut := true } } }

/-- The record of a harvest whose rows are copied (R251, Table 9-7). -/
def harvestBytes (x : Harvest) : List Byte :=
  let rb := rowBytes x.pointCount
  leBytes 4 x.seq ++ leBytes 2 x.zone ++ leBytes 1 x.detectors ++ leBytes 1 x.hflags ++ leBytes 8 x.triggerBell
    ++ leBytes 8 x.timeNs ++ leBytes 2 x.timePs ++ zeros 2 ++ leBytes 4 x.uncertainty ++ leBytes 4 x.eventPoint
    ++ leBytes 4 x.firstPoint ++ leBytes 4 x.pointCount ++ leBytes 8 ((x.rows.head?.map Prod.fst).getD x.firstBell)
    ++ leBytes 4 x.rows.length ++ leBytes 4 rb ++ leBytes 1 x.mode ++ leBytes 1 x.gauge ++ leBytes 1 x.timeSource
    ++ leBytes 1 x.timeState ++ leBytes 8 Config.unitId.toNat ++ leBytes 4 x.statValue ++ zeros 52
    ++ x.rows.flatMap fun r => slice 0 rb (r.2.1 ++ r.2.2.flatMap (leBytes 2))

/-- Complete a harvest (R251, R252): its record stands in the harvest area (R250). -/
def completeHarvest (x : Harvest) (s : State) : Harvest × State :=
  let lost (r : Nat × List Byte × List Nat) : Bool := overtaken s x.slots r.1
  let rows := x.rows.map fun r => if lost r then lostRow r else r
  let x := { x with rows, complete := true,
                    hflags := x.hflags ||| b2n (x.rows.any lost) * 2 ||| b2n (rows.any fun r => r.2.2.contains 0x8000) * 8 }
  let b := harvestBytes x
  ({ x with rows := [], size := b.length }, writeBarn (areaBase s 7 + x.place) b s)

/-- Complete records not released (HARVESTS_HELD). -/
def harvestsHeld (s : State) : Nat := s.granary.harvests.countP Harvest.complete

/-- HARVEST_RELEASE := `q` names a held record, and frees up to it (R253). -/
def releaseHarvests (q : Nat) (s : State) : State :=
  { s with granary := { s.granary with harvests := s.granary.harvests.filter fun h => !(h.complete && decide (h.seq ≤ q)) } }

end Sys2Proof.Machine
end

