-- ==== Sys2Proof/Machine/StreamOps.lean ====
section
/-!
DEFINITION. Machine/StreamOps.lean: output streams (R254 to R256), their periods and records, and the stream port that sends
them (R394 to R396).
-/

namespace Sys2Proof.Machine

/-! ### Which streams are served -/

/-- OUT_COUNT: M for kinds 0 and 1, zones for kind 2 (R254). -/
def outCount (m : Sparse DVal) (k : Nat) : Nat :=
  if natIn m (K.streamKind k) = 2 then natIn m (K.pointCount k) else natIn m (K.pointCount k) / natIn m (K.spatialDecim k)

/-- Bytes of a record's body. -/
def bodyBytes (m : Sparse DVal) (k : Nat) : Nat :=
  outCount m k * (if natIn m (K.streamKind k) = 0 then 2 else if natIn m (K.streamKind k) = 1 then 16 else 32)

/-- RECORD_BYTES (R256). -/
def recordBytesOf (m : Sparse DVal) (k : Nat) : Nat := 64 + ceilTo 64 (bodyBytes m k)

/-- The image binds 3A10+k.01 to 3A10+k.06 (R254). -/
def bindsStream (img : List Byte) (k : Nat) : Bool :=
  (List.range 6).all fun j => (paramsOf img).any fun p => p.index == 0x3A10 + k && p.sub == j + 1

/-- Stream `k` is served by an image under the settings of store `m` (R254). -/
def streamServed (img : List Byte) (m : Sparse DVal) (k : Nat) : Bool :=
  match streamRegion img k with
  | some (_, r) => bindsStream img k && decide (4 * recordBytesOf m k ≤ r.length)
  | none => false

/-- STREAMS_SERVED now (R261). -/
def streamsServed (s : State) : Nat := bitsOf (fun k => streamServed (activeImage s) s.dict.store k) 8

/-- STREAM_STATE of stream `k` now (R261). -/
def streamState (s : State) (k : Nat) : Nat :=
  if s.nat (K.streamEnable k) = 0 then 0 else if streamServed (activeImage s) s.dict.store k then 2 else 1

/-! ### The stream port -/

/-- STREAM_MAC: as written, or 0x02 and UNIT_ID [39:0] (R397). -/
def streamMac (s : State) : Nat :=
  if s.num K.streamMac < 0 then 0x020000000000 + Config.unitId.toNat % 2 ^ 40 else s.nat K.streamMac

/-- The port and stream entries that a record boundary of stream `k` takes up (R396). -/
def portSettings (k : Fin 8) (s : State) : List Nat :=
  [streamMac s, s.nat K.streamIp, s.nat K.mtu, s.nat K.ttl, s.nat K.dscp, s.nat (K.destMac k), s.nat (K.destIp k),
   s.nat (K.destPort k), s.nat (K.srcPort k)]

/-- Change the stream port's queue of stream `k`. -/
def onPortQueue (k : Fin 8) (f : List OutRecord → List OutRecord) (s : State) : State :=
  { s with port := { s.port with queues := vmod s.port.queues k f } }

/-- A record for which the port discards what it reads (R396). -/
def portDiscards (k : Fin 8) (s : State) : Bool :=
  s.nat K.streamLink == 0 || s.nat K.streamPortEnable == 0 || s.nat (K.destIp k) == 0 || s.nat K.streamIp == 0

/-- A record is routed to the port (R396): it waits its turn, or is read, discarded and counted. -/
def routeToPort (k : Fin 8) (r : StreamRec) (s : State) : State :=
  if portDiscards k s then (s.onStream k (dropRoute false r.seq)).inc K.droppedUnsent
  else onPortQueue k (fun q => q ++ [{ seq := r.seq, bytes := r.bytes, period := r.period }]) s

/-- D_max of R395 for an MTU. -/
def dMax (mtu : Nat) : Nat := (mtu - 20 - 28 - 12) / 8 * 8

/-- Bytes `o` to `o` + `n` of a record as the port sends them: an uncorrectable word as 0x8000_8000 in each half it affects
(R396), and whether any was. -/
def portData (s : State) (slot o n : Nat) : List Byte × Bool :=
  ((List.range n).map fun i =>
     let a := slot + o + i
     if barnBad 8 s a then (if a % 2 = 0 then 0 else 0x80) else barnByte s a,
   (List.range n).any fun i => barnBad 8 s (slot + o + i))

/-- The ones' complement sum of 16-bit words of the Internet checksum (IPv4, UDP), its end carries added. -/
def onesSum : List Byte → Nat
  | a :: b :: rest => let t := a.toNat * 256 + b.toNat + onesSum rest
                      if t < 65536 then t else t - 65535
  | [a] => a.toNat * 256
  | [] => 0

/-- The IPv4 header of a UDP datagram of `n` payload bytes (R394): no options, DF set, the identification of the datagram. -/
def ipHeaderOf (srcIp dstIp ttl dscp ident n : Nat) : List Byte :=
  let front := [0x45#8] ++ beBytes 1 (4 * dscp) ++ beBytes 2 (28 + n) ++ beBytes 2 ident ++ beBytes 2 0x4000 ++ beBytes 1 ttl ++ [0x11#8]
  let ips := beBytes 4 srcIp ++ beBytes 4 dstIp
  front ++ beBytes 2 (0xFFFF - onesSum (front ++ ips)) ++ ips

/-- The UDP header of a payload (R394), its checksum computed over the pseudo header, the header and the payload; a sum of 0 is sent as all
ones. -/
def udpHeaderOf (srcIp dstIp srcPort dstPort : Nat) (payload : List Byte) : List Byte :=
  let len := 8 + payload.length
  let front := beBytes 2 srcPort ++ beBytes 2 dstPort ++ beBytes 2 len
  let c := 0xFFFF - onesSum (beBytes 4 srcIp ++ beBytes 4 dstIp ++ [0x00#8, 0x11#8] ++ beBytes 2 len ++ front ++ payload)
  front ++ beBytes 2 (if c = 0 then 0xFFFF else c)

/-- Send the next datagram of stream `k`'s front record (R395, R396). -/
def sendFragment (k : Fin 8) (s : State) : State :=
  match s.port.queues[k] with
  | [] => s
  | r :: rest =>
    if r.sent = 0 && portDiscards k s then
      (onPortQueue k (fun _ => rest) (s.onStream k (dropRoute false r.seq))).inc K.droppedUnsent
    else
      let s := if r.sent = 0 then { s with port := { s.port with inForce := s.port.inForce.set k (portSettings k s) } } else s
      let f (i : Nat) : Nat := s.port.inForce[k].getD i 0
      let d := dMax (f 2)
      let n := min d (r.bytes - r.sent)
      let slot := match s.streams[k].records.find? fun x => x.seq == r.seq && x.toPort with
        | some x => x.slot
        | none => 0
      let (_, s) := wakeBarn 8 s
      let (data, bad) := portData s slot r.sent n
      let s := readMarks 8 (slot + r.sent) n s
      let last := decide (r.bytes ≤ r.sent + n)
      let flags := b2n (r.sent == 0) + b2n last * 2 + b2n bad * 4 + b2n s.port.lostBefore[k] * 8
      let hdr := [0x43, 0x57, 0x53, 0x50, 0x01] ++ leBytes 1 k ++ leBytes 1 flags ++ zeros 1
        ++ leBytes 8 Config.unitId.toNat ++ leBytes 4 r.seq ++ leBytes 4 r.bytes ++ leBytes 4 r.sent
        ++ leBytes 2 r.fragIndex ++ leBytes 2 ((r.bytes + d - 1) / d)
      let s := { s with port := { s.port with
        lostBefore := s.port.lostBefore.set k false, ident := (s.port.ident + 1) % 65536,
        lastSent := some { srcMac := f 0, dstMac := f 5, srcIp := f 1, dstIp := f 6, srcPort := f 8, dstPort := f 7,
                           ttl := f 3, dscp := f 4, ident := s.port.ident,
                           ipHeader := ipHeaderOf (f 1) (f 6) (f 3) (f 4) s.port.ident (32 + data.length),
                           udpHeader := udpHeaderOf (f 1) (f 6) (f 8) (f 7) (hdr ++ data), header := hdr, payload := data } } }
      let s := s.incWrap 64 K.datagramsSent
      if last then onPortQueue k (fun _ => rest) (s.onStream k (dropRoute false r.seq))
      else onPortQueue k (fun _ => { r with sent := r.sent + n, fragIndex := r.fragIndex + 1 } :: rest) s

/-- The stream whose turn is next: the first after the last one that has a record waiting (R396). -/
def nextTurn (s : State) : Option (Fin 8) :=
  let order : List (Fin 8) := (List.range 8).map fun i => ⟨(s.port.lastTurn + 1 + i) % 8, by omega⟩
  order.find? fun k => !s.port.queues[k].isEmpty

/-! ### Periods -/

/-- What stays the same within a period of stream `k` (R255): settings, geometry, timetable and variant of a bell, and the bell switches
that have taken effect. R255 lists the settings .02 to .06; a change of STREAM_ENABLE ends the period in the same way (DESIGN CHOICE, log
entry 108). -/
def streamSetup (b : BellRec) (k : Nat) : List Nat :=
  let m := b.settings
  [natIn m (K.streamEnable k), natIn m (K.streamKind k), natIn m (K.pointFirst k), natIn m (K.pointCount k),
   natIn m (K.spatialDecim k), natIn m (K.temporalDecim k), b.header.mode, b.header.gauge, b.header.points,
   b.timetableId, b.switches, b.header.variant]

/-- Barn address of the record slot of stream `k` that bell `b` contributes to (R240). -/
def streamSlot (s : State) (m : Sparse DVal) (k b : Nat) : Option Nat :=
  match streamRegion (s.image s.array.slot) k with
  | some (i, r) =>
    let sr := recordBytesOf m k
    some (regionBase s s.array.slot i + b / max 1 (natIn m (K.temporalDecim k)) % max 1 (r.length / sr) * sr)
  | none => none

/-- A body contains the invalid word. -/
def hasInvalid (kind : Nat) (body : List Byte) : Bool :=
  let w := if kind = 2 then 4 else 2
  (List.range (body.length / w)).any fun i => fieldAt (w * i) w body == (if kind = 2 then 0x80008000 else 0x8000)

/-- Release the period in progress of stream `k` with its last bell `b` (R255). -/
def releasePeriod (k : Fin 8) (b : BellRec) (s : State) : State :=
  let m := b.settings
  let x := s.streams[k]
  match x.firstBell, streamSlot s m k b.header.number with
  | some first, some slot =>
    let d := natIn m (K.temporalDecim k)
    let kind := natIn m (K.streamKind k)
    let body := readBarn s (slot + 64) (bodyBytes m k)
    let rflags := b2n (decide (x.bells < d)) + b2n (hasInvalid kind body) * 2
    let hdr := leBytes 8 first ++ leBytes 8 x.firstTime ++ leBytes 2 x.bells ++ leBytes 1 k ++ leBytes 1 kind
      ++ leBytes 4 (natIn m (K.pointFirst k)) ++ leBytes 4 (outCount m k) ++ leBytes 1 (natIn m (K.spatialDecim k))
      ++ leBytes 1 b.header.mode ++ leBytes 1 b.header.gauge ++ zeros 1 ++ leBytes 4 x.flags.toNat ++ leBytes 4 x.nextSeq
      ++ leBytes 8 x.csn ++ leBytes 4 x.launch ++ leBytes 4 rflags ++ zeros 8
    let route := s.nat (K.route k)
    let r : StreamRec := { seq := x.nextSeq, header := hdr, bytes := recordBytesOf m k, slot,
                           period := b.header.number / max 1 d, toHost := bitOf route 0, toPort := bitOf route 1 }
    let s := (writeBarn slot hdr s).onStream k fun y =>
      { y with firstBell := none, bells := 0, flags := 0, csn := 0, nextSeq := (y.nextSeq + 1) % 2 ^ 32,
               records := if r.toHost || r.toPort then y.records ++ [r] else y.records }
    let s := s.incWrap 64 (K.recordsReleased k)
    let s := if r.toPort then routeToPort k r s else s
    deliverStream k (s.posted (streamChannel k)).length s
  | _, _ => s.onStream k fun y => { y with firstBell := none, bells := 0, flags := 0, csn := 0 }

/-- Bell `b` joins the period in progress of stream `k`. -/
def joinPeriod (k : Fin 8) (b : BellRec) (s : State) : State :=
  s.onStream k fun y =>
    let y := if y.firstBell.isNone then
        { y with firstBell := some b.header.number, firstTime := b.header.time, launch := b.header.launchWord,
                 bells := 0, flags := 0, csn := 0, setup := streamSetup b k }
      else y
    { y with bells := y.bells + 1, flags := y.flags ||| b.header.flags, csn := max y.csn b.header.csn }

/-- A released bell and stream `k` (R255): the period ends on a multiple of D, at the last released bell (`next` none), or
before a bell with other conditions. -/
def streamBell (b : BellRec) (next : Option BellRec) (s : State) (k : Fin 8) : State :=
  let m := b.settings
  if natIn m (K.streamEnable k) = 1 && streamServed (s.image s.array.slot) m k then
    let s := joinPeriod k b s
    let ends := (b.header.number + 1) % max 1 (natIn m (K.temporalDecim k)) == 0
    let breaks := match next with
      | some n => streamSetup n k != streamSetup b k
      | none => true
    if ends || breaks then releasePeriod k b s else s
  else s

/-- The eight streams. -/
def allStreams : List (Fin 8) := [0, 1, 2, 3, 4, 5, 6, 7]

/-- Barn ranges that the lessons write of bell `b` (R240): its granary slot, its statistics record, and its record slot of every stream
that is enabled and served. -/
def slotsWritten (b : BellRec) (s : State) : List (Nat × Nat) :=
  let img := s.image s.array.slot
  let m := b.settings
  let n := b.header.number
  let granary := match granaryAddr s s.array.slot n with
    | some a => [(a, granarySlotBytes (imgPoints img))]
    | none => []
  let stats := (List.range (barnRegions img).length).filterMap fun i => match (barnRegions img)[i]? with
    | some r => if r.kind = 4 then
        some (regionBase s s.array.slot i + n % max 1 (r.length / 131072) * 131072, 131072) else none
    | none => none
  let rings := (List.range 8).filterMap fun k => match streamSlot s m k n with
    | some a => if natIn m (K.streamEnable k) = 1 && streamServed img m k then some (a, recordBytesOf m k) else none
    | none => none
  granary ++ stats ++ rings

/-- The lessons begin bell `b`: a released record of stream `k` whose slot they write over before every route has read it is lost (R255,
R396). -/
def reuseSlot (written : List (Nat × Nat)) (s : State) (k : Fin 8) : State :=
  let lost := s.streams[k].records.filter fun r => written.any fun w => decide (r.slot < w.1 + w.2 ∧ w.1 < r.slot + r.bytes)
  lost.foldl (fun s r =>
    let cut := s.port.queues[k].any fun q => q.seq == r.seq
    let s := s.onStream k fun y => { y with records := y.records.filter fun q => q.seq != r.seq }
    let s := onPortQueue k (fun q => q.filter fun o => o.seq != r.seq) s
    let s := if cut then { s with port := { s.port with lostBefore := s.port.lostBefore.set k true } } else s
    raise 38 (s.inc (K.recordsLost k))) s

end Sys2Proof.Machine
end

