-- ==== Sys2Proof/Machine/BreakOps.lean ====
section
/-!
DEFINITION. Machine/BreakOps.lean: the trace end and the fibre break (R270 to R276).
-/

namespace Sys2Proof.Machine

/-- Change the break detector. -/
def State.onFibre (s : State) (f : Break → Break) : State := { s with fibre := f s.fibre }

/-- A bell counts under R271: DAC_ENABLE at its start, not suppressed, no "no-launch", and the rules run (R275). -/
def countsForBreak (b : BellRec) : Bool :=
  !b.suppressed && natIn b.settings K.dacEnable == 1 && !b.header.has .noLaunch && natIn b.settings K.traceEndEnable == 1

/-- E_lim of R272 in units of 10 µm, none where no bell is inward. -/
def endLimit (s : State) (h : Header) : Option Nat :=
  let ref := s.nat K.traceEndRef * 100
  if ref = 0 then none
  else if s.nat K.breakState = 2 || s.fibre.darkPoint.isSome then some s.fibre.position
  else some (min ref (positionOf h.mode (h.points - endBlock h.mode)))

/-- A break is declared (R272, R273). -/
def declareBreak (h : Header) (first firstEnd e : Nat) (s : State) : State :=
  let pos := positionOf h.mode e
  let s := (s.setNum K.breakState 2).inc K.breakCount
  let s := s.setBlock K.lastBreak (leBytes 8 first ++ leBytes 8 h.number ++ leBytes 4 firstEnd ++ leBytes 4 e
    ++ leBytes 4 (millimetres pos) ++ zeros 4)
  let s := s.onFibre fun f => { f with runBell := none, position := pos, darkPoint := some e, clearRun := 0 }
  raise 24 (record 2 0x2900 0x0501 (slice 0 28 (s.block K.lastBreak)) s)

/-- A declared break clears (R274, R275): `e` is E(n), or 0. -/
def clearBreak (bell e : Nat) (s : State) : State :=
  let s := (s.setNum K.breakState 0).onFibre fun f => { f with darkPoint := none, clearRun := 0, runBell := none }
  raise 24 (record 3 0x2900 0x0502 (leBytes 8 bell ++ leBytes 4 e) s)

/-- An inward run ends. -/
def endRunInward (s : State) : State :=
  let s := s.onFibre fun f => { f with runBell := none }
  if s.nat K.breakState = 1 then s.setNum K.breakState 0 else s

/-- The rules R272 and R274 on the trace end `e` of a counting bell. -/
def judgeEnd (h : Header) (e : Nat) (s : State) : State :=
  let x := positionOf h.mode e
  let inward := match endLimit s h with
    | some l => decide (x + 1000000 < l)
    | none => false
  let s :=
    if inward then
      match s.fibre.runBell with
      | some k => declareBreak h k s.fibre.runEnd e s
      | none =>
        let s := s.onFibre fun f => { f with runBell := some h.number, runEnd := e }
        if s.nat K.breakState = 0 then s.setNum K.breakState 1 else s
    else endRunInward s
  if s.fibre.darkPoint.isSome then
    if s.nat K.traceEndRef * 100 ≤ x + 1000000 then
      let n := s.fibre.clearRun + 1
      if 16 ≤ n then clearBreak h.number e s else s.onFibre fun f => { f with clearRun := n }
    else s.onFibre fun f => { f with clearRun := 0 }
  else s

/-- TRACE_END_LEARN takes a counting bell (R276): the last of the 64 ends the learning in its own step. -/
def learnEnd (h : Header) (e : Nat) (s : State) : State :=
  if s.fibre.learnLeft ≤ 1 then s
  else s.onFibre fun f => { f with learnLeft := f.learnLeft - 1, learnMax := max f.learnMax (millimetres (positionOf h.mode e)) }

/-- DARK_FROM of a header under a declared break: its point in the geometry of `h` (R273, R275). -/
def darkFromOf (s : State) (h : Header) : Nat :=
  match s.fibre.darkPoint with
  | some p => min p h.points
  | none => h.points

/-- The geometry of acquisition becomes that of `h` (R275): the inward run ends, the declared position is converted, and
cleared if it lies at or beyond the range end. -/
def breakGeometry (mode points bell : Nat) (s : State) : State :=
  let s := endRunInward s
  match s.fibre.darkPoint with
  | some _ =>
    let u := 20419 * (tsOf mode / 2)
    let p := (s.fibre.position + u / 2) / u
    if points ≤ p then clearBreak bell 0 s else s.onFibre fun f => { f with darkPoint := some p }
  | none => s

end Sys2Proof.Machine
end

