-- ==== Sys2Proof/Machine/CoreOps.lean ====
section
/-!
DEFINITION. Machine/CoreOps.lean: the interrupt controller's registers (R411 to R418), the machine timer (R405), the application
core (R410, R419) and its window (R402, R446).
-/

namespace Sys2Proof.Machine

/-- The access fault of kind `k`: 0 read, 1 write, 2 execute (R402). -/
def accessFaultOf (k : Nat) : CoreFault := if k = 0 then .loadAccess else if k = 1 then .storeAccess else .instructionAccess

/-- An access of `n` bytes of kind `k` at address `a` by a core that executes (R402, R404, R446): PMP and, for the application core, its window
are applied, and the access `f` is performed or faults. `can` says what Tables 16-1 and 16-2 grant. -/
def checkedAccess (core : Fin 2) (can : Bool) (k a n : Nat) (f : State → State) (s : State) : State :=
  if !can || !pmpPermits (s.hart core) k a n then faulted core (accessFaultOf k) a s
  else if core = 1 && !windowPermits s 0 k a n then faulted core (accessFaultOf k) a (refuseAccess 0 a s)
  else f (performed core s)

/-- Time passes to a core's access; the application core's waits for a change of its window (R447). -/
def coreArrives (core : Fin 2) (dt : Nat) (s : State) : State :=
  if core = 1 then awaitWindow 0 (s.elapse dt) else s.elapse dt

/-- A supervisor core's access of kind `k` (0 read, 1 write) to a peripheral word at `a`; a core that does not execute makes none (R448, R449,
R451). -/
def coreAccess (core : Fin 2) (can : Bool) (k a dt : Nat) (f : State → State) (s : State) : State :=
  if coreActs core s then checkedAccess core can k a 4 f (coreArrives core dt s) else s

/-- Base addresses of Table 16-2. -/
def icBase : Nat := 0x40020000
def tdcBase : Nat := 0x40030000
def hkBase : Nat := 0x40040000
def timerBase : Nat := 0x40050000
def portBase : Nat := 0x40010000

/-- The bits of sources 32k to 32k + 31 of a W1C word. -/
def pendingWord (k : Nat) (v : BitVec 32) : BitVec 192 := v.zeroExtend 192 <<< (32 * k)

/-- W1C write to IC_PENDING_k: the application core clears only bits of sources routed to it (R412, R418). -/
def clearPending (core : Fin 2) (k : Nat) (v : BitVec 32) (s : State) : State :=
  let m := pendingWord k v
  clearSources (if core = 1 then m &&& s.ic.routes[1] else m) s

/-- Replace the bits of `mask` in a set of sources by those of `new`. -/
def mixBits (old new mask : BitVec 192) : BitVec 192 := (old &&& ~~~mask) ||| (new &&& mask)

/-- The sources that exist (R411). -/
def existing : BitVec 192 := (List.range 192).foldl (fun m i => if sourceExists i then m ||| (1#192 <<< i) else m) 0

/-- Route bit `t` of sources 8w to 8w + 7 in the word of IC_ROUTE_w. -/
def routeBits (w t : Nat) (v : BitVec 32) : BitVec 192 :=
  (List.range 8).foldl (fun m n => if v.getLsbD (4 * n + t) then m ||| (1#192 <<< (8 * w + n)) else m) 0

/-- The eight sources of IC_ROUTE_w. -/
def routeMask (w : Nat) : BitVec 192 := existing &&& (0xFF#192 <<< (8 * w))

/-- A route write that comes in the SUPCLK cycle of an event completes in the next: the event stands under the route of its own cycle (R411,
R416; log entry 118). -/
def afterEvents (s : State) : State := if eventsNow s = 0 then s else s.reach ((s.clk.now / 4 + 1) * 4)

/-- A core's IC_ROUTE write: the control core changes route bits 0 and 1, the application core bit 1 (R416, R418). A dictionary write of the
same cycle is applied after it, and covers every bit. -/
def writeRoute (core : Fin 2) (w : Nat) (v : BitVec 32) (s : State) : State :=
  let s := afterEvents s
  if s.ic.dictCycle = some (s.clk.now / 4) then s else
  let m := routeMask w
  let r := s.ic.routes
  let r1 := r.set 1 (mixBits r[1] (routeBits w 1 v) m)
  let r2 := if core = 0 then r1.set 0 (mixBits r[0] (routeBits w 0 v) m) else r1
  refreshLevels { s with ic := { s.ic with routes := r2 } }

/-- ROUTES written through the dictionary: every route bit of every existing source (R421). -/
def writeRoutes (data : List Byte) (s : State) : State :=
  let s := afterEvents s
  let nib (i : Nat) : Nat := fieldAt (i / 2) 1 data / 16 ^ (i % 2) % 16
  let col (t : Nat) : BitVec 192 :=
    (List.range 192).foldl (fun m i => if sourceExists i && bitOf (nib i) t then m ||| (1#192 <<< i) else m) 0
  refreshLevels { s with ic := { s.ic with routes := #v[col 0, col 1, col 2, col 3], dictCycle := some (s.clk.now / 4) } }

/-- ROUTES as it reads (R421). -/
def routesBlock (s : State) : List Byte :=
  let nib (i : Nat) : Nat :=
    b2n (s.ic.routes[0].getLsbD i) + 2 * b2n (s.ic.routes[1].getLsbD i) + 4 * b2n (s.ic.routes[2].getLsbD i)
      + 8 * b2n (s.ic.routes[3].getLsbD i)
  (List.range 96).map fun k => BitVec.ofNat 8 (nib (2 * k) + 16 * nib (2 * k + 1))

/-- PENDING_CLEAR of the dictionary (R412, R414): if the host vector stays presented after a clear from the host, a message
falls due. -/
def clearPendingBlock (fromHost : Bool) (data : List Byte) (s : State) : State :=
  let s := clearSources (BitVec.ofNat 192 (leNat (slice 0 24 data))) s
  if fromHost && s.ic.presented[2] then messageDue 4 s else s

/-- TARGET_DISABLE as it reads (R421): [3] the host vector, [2] the ring alarm, [1:0] the cores. -/
def targetDisable (s : State) : Nat :=
  b2n s.ic.disabled[0] + 2 * b2n s.ic.disabled[1] + 4 * b2n s.ic.disabled[3] + 8 * b2n s.ic.disabled[2]

/-- A TARGET_DISABLE write through the dictionary: bits 2 and 3 (R421). -/
def writeTargetDisable (v : Nat) (s : State) : State :=
  refreshLevels { s with ic := { s.ic with disabled := (s.ic.disabled.set 2 (bitOf v 3)).set 3 (bitOf v 2) } }

/-- IC_TARGET_t as a core writes it: GLOBAL_DISABLE of targets 0 and 1 only, target 0 not by the application core (R418). -/
def writeTarget (core : Fin 2) (t : Fin 4) (v : BitVec 32) (s : State) : State :=
  if t = 0 ∧ core = 0 ∨ t = 1 then
    refreshLevels { s with ic := { s.ic with disabled := s.ic.disabled.set t (v.getLsbD 0) } }
  else s

/-- A read of IC_TAKE_h (R417, R418): the lowest pending source counted for target `h` and its counter, both cleared. -/
def takeSource (core h : Fin 2) (s : State) : State :=
  let none_ (s : State) : State := { s with ic := { s.ic with lastTake := 0xFFFFFFFF } }
  if core = 1 ∧ h = 0 then none_ s
  else
    match lowestSource (s.ic.pending &&& targetMask ⟨h, by omega⟩ s) with
    | some src =>
      let n := sparseGet (fun _ => 0) s.ic.counts src
      let s := clearSources (1#192 <<< src) s
      { s with ic := { s.ic with lastTake := BitVec.ofNat 32 (src + 256 * n) } }
    | none => none_ s

/-- IC_SOFT: each bit written 1 raises an event on source 64 + j (R411). -/
def raiseSoft (v : BitVec 32) (s : State) : State :=
  refreshLevels ((List.range 32).foldl (fun (s : State) (j : Nat) => if v.getLsbD j then markPending (64 + j) s else s) s)

/-! ### The machine timer -/

/-- A read of MTIME_LO (R405): latches the high word. -/
def latchMtime (s : State) : State :=
  { s with timer := { s.timer with lastRead := BitVec.ofNat 32 s.mtime, hiLatch := BitVec.ofNat 32 (s.mtime / 2 ^ 32) } }

/-- The timer interrupt of core `c` wakes it from WFI if its own mask enables it (RISC-V; log entry 117). -/
def wakeTimer (c : Fin 2) (s : State) : State :=
  if s.cores.waiting[c] && s.mtip c && (s.hart c).enables.getLsbD 7 then wakeCore c s else s

/-! ### The application core -/

/-- APP_CORE_STATE changes: what the application core can receive may change with it (R419, R420). -/
def setAppState (v : Nat) (s : State) : State := refreshLevels (s.setNum K.appCoreState v)

/-- Core `c` is in reset: its own state is that of a start at `pc` (R410). -/
def resetHart (c : Fin 2) (pc : Nat) (s : State) : State :=
  { s with cores := { s.cores with harts := s.cores.harts.set c { pc := BitVec.ofNat 32 pc }, waiting := s.cores.waiting.set c false } }

/-- APP_CORE_RUN := 0 holds the core in reset (R410). -/
def holdAppCore (s : State) : State :=
  let s := resetHart 1 0 s
  setAppState 0 { s with cores := { s.cores with appLoading := false } }

/-- The application copy in use (R409): none is valid if FW_SELECTED [2] is clear. -/
def appCopy (s : State) : Option Firmware :=
  if bitOf (s.nat K.fwSelected) 2 then
    (if bitOf (s.nat K.fwSelected) 1 then s.cores.copies[3] else s.cores.copies[2])
  else none

/-- APP_CORE_RUN := 1 reloads the selected copy (R410). -/
def loadAppCore (s : State) : State := setAppState 1 { s with cores := { s.cores with appLoading := true } }

/-- Bytes at the start of a core's memory. -/
def loadMemory (b : List Byte) (m : Sparse Byte) : Sparse Byte :=
  (List.range b.length).foldl (fun m i => sparseSet (fun _ => 0) m i (b.getD i 0)) m

/-- The selected application copy is loaded into Application TCM (R409, R410). -/
def loadAppTcm (s : State) : State :=
  match appCopy s with
  | some f => { s with cores := { s.cores with appTcm := loadMemory f.load s.cores.appTcm } }
  | none => s

/-- The load has ended: the copy stands in Application TCM and the core starts in machine mode at 0x1800_0000 + ENTRY, every integer register 0
and mstatus.MIE clear (R410). -/
def startAppCore (s : State) : State :=
  match appCopy s with
  | some f =>
    let s := resetHart 1 (0x18000000 + f.entry) (loadAppTcm s)
    setAppState 2 { s with cores := { s.cores with appLoading := false } }
  | none => setAppState 5 { s with cores := { s.cores with appLoading := false } }

end Sys2Proof.Machine
end

