-- ==== Sys2Proof/Machine/DriveOps.lean ====
section
/-!
DEFINITION. Machine/DriveOps.lean: the source-drive lines (R85 to R102): demanded current, conduction, judgements, fault
declarations, removal and restoration of drive, temperature factors.
-/

namespace Sys2Proof.Machine

/-- Change line `l`. -/
def State.onLine (s : State) (l : Fin 8) (f : Line → Line) : State :=
  { s with drive := { s.drive with lines := vmod s.drive.lines l f } }

/-- Change every line. -/
def State.onLines (s : State) (f : Fin 8 → Line → Line) : State :=
  { s with drive := { s.drive with lines := Vector.ofFn fun i => f i s.drive.lines[i] } }

/-- MODE of line `l` (R88). -/
def lineMode (s : State) (l : Fin 8) : Nat := s.nat (K.mode l)

/-- Line `l` is an external-pass line (R86). -/
def external (s : State) (l : Fin 8) : Bool := s.nat (K.pass l) == 1

/-- In Watch a conducting line runs DC at SAFE_SET (R101). -/
def inWatch (s : State) : Bool := s.nat K.powerState == 1

/-- LINE_SET, or SAFE_SET in Watch (R101). -/
def lineSet (s : State) (l : Fin 8) : Nat := if inWatch s then s.nat (K.safeSet l) else s.nat (K.lineSet l)

/-- D of R85 as a fraction: numerator and denominator. -/
def demandD (s : State) (l : Fin 8) : Nat × Nat :=
  let n := lineSet s l * s.nat K.globalScale * (s.drive.lines[l]).kT
  let d := 4095 * 255 * 32768
  if external s l then (n, d) else (n * s.nat K.capScale, d * 255)

/-- I_fs in µA: 150 mA on-chip, 200 mV / SHUNT_MOHM external (R85). -/
def fullScale (s : State) (l : Fin 8) : Nat :=
  if external s l then 200000000 / s.nat (K.shuntMohm l) else 150000

/-- I_demand in µA, quantised to 12 bits of I_fs (R85; the quantiser rounds to the nearest of 4,096 steps, log entry 9). -/
def demand (s : State) (l : Fin 8) : Nat :=
  let (n, d) := demandD s l
  let code := (min n d * 4095 * 2 + d) / (2 * d)
  code * fullScale s l / 4095

/-- D is at least 0.25: the hybrid mode runs DC (R88). -/
def hybridDc (s : State) (l : Fin 8) : Bool :=
  let (n, d) := demandD s l
  d ≤ 4 * n

/-- PWM period in SUPCLK ticks of the mode and settings in use (R88). -/
def pwmTicks (s : State) (l : Fin 8) : Nat :=
  if lineMode s l = 4 then 1024 else 2 ^ (s.drive.lines[l]).pwmBits

/-- On-time in ticks: PWM_DUTY, or round(D × 4,096) in hybrid mode (R88). -/
def onTicks (s : State) (l : Fin 8) : Nat :=
  if lineMode s l = 4 then
    let (n, d) := demandD s l
    (n * 4096 * 2 + d) / (2 * d)
  else (s.drive.lines[l]).pwmDuty

/-- Line `l` runs PWM now: MODE 2, or MODE 4 below the switch-over, outside Watch (R88, R101). -/
def runsPwm (s : State) (l : Fin 8) : Bool :=
  !inWatch s && (lineMode s l == 2 || (lineMode s l == 4 && !hybridDc s l))

/-- The PWM counter of line `l` runs: the unit is in Run or Watch or on its way, whether or not drive reaches the line (R88, R280). -/
def pwmCounts (s : State) (l : Fin 8) : Bool := runsPwm s l && (s.nat K.powerState ≤ 1 || s.nat K.powerState == 3)

/-- Line `l` conducts continuously: MODE 1, MODE 4 at or above the switch-over, or a DC, PWM or hybrid line in Watch. -/
def runsDc (s : State) (l : Fin 8) : Bool :=
  if inWatch s then lineMode s l == 1 || lineMode s l == 2 || lineMode s l == 4
  else lineMode s l == 1 || (lineMode s l == 4 && hybridDc s l)

/-- Drive reaches line `l`: applied, not removed by a fault, and the part is in Run or Watch, or on its way between states (R97,
R100, R101). R101 does not say which settings the lines follow while POWER_STATE is 3: the model runs them as in Run, also on the way
out of Watch or Standby (DESIGN CHOICE, log entry 68). -/
def driven (s : State) (l : Fin 8) : Bool :=
  s.drive.applied && !(s.drive.lines[l]).removed && (s.nat K.powerState ≤ 1 || s.nat K.powerState == 3)

/-- Current while line `l` conducts, µA: 0.25 × I_fs in a hybrid on-time, else I_demand (R88). -/
def onCurrent (s : State) (l : Fin 8) : Nat :=
  if lineMode s l = 4 && runsPwm s l then fullScale s l / 4 else demand s l

/-- The conduction of a line ends, but for a proving pulse. -/
def Line.rest (x : Line) : Line := { x with conductFrom := none, conductUntil := none, way := 0, judgedAt := none }

/-- A line conducts in way `w` from `t`, until `u` if that is known: a new interval of R93. -/
def Line.conduct (x : Line) (w t : Nat) (u : Option Nat) : Line :=
  { x with conductFrom := some t, conductUntil := u, way := w, judgedAt := none }

/-- Stop line `l` conducting. -/
def stopConduction (l : Fin 8) (s : State) : State :=
  s.onLine l fun x => { x.rest with proving := none, pulseUntil := 0 }

/-- The way in which line `l` may conduct now, of those of `Line.way`; 0 none (R88, R97, R100, R101). -/
def wayOf (s : State) (l : Fin 8) : Nat :=
  if !driven s l then 0
  else if runsDc s l then 1
  else if runsPwm s l then 2
  else if !inWatch s && lineMode s l == 3 then 3 else 0

/-- When a gate window of line `l` in the bell in progress opens at its pin, and when it closes (R88, R90): GATE_DELAY and GATE_WIDTH count
on the scale of the excitation unit's samples, which reach the pins 24.0 ns later. -/
def gateWindow (s : State) (l : Fin 8) : Option (Nat × Nat) :=
  s.bell.acquiring.map fun b =>
    let t := b.startAt + s.nat (K.gateDelay l) + 24
    (t, t + s.nat (K.gateWidth l))

/-- The on-time or gate window of line `l` that is in progress by its settings, whether or not it conducts (R88): a line that regains its
drive within one conducts for the rest of it. -/
def onWindow (s : State) (l : Fin 8) (w : Nat) : Option (Nat × Nat) :=
  let x := s.drive.lines[l]
  if w = 2 then x.pwmFrom.map fun t => (t, t + 4 * onTicks s l)
  else if w = 3 && x.fired then gateWindow s l else none

/-- Bring the conduction of line `l` in line with its mode and drive: a DC line conducts from now, an interval that began in another
way ends, a line that may not conduct stops, and one whose drive returns within an on-time or a gate window conducts for the rest of it
(R88, R97, R100). -/
def settleLine (l : Fin 8) (s : State) : State :=
  let w := wayOf s l
  let t := s.clk.now
  if w = 0 then stopConduction l s
  else if w = (s.drive.lines[l]).way then s
  else if w = 1 then s.onLine l fun x => { (x.conduct 1 t none) with pwmFrom := none }
  else match onWindow s l w with
    | some (a, u) => if a ≤ t && t < u then s.onLine l fun x => x.conduct w t (some u) else s.onLine l Line.rest
    | none => s.onLine l Line.rest

/-- A proving pulse of line `l` conducts now (R94). -/
def pulsing (s : State) (l : Fin 8) : Bool :=
  let x := s.drive.lines[l]
  decide (x.lastProve ≤ s.clk.now ∧ s.clk.now < x.pulseUntil)

/-- The line's own interval contains the present instant. -/
def inInterval (s : State) (l : Fin 8) : Bool :=
  let x := s.drive.lines[l]
  match x.conductFrom with
  | some t => decide (t ≤ s.clk.now) && (match x.conductUntil with
    | some u => decide (s.clk.now < u)
    | none => true)
  | none => false

/-- What line `l` conducts now, µA (R88, R94). -/
def lineNow (s : State) (l : Fin 8) : Nat :=
  if pulsing s l then 1000 else if inInterval s l then onCurrent s l else 0

/-- The eight line numbers. -/
def allLines : List (Fin 8) := [0, 1, 2, 3, 4, 5, 6, 7]

/-- `settleLine` for every line. -/
def settleLines (s : State) : State := allLines.foldl (fun (s : State) (l : Fin 8) => settleLine l s) s

/-- Remove the drive of every line (R99, R100). -/
def removeDrive (s : State) : State :=
  settleLines { s with drive := { s.drive with applied := false, restoreAt := none } }

/-- Restore drive (R100). -/
def applyDrive (s : State) : State :=
  settleLines { s with drive := { s.drive with applied := true, restoreAt := none } }

/-- LINE_STATUS of line `l` (R104). -/
def lineStatus (s : State) (l : Fin 8) : Nat :=
  let x := s.drive.lines[l]
  bitsOf (fun i => match i with
    | 0 => x.openF
    | 1 => x.shortF
    | 2 => x.darkF
    | 3 => x.proveOpen
    | 4 => x.overF
    | 5 => !external s l && s.nat K.capScale < 255
    | 6 => x.removed || !s.drive.applied
    | 7 => x.compInvalid
    | _ => false) 8

/-- FAULT_SUMMARY (R103). -/
def faultSummary (s : State) : Nat := bitsOf (fun i => ((s.drive.lines.toList.map Line.latched).getD i false)) 8

/-- The faults a line can declare (R93, R95). -/
inductive LineFault where
  | openLine | short | dark | overCurrent
  deriving DecidableEq, Repr

/-- The fault is latched on a line. -/
def LineFault.isLatched (f : LineFault) (x : Line) : Bool :=
  match f with
  | .openLine => x.openF
  | .short => x.shortF
  | .dark => x.darkF
  | .overCurrent => x.overF

/-- Latch the fault on a line. -/
def LineFault.latch (f : LineFault) (x : Line) : Line :=
  match f with
  | .openLine => { x with openF := true }
  | .short => { x with shortF := true }
  | .dark => { x with darkF := true }
  | .overCurrent => { x with overF := true }

/-- Declare fault `f` on line `l` unless it is already latched: latch it, count it, interrupt, record it; short and
over-current remove the line's drive until FAULT_CLEAR (R96, R97). -/
def declareFault (f : LineFault) (l : Fin 8) (s : State) : State :=
  if f.isLatched s.drive.lines[l] then s
  else
    let s := s.onLine l f.latch
    let s := if f = .short || f = .overCurrent then
        settleLine l (s.onLine l fun x => { x with removed := true }) else s
    let s := s.inc (K.faultCount l)
    let data := leBytes 1 (lineStatus s l % 256) ++ [0] ++ leBytes 2 (s.nat (K.pinVoltage l))
      ++ leBytes 2 (s.nat (K.lineCurrent l))
    raise (8 + l) (record 1 (0x2500 + l) 0x0201 data s)

/-- k_T of line `l` for a housekeeping result `x` (R91). -/
def kTable (s : State) (l : Fin 8) (x : Nat) : Nat :=
  let c (k : Nat) : Nat := s.nat (K.compC l k)
  let f (k : Nat) : Nat := s.nat (K.compF l k)
  if x ≤ c 0 then f 0
  else if c 15 ≤ x then f 15
  else
    match (List.range 15).find? fun k => decide (c k ≤ x ∧ x < c (k + 1)) with
    | some k => ((f k : Int) + roundDiv (((f (k + 1) : Int) - f k) * (x - c k : Nat)) (c (k + 1) - c k)).toNat
    | none => f 15

/-- The pattern `p` of R92: c strictly increasing and f within 16,384 to 49,152, in store `m`. -/
def compTableOk (m : Sparse DVal) (l : Nat) : Bool :=
  (List.range 15).all (fun k => decide (natIn m (K.compC l k) < natIn m (K.compC l (k + 1))))
    && (List.range 16).all fun k => 16384 ≤ natIn m (K.compF l k) && natIn m (K.compF l k) ≤ 49152

/-- Give line `l` a new temperature factor: at the next bell start while bells run or the generator is armed, else at
once (R91, R505). -/
def newKT (l : Fin 8) (k : Nat) (s : State) : State :=
  if s.stopped then settleLine l (s.onLine l fun x => { x with kT := k, kTNext := [] })
  else s.onLine l fun x => { x with kTNext := x.kTNext ++ [(k, s.clk.now)] }

/-- A conversion of housekeeping input `i` with 12-bit result `x` and its "open" flag reaches the lines (R91, R92). -/
def compConversion (i x : Nat) (isOpen : Bool) (s : State) : State :=
  allLines.foldl (fun (s : State) (l : Fin 8) =>
    if s.nat (K.compInput l) = i then
      if isOpen then s.onLine l fun y => { y with compInvalid := true }
      else newKT l (kTable s l x) (s.onLine l fun y => { y with compInvalid := false })
    else s) s

/-- The entries from which k_T of line `l` is derived. -/
def compKeys (l : Nat) : List Key :=
  K.compInput l :: (List.range 16).flatMap fun k => [K.compC l k, K.compF l k]

/-- k_T follows the entries that now hold: 32,768 if COMP_INPUT = 0xFF; after a change of COMP_INPUT or of the table, the factor of the
selected input's latest result, unless that input has none or it is "open" (R91, R92). R91 does not say when the factor of a new table takes
effect; the model lets it take effect with the table (DESIGN CHOICE, log entry 69). -/
def refreshKT (old : Sparse DVal) (s : State) : State :=
  allLines.foldl (fun (s : State) (l : Fin 8) =>
    let i := s.nat (K.compInput l)
    if i = 255 then s.onLine l fun y => { y with kT := 32768, kTNext := [], compInvalid := false }
    else if (compKeys l).any fun k => decide (valIn old k ≠ valIn s.dict.store k) then
      let flags := s.nat (K.hkInFlags i)
      if !bitOf flags 0 then s
      else if bitOf flags 1 then s.onLine l fun y => { y with compInvalid := true, kTNext := [] }
      else s.onLine l fun y => { y with kT := kTable s l (s.nat (K.hkCode i)), kTNext := [], compInvalid := false }
    else s) s

/-- CAP_SCALE `v` takes effect (R102). -/
def setCap (v : Nat) (s : State) : State :=
  settleLines { s.setNum K.capScale v with drive := { s.drive with cappedBell := true } }

/-- The PWM settings of a line that starts a period, or that is not running one, follow the entries (R89). -/
def takePwm (l : Fin 8) (s : State) : State :=
  s.onLine l fun x => { x with pwmBits := s.nat (K.pwmBits l), pwmDuty := s.nat (K.pwmDuty l) }

/-- Line `l` starts a PWM period and its on-time now (R88); drive that is removed leaves the commanded on-time without conduction. -/
def startPwm (l : Fin 8) (s : State) : State :=
  let s := takePwm l s
  let t := s.clk.now
  -- the on-time start may start a housekeeping run (R280)
  let m := if s.hk.running then s.hk.settings else s.dict.store
  let s := if natIn m K.hkMode = 2 && natIn m K.pwmLine == l.val then
      { s with hk := { s.hk with edges := s.hk.edges ++ [t] } } else s
  let u := t + 4 * onTicks s l
  s.onLine l fun x =>
    -- a proving pulse replaces the line's conduction (R94)
    let from_ := max t x.pulseUntil
    let x := { x with pwmFrom := some t }
    if driven s l && from_ < u then x.conduct 2 from_ (some u) else { x.rest with way := 2 }

/-- What changed line settings do at once when they take effect: intervals that began under another mode end, DC lines start,
a MODE of 0 ends the flagging of R98. `old` is the store before. -/
def lineSettingsApplied (old : Sparse DVal) (s : State) : State :=
  settleLines (refreshKT old (s.onLines fun l x =>
    if lineMode s l = 0 then { x with flagNoLaunch := false, pwmFrom := none }
    else if lineMode s l = 2 || lineMode s l = 4 then x else { x with pwmFrom := none }))

/-- Of values that wait, each with its instant, the last for which `due` holds takes effect; those after it go on waiting. -/
def takeDue (due : Nat → Bool) (now : Nat) (w : List (Nat × Nat)) : Nat × List (Nat × Nat) :=
  (((w.takeWhile fun e => due e.2).getLast?.map Prod.fst).getD now, w.dropWhile fun e => due e.2)

/-- Temperature factors, a restored drive and lowered CAP_SCALEs that waited for a bell start take effect: those for whose instant `due`
holds (R91, R100, R102, R505). -/
def takeStaged (due : Nat → Bool) (s : State) : State :=
  let s := settleLines (s.onLines fun _ x => let (k, w) := takeDue due x.kT x.kTNext; { x with kT := k, kTNext := w })
  let s := match s.drive.restoreAt with
    | some t => if due t then applyDrive s else s
    | none => s
  match s.drive.capNext with
  | [] => s
  | (v, t) :: w =>
    let (c, rest) := takeDue due (s.nat K.capScale) ((v, t) :: w)
    if due t then setCap c { s with drive := { s.drive with capNext := rest } } else s

/-- The source drive at a bell start (R87, R89, R91, R98, R100, R102): staged values whose bell this is take effect. R505 states the 1.000 µs
between a staged value and its bell start for an armed generator; while bells run, of which R91, R100 and R102 say "the next bell start",
the model asks for the same 1.000 µs, the bound of R57 (DESIGN CHOICE, log entry 101). -/
def driveBellStart (start : Nat) (suppressed : Bool) (old : Sparse DVal) (s : State) : State :=
  let s := { s.onLines (fun _ x => { x with fired := false }) with drive.cappedBell := false }
  let lowered := s.drive.capNext.any fun e => decide (e.2 + 1000 ≤ start)
  let s := takeStaged (fun t => decide (t + 1000 ≤ start)) s
  -- an average below 1.35 W for 10 ms raises CAP_SCALE by 16
  let s := match s.drive.below135 with
    | some t =>
      if !lowered && t + 10000000 ≤ start && s.nat K.capScale < 255 then setCap (min 255 (s.nat K.capScale + 16)) s else s
    | none => s
  let s := { s with drive := { s.drive with cappedBell := s.drive.cappedBell || decide (s.nat K.capScale < 255) } }
  let s := lineSettingsApplied old s
  -- PWM_SYNC restarts the counter at bell n + 0
  let s := allLines.foldl (fun (s : State) (l : Fin 8) =>
    if pwmCounts s l && s.nat (K.pwmSync l) = 1 then startPwm l s else s) s
  if suppressed then
    s.onLines fun l x => if lineMode s l = 3 then x.rest else x
  else s

/-- A line that flags its bells "no-launch" under R98 fires in this bell. -/
def flaggedLines (s : State) : Bool :=
  allLines.any fun l => (s.drive.lines[l]).flagNoLaunch && (s.drive.lines[l]).fired

/-- What a judgement or verdict finds on line `l` (R93): demand and measured current in µA, pin voltage in mV. -/
def judge (s : State) (l : Fin 8) (dem cur pinMv : Nat) (gateLimit : Bool) : List LineFault :=
  if external s l then
    (if cur * 2 < dem && gateLimit then [.openLine] else [])
      ++ (if (0 < dem && dem * 12 < cur * 10) || (dem = 0 && fullScale s l < cur * 10) then [.overCurrent] else [])
  else
    (if 1000 ≤ dem && cur * 2 < dem then [.openLine] else [])
      ++ (if s.nat (K.shortThreshold l) * 100 < pinMv then [.short] else [])

end Sys2Proof.Machine
end

