-- ==== Sys2Proof/Machine/HkOps.lean ====
section
/-!
DEFINITION. Machine/HkOps.lean: the housekeeping sequencer (R279 to R283), its results (R284 to R289), the test DAC (R290),
self-calibration (R291) and the limit monitors (R292).
-/

namespace Sys2Proof.Machine

/-- Change the sequencer's own state. -/
def State.onHk (s : State) (f : Housekeeping → Housekeeping) : State := { s with hk := f s.hk }

/-! ### Slots -/

/-- The fields of a slot word (R279). -/
def slotA (w : Nat) : Nat := w / 2 ^ 56 % 256
def slotB (w : Nat) : Nat := w / 2 ^ 48 % 256
def slotSettle (w : Nat) : Nat := w / 2 ^ 32 % 65536
def slotAvg (w : Nat) : Nat := w / 2 ^ 28 % 16
def slotTest (w : Nat) : Bool := bitOf w 27

/-- Conversions of a slot: none if both inputs are 0xFF (R281). -/
def slotConversions (w : Nat) : Nat := if slotA w = 255 && slotB w = 255 then 0 else 2 ^ slotAvg w

/-- A slot's length in ns (R281). -/
def slotLength (w : Nat) : Nat := slotSettle w * 100 + 2 ^ slotAvg w * 1000

/-- The slot word of slot `k` in the settings of the run in progress. -/
def runSlot (s : State) (k : Nat) : Nat := natIn s.hk.settings (K.slot k)

/-- The limits of R279. -/
def slotOk (w : Nat) : Bool :=
  let src (x : Nat) : Bool := decide (0x20 ≤ x ∧ x ≤ 0x2F) || x == 255
  (decide (slotA w ≤ 11) || src (slotA w)) && (decide (12 ≤ slotB w ∧ slotB w ≤ 23) || src (slotB w))
    && decide (2 ≤ slotSettle w) && decide (slotAvg w ≤ 8)

/-! ### The sensor currents -/

/-- The slot in progress converts input `code`. -/
def slotConverts (s : State) (code : Nat) : Bool :=
  let w := runSlot s s.hk.slot
  s.hk.running && (slotA w == code || slotB w == code)

/-- The input of a sensor channel (Table 11-1). -/
def sensorInput (c : Fin 4) : Nat := if c.val < 2 then 10 + c.val else 20 + c.val

/-- I_k of R286 in pA: 1 mA / 2^k. -/
def excitationOf (k : Nat) : Nat := 1000000000 / 2 ^ k

/-- Current in pA that channel `c` drives through SENSc_EXC now (R286, R290): from the start to the end of every slot that converts it,
but of a test slot; off at every other time. -/
def excitationNow (s : State) (c : Fin 4) : Nat :=
  if slotConverts s (sensorInput c) && !slotTest (runSlot s s.hk.slot) then excitationOf (natIn s.hk.settings (K.excStep c)) else 0

/-- Burn-out current in pA into SENSc_EXC now (R286, R290): 1 µA with BURNOUT while the excitation is off, but in a test slot of the
channel. -/
def burnoutNow (s : State) (c : Fin 4) : Nat :=
  if natIn s.hk.settings (K.burnout c) = 1 && !slotConverts s (sensorInput c) then 1000000 else 0

/-! ### Runs -/

/-- The entries that choose what starts a run (R283). -/
def hkStartKeys : List Key := [K.hkMode, K.timerPeriod, K.pwmLine, K.pwmDelay]

/-- HK_MODE, TIMER_PERIOD, PWM_LINE or PWM_DELAY takes effect now: the timer's first start is at this instant (R283). -/
def renewStarts (s : State) : State :=
  s.onHk fun h => { h with nextTimer := if s.nat K.hkMode = 1 then some s.clk.now else none, edges := [], renewWaits := false }

/-- A run starts (R280, R283, R285). -/
def startRun (s : State) : State :=
  let s := (s.incWrap 32 K.runCount).setNum K.hkState 1
  s.onHk fun h => { h with running := true, settings := s.dict.store, slot := 0, slotStart := s.clk.now, raws := [],
                           openA := false, openB := false }

/-- A start that arrives while a run or a self-calibration is in progress is dropped (R282). -/
def tryStart (s : State) : State :=
  if s.hk.running || s.hk.calBusy then
    (s.inc K.missedStarts).onHk fun h => { h with sticky := h.sticky ||| 1 }
  else startRun s

/-- The end of the run in progress: changed start settings take effect, and mode 3 starts the next run (R280, R283). -/
def endRun (s : State) : State :=
  let changed := hkStartKeys.any fun k => decide (valIn s.hk.settings k ≠ valIn s.dict.store k)
  let s := (s.setNum K.hkState 0).onHk fun h => { h with running := false }
  if changed then renewStarts s else s

/-- Self-calibration begins (R291). -/
def beginCal (s : State) : State :=
  let s := (s.setNum K.hkState 2).setNum K.hkCalState 1
  s.onHk fun h => { h with calBusy := true, calWaits := false, calSince := some s.clk.now }

/-- A self-calibration is asked for: at once, or at the end of the slot in progress (R291). -/
def requestCal (s : State) : State :=
  if s.hk.running then s.onHk fun h => { h with calWaits := true } else beginCal s

/-! ### Results -/

/-- The sensor channel of an input (Table 11-1). -/
def sensorOf (code : Nat) : Option (Fin 4) :=
  if code = 10 then some 0 else if code = 11 then some 1 else if code = 22 then some 2 else if code = 23 then some 3 else none

/-- Divider of an internal source (Table 11-2). -/
def divider (code : Nat) : Nat :=
  if code = 0x2A || code = 0x2D then 2 else if code = 0x2E || code = 0x2F then 4 else 1

/-- A die temperature source. -/
def dieSource (code : Nat) : Bool := decide (0x23 ≤ code ∧ code ≤ 0x26)

/-- CODE_FINE of the raw codes of one converter (R284): corrected, averaged, rounded, limited. -/
def codeFine (m : Sparse DVal) (second : Bool) (raws : List Nat) : Nat :=
  let off := numIn m (if second then K.offsetB else K.offsetA)
  let gain : Int := natIn m (if second then K.gainB else K.gainA)
  let total := raws.foldl (fun (t : Int) (r : Nat) => t + ((r : Int) * 16 - off) * gain) 0
  (clampInt 0 65520 (roundDiv total (32768 * max 1 raws.length))).toNat

/-- CODE of a CODE_FINE (R284). -/
def codeOfFine (f : Nat) : Nat := min 4095 ((f + 8) / 16)

/-- VALUE of a CODE_FINE for an input (R284). -/
def hkValueOf (m : Sparse DVal) (code f : Nat) : Int :=
  match sensorOf code with
  | some c => roundDiv ((f * 1800000 : Nat) : Int) (65536 * 2 ^ natIn m (K.gainStep c))
  | none =>
    if dieSource code then roundDiv ((f * 18000000 : Nat) : Int) (65536 * 12)
    else roundDiv ((f * 1800000 * divider code : Nat) : Int) 65536

/-- R of R287 in mΩ, as numerator and denominator. -/
def resistanceOf (m : Sparse DVal) (c f : Nat) : Int × Nat :=
  let g := natIn m (K.gainStep c)
  let k := natIn m (K.excStep c)
  let den := 65536 * 2 ^ g * natIn m (K.pgaFactor c g) * natIn m (K.excFactor c k)
  ((f * 1800000 * 2 ^ k * 2 ^ 30 : Nat) - (natIn m (K.leadMohm c) * den : Nat), den)

/-- 10^27 times R / R0 of a PT1000 at `t` thousandths of a degree Celsius (R287). -/
def ptCurve (t : Int) : Int :=
  10 ^ 27 + 39083 * 10 ^ 17 * t - 5775 * 10 ^ 11 * t * t - (if t < 0 then 4183 * (t - 100000) * t * t * t else 0)

/-- Largest of the temperatures from `lo` up, in steps below 2^n, at which the curve does not exceed R. -/
def ptSolve (num : Int) (den r0 : Nat) : Nat → Int → Int
  | 0, lo => lo
  | n + 1, lo =>
    let x := lo + 2 ^ n
    ptSolve num den r0 n (if ptCurve x * (r0 * den : Nat) ≤ num * 10 ^ 27 then x else lo)

/-- TEMPERATURE in mK of a resistance (R287), none outside its range: a PT1000's solution is free within 1 mK. -/
def temperatureOf (m : Sparse DVal) (c : Nat) (num : Int) (den free : Nat) : Option Nat :=
  let r0 := natIn m (K.rNominal c)
  if num ≤ 0 then none
  else if natIn m (K.sensType c) = 1 then
    if num * 10 ^ 27 < ptCurve (-200000) * (r0 * den : Nat) || ptCurve 850000 * (r0 * den : Nat) < num * 10 ^ 27 then none
    else some (ptSolve num den r0 21 (-200000) + 273150 + (free % 2 : Nat)).toNat
  else
    let b : Int := natIn m (K.beta c)
    let d := 20 * 10 ^ 12 * b + 5963 * lnRatio num.toNat (r0 * den)
    if d ≤ 0 then none
    else
      let t := roundDiv (5963 * 10 ^ 15 * b) d.toNat
      if t < 200000 || 450000 < t then none else some t.toNat

/-- A valid reading of a sensor channel, in mK: it belongs to the DTS block that fills, or else to the time before the next one (R265). -/
def noteReading (c : Fin 4) (t : Nat) (s : State) : State :=
  let r := s.raman
  { s with raman := match r.filling with
    | some b => { r with filling := some { b with sensorSum := vmod b.sensorSum c (· + t), sensorCount := vmod b.sensorCount c (· + 1) } }
    | none => { r with gapSum := vmod r.gapSum c (· + t), gapCount := vmod r.gapCount c (· + 1) } }

/-- The measured temperature of a sensor channel: RESISTANCE, TEMPERATURE, SENS_FLAGS (R287). -/
def sensorResult (m : Sparse DVal) (c : Fin 4) (f : Nat) (high short : Bool) (s : State) : State :=
  let (num, den) := resistanceOf m c f
  let r := roundDiv num den
  let s := if r < 0 then s.draw.setNum (K.resistance c) (s.free (2 ^ 32) : Nat) else s.setNum (K.resistance c) r
  let flags (valid out : Bool) : Nat := b2n valid + 4 * b2n short + 8 * b2n high + 16 * b2n out
  if natIn m (K.sensType c) = 0 then s.setNum (K.sensFlags c) (flags false false : Nat)
  else if short || high then s.setNum (K.sensFlags c) (flags false false : Nat)
  else
    let free := s.free 2
    match temperatureOf m c num den free with
    | some t =>
      let s := (s.draw.setNum (K.temperature c) t).setNum (K.sensFlags c) (flags true false : Nat)
      noteReading c t s
    | none => s.setNum (K.sensFlags c) (flags false true : Nat)

/-- Change what an input holds beside its entries. -/
def onHkInput (code : Nat) (f : HkInput → HkInput) (s : State) : State :=
  if h : code < 48 then s.onHk fun x => { x with inputs := vmod x.inputs ⟨code, h⟩ f } else s

/-- What an input holds beside its entries. -/
def hkInput (s : State) (code : Nat) : HkInput := s.hk.inputs.toList.getD code {}

/-- The limit monitor takes a result (R292): the LIMIT flag after it. -/
def limitMonitor (m : Sparse DVal) (code x : Nat) (was : Bool) (s : State) : Bool × State :=
  let out := decide (x < natIn m (K.limitLow code) ∨ natIn m (K.limitHigh code) < x)
  if out then
    let n := (hkInput s code).outRun + 1
    let s := onHkInput code (fun h => { h with outRun := n }) s
    if !was && decide (natIn m (K.limitConsec code) ≤ n) then
      (true, raise 41 ((s.inc (K.limitEvents code)).onHk fun h => { h with sticky := h.sticky ||| 8 }))
    else (was, s)
  else (false, onHkInput code (fun h => { h with outRun := 0 }) s)

/-- An "open" result (R288, R289). -/
def openResult (m : Sparse DVal) (code : Nat) (c : Fin 4) (s : State) : State :=
  let flags := s.nat (K.hkInFlags code)
  let s := s.inc (K.openCount code)
  let s := ((s.setNum (K.hkCode code) 4095).setNum (K.hkCodeFine code) 65520).setNum (K.hkValue code) (hkValueOf m code 65520)
  let s := s.setNum (K.hkInFlags code) (bitsOf (fun i => i == 0 || i == 1 || (4 ≤ i && bitOf flags i)) 6 : Nat)
  let s := s.setNum (K.sensFlags c) 2
  let s := if bitOf flags 1 then s
    else
      let s := s.onHk fun h => { h with sticky := h.sticky ||| 4 }
      raise 39 (record 1 (0x4800 + code) 0x0601 (leBytes 1 s.hk.slot ++ zeros 3 ++ leBytes 4 (s.nat K.runCount)) s)
  compConversion code 4095 true s

/-- A result that is not "open" (R284, R285, R287, R292). -/
def plainResult (m : Sparse DVal) (code f : Nat) (high : Bool) (s : State) : State :=
  let x := codeOfFine f
  let short := decide (code ≤ 23 ∧ x ≤ 8)
  let flags := s.nat (K.hkInFlags code)
  let s := ((s.setNum (K.hkCode code) x).setNum (K.hkCodeFine code) f).setNum (K.hkValue code) (hkValueOf m code f)
  let (lim, s) := limitMonitor m code x (bitOf flags 4) s
  let s := s.setNum (K.hkInFlags code)
    (bitsOf (fun i => i == 0 || (i == 2 && short) || (i == 3 && high) || (i == 4 && lim) || (i == 5 && bitOf flags 5)) 6 : Nat)
  let s := match sensorOf code with
    | some c => sensorResult m c f high short s
    | none => s
  compConversion code x false s

/-- A test result (R290). -/
def testResult (m : Sparse DVal) (code f : Nat) (s : State) : State :=
  let x := codeOfFine f
  let d := natIn m K.testDac
  let flags := s.nat (K.hkInFlags code)
  let s := s.setNum (K.testCode code) x
  if 24 < ((x : Int) - 16 * d).natAbs then
    let s := (s.setNum (K.hkInFlags code) (bitsOf (fun i => i == 5 || bitOf flags i) 6 : Nat)).onHk fun h =>
      { h with sticky := h.sticky ||| 2 }
    raise 40 (record 1 (0x4800 + code) 0x0602 (leBytes 2 x ++ leBytes 1 d) s)
  else s.setNum (K.hkInFlags code) (bitsOf (fun i => i != 5 && bitOf flags i) 6 : Nat)

/-- The result of one of a slot's two inputs (R285). -/
def inputResult (m : Sparse DVal) (w code : Nat) (second opened : Bool) (s : State) : State :=
  if code = 255 then s
  else
    -- every result of a channel carries its run, its temperature too (R285, R296)
    let s := match sensorOf code, slotTest w with
      | some c, false => s.onHk fun h => { h with tempSeq := h.tempSeq.set c (s.nat K.runCount % 128) }
      | _, _ => s
    let raws := s.hk.raws.map fun r => if second then r.2 else r.1
    let f := codeFine m second raws
    if slotTest w then testResult m code f s
    else
      let s := onHkInput code (fun h => { h with runSeq := s.nat K.runCount % 256 }) s
      match sensorOf code, opened with
      | some c, true => openResult m code c s
      | _, _ => plainResult m code f (raws.contains 4095) s

/-- Both results of the slot that ends (R285). -/
def slotResults (s : State) : State :=
  let w := runSlot s s.hk.slot
  let m := s.hk.settings
  inputResult m w (slotB w) true s.hk.openB (inputResult m w (slotA w) false s.hk.openA s)

/-- What follows a slot: a waiting self-calibration, the next slot, or the end of the run (R281, R291). -/
def nextSlot (s : State) : State :=
  let k := s.hk.slot + 1
  if s.hk.calWaits then beginCal (endRun s)
  else if k < natIn s.hk.settings K.hkSeqLength then
    s.onHk fun h => { h with slot := k, slotStart := s.clk.now, raws := [], openA := false, openB := false }
  else
    let s := endRun s
    if s.nat K.hkMode = 3 then startRun s else s

/-- The 68 factors in the order of Table 11-12. -/
def factorKeys : List Key :=
  [K.offsetA, K.gainA, K.offsetB, K.gainB]
    ++ (List.range 4).flatMap fun c => (List.range 8).map (K.pgaFactor c) ++ (List.range 8).map (K.excFactor c)

/-- A factor lies within its limits (R291). -/
def factorOk (i : Nat) (v : Int) : Bool :=
  if i = 0 || i = 2 then decide (-2048 ≤ v ∧ v ≤ 2048) else decide (31130 ≤ v ∧ v ≤ 34406)

/-- The end of a self-calibration (R291, R293). A change of a start setting made while it ran takes effect here, where sequencing resumes:
R283 speaks of the end of a run only (DESIGN CHOICE, log entry 110). -/
def endCal (factors : List Int) (s : State) : State :=
  let s := match (List.range 68).find? fun i => !factorOk i (factors.getD i 0) with
    | some i =>
      record 1 0x4800 0x0603 (leBytes 1 i ++ zeros 1 ++ leBytes 2 (ofSigned 16 (factors.getD i 0))) (s.setNum K.hkCalState 3)
    | none =>
      ((List.range 68).foldl (fun (s : State) (i : Nat) => s.setNum (factorKeys.getD i 0) (factors.getD i 0)) s).setNum K.hkCalState 2
  let s := (s.setNum K.hkState 0).onHk fun h => { h with calBusy := false, calSince := none }
  let s := if s.hk.renewWaits || (s.nat K.hkMode == 1 && s.hk.nextTimer.isNone) then renewStarts s else s
  if s.nat K.hkMode = 3 then startRun s else s

/-- HK_STATUS (Table 11-6). -/
def hkStatus (s : State) : Nat :=
  b2n s.hk.calBusy * 2 ^ 31 + b2n s.hk.running * 2 ^ 30 + s.nat K.runCount % 256 * 2 ^ 16 + s.hk.sticky.toNat * 2 ^ 8 + s.hk.slot

/-- HK_RESULT of an input (Table 11-7). -/
def hkResult (s : State) (code : Nat) : Nat :=
  let f := s.nat (K.hkInFlags code)
  b2n (bitOf f 0) * 2 ^ 31 + b2n (bitOf f 1) * 2 ^ 30 + b2n (bitOf f 2) * 2 ^ 29 + b2n (bitOf f 3) * 2 ^ 28
    + b2n (bitOf f 4) * 2 ^ 27 + b2n (bitOf f 5) * 2 ^ 26 + (hkInput s code).runSeq * 2 ^ 16 + s.nat (K.hkCode code)

/-- HK_SENS_TEMP of a sensor channel (Table 11-8). -/
def hkSensTemp (s : State) (c : Fin 4) : Nat :=
  b2n (bitOf (s.nat (K.sensFlags c)) 0) * 2 ^ 31 + s.hk.tempSeq[c] * 2 ^ 24 + s.nat (K.temperature c) % 2 ^ 24

/-- Clear sticky bits of HK_STATUS [11:8] (R295, R297). -/
def clearSticky (m : BitVec 4) (s : State) : State := s.onHk fun h => { h with sticky := h.sticky &&& ~~~m }

end Sys2Proof.Machine
end

