-- ==== Sys2Proof/Machine/Operands.lean ====
section
/-!
DEFINITION. Machine/Operands.lean: the engine's slot formats: which field contents are legal for each operation (Table 7-3 to
Table 7-8, "Illegal encodings"), reading the fields out of a slot word, and the pure arithmetic of the operations
(R181, R184, R185, R187).
-/

namespace Sys2Proof

open Sys2Proof.Machine

/-! ### Guards and legal fields -/

/-- With GE = 0, GN and GQ must be 0 (R178). -/
def Guard.legal (g : Guard) : Bool := g.ge || (!g.gn && g.gq == 0)

/-- As `Guard.legal`, for an L slot. -/
def LGuard.legal (g : LGuard) : Bool := g.ge || g.gq == 0

/-- The guard lets the operation take effect (R178). -/
def Guard.open_ (g : Guard) (q : Vector Bool 4) : Bool := !g.ge || (q[g.gq] ^^ g.gn)

/-- As `Guard.open_`, for an L slot: no negation. -/
def LGuard.open_ (g : LGuard) (q : Vector Bool 4) : Bool := !g.ge || q[g.gq]

/-- MAC and MSU: FRAC needs signed operands (R184). -/
def MulForm.macLegal (f : MulForm) : Bool := f.zero == 0 && !(f.frac && (f.ua || f.ub))

/-- MUL and MULN do not use SATA. -/
def MulForm.mulLegal (f : MulForm) : Bool := f.macLegal && !f.sata

/-- Accumulator forms: which of GR, AS, RND and SAT the operation uses, and its greatest SH (R185). -/
def AccForm.legal (gr as_ rnd sat : Bool) (shMax : Nat) (f : AccForm) : Bool :=
  f.zero == 0 && (gr || f.gr == 0) && (as_ || f.as_ == 0) && (rnd || !f.rnd) && (sat || !f.sat) && f.sh.val ≤ shMax

/-- Register form with three registers. -/
def RegForm.legal3 (f : RegForm) : Bool := f.zero == 0 && f.qs == 0

/-- Register form with S2 zero. -/
def RegForm.legal2 (f : RegForm) : Bool := f.legal3 && f.s2 == 0

/-- D names a predicate: [21:19] are zero (R186). -/
def qdLegal (d : Fin 32) : Bool := d.val < 4

/-- The predicate that D, S1 or S2 names. -/
def qOf (x : Fin 32) : Fin 4 := ⟨x.val % 4, Nat.mod_lt _ (by decide)⟩

/-- The address register that D or S1 names. -/
def aOf (x : Fin 32) : Fin 8 := ⟨x.val % 8, Nat.mod_lt _ (by decide)⟩

/-- The poison class in S2[4:3], with S2[2:0] zero (R188). -/
def classLegal (s2 : Fin 32) : Bool := s2.val % 8 == 0

/-- The register field names a register of class `c`: its unused bits are zero (R188). -/
def classReg (c : Nat) (x : Fin 32) : Bool := if c = 0 then true else if c = 1 then x.val < 4 else x.val < 8

/-- Register form that names address register `x` in D or S1, the other bits zero. -/
def addrLegal (x : Fin 32) : Bool := x.val < 8

/-! ### Reading a slot word -/

/-- `n` bits from bit `o` of a word. -/
def bitsAt (w o n : Nat) : Nat := w / 2 ^ o % 2 ^ n

/-- A 5-bit register field. -/
def reg5 (w o : Nat) : Fin 32 := ⟨bitsAt w o 5, Nat.mod_lt _ (by decide)⟩

/-- A 2-bit field. -/
def two (w o : Nat) : Fin 4 := ⟨bitsAt w o 2, Nat.mod_lt _ (by decide)⟩

/-- The guard of an M or A slot word. -/
def guardOf (w : Nat) : Guard := { ge := bitOf w 31, gn := bitOf w 30, gq := two w 28 }

/-- The multiply format of an M slot word. -/
def mulForm (w : Nat) : MulForm :=
  { ad := two w 21, sa := reg5 w 16, sb := reg5 w 11, ha := bitOf w 10, hb := bitOf w 9, ua := bitOf w 8, ub := bitOf w 7,
    frac := bitOf w 6, sata := bitOf w 5, zero := BitVec.ofNat 5 w }

/-- The accumulator format of an M slot word. -/
def accForm (w : Nat) : AccForm :=
  { ad := two w 21, gr := reg5 w 16, as_ := two w 14, sh := ⟨bitsAt w 8 6, Nat.mod_lt _ (by decide)⟩, rnd := bitOf w 7,
    sat := bitOf w 6, zero := BitVec.ofNat 6 w }

/-- The register form of an A slot word. -/
def regForm (w : Nat) : RegForm :=
  { d := reg5 w 17, s1 := reg5 w 12, s2 := reg5 w 7, qs := two w 5, zero := BitVec.ofNat 5 w }

/-- The immediate form of an A slot word. -/
def immForm (w : Nat) : ImmForm := { d := reg5 w 17, s1 := reg5 w 12, imm := BitVec.ofNat 12 w }

/-- The long immediate form of an A slot word. -/
def longForm (w : Nat) : LongForm := { d := reg5 w 17, zero := bitOf w 16, imm := BitVec.ofNat 16 w }

/-- The guard and the fields of an L slot word. -/
def lGuardOf (w : Nat) : LGuard := { ge := bitOf w 23, gq := two w 21 }
def lForm (w : Nat) : LForm :=
  { gr := reg5 w 12, pn := ⟨bitsAt w 9 3, Nat.mod_lt _ (by decide)⟩, size := two w 7, pm := bitOf w 6,
    off := BitVec.ofNat 6 w }

/-! ### Legality by operation -/

/-- The M operations. -/
inductive MOp where
  | mul | mac | msu | muln | aclr | amov | aadd | asub | aldg | aext | aex16 | ashr
  deriving DecidableEq, Repr

/-- Legal accumulator fields of an operation (R185). -/
def MOp.accLegal (o : MOp) (f : AccForm) : Bool :=
  match o with
  | .aclr => f.legal false false false false 0
  | .amov => f.legal false true false false 0
  | .aadd | .asub => f.legal false true false true 0
  | .aldg => f.legal true false false true 8
  | .aext | .aex16 => f.legal true false true true 39
  | .ashr => f.legal false false true false 39
  | .mul | .mac | .msu | .muln => false

/-- Legal multiply fields of an operation (R184). -/
def MOp.mulLegal (o : MOp) (f : MulForm) : Bool :=
  match o with
  | .mul | .muln => f.mulLegal
  | .mac | .msu => f.macLegal
  | _ => false

/-- The operation of a MOP code (R184, R185). -/
def mopOf (c : Nat) : Option MOp :=
  if c = 0x01 then some .mul else if c = 0x02 then some .mac else if c = 0x03 then some .msu
  else if c = 0x04 then some .muln else if c = 0x10 then some .aclr else if c = 0x11 then some .amov
  else if c = 0x12 then some .aadd else if c = 0x13 then some .asub else if c = 0x14 then some .aldg
  else if c = 0x15 then some .aext else if c = 0x16 then some .aex16 else if c = 0x17 then some .ashr else none

/-- An M slot word is legal (R182, R199). -/
def mWordLegal (w : Nat) : Bool :=
  let c := bitsAt w 23 5
  if c = 0 then w == 0
  else match mopOf c with
    | some o => (guardOf w).legal && (if c < 16 then o.mulLegal (mulForm w) else o.accLegal (accForm w))
    | none => false

/-- The fields of an A slot word with opcode `c` are legal (Table 7-5, R188). -/
def aFieldsLegal (c w : Nat) : Bool :=
  let f := regForm w
  let i := immForm w
  if c ∈ [0x01, 0x02, 0x03, 0x04, 0x05, 0x06, 0x07, 0x08, 0x09, 0x0A, 0x0B, 0x0C, 0x0E, 0x0F, 0x10, 0x11, 0x14] then
    f.legal3
  else if c ∈ [0x0D, 0x12, 0x13, 0x16] then f.legal2
  else if c = 0x15 then f.zero == 0
  else if c ∈ [0x18, 0x19, 0x1A, 0x1B] then f.legal3 && qdLegal f.d
  else if c ∈ [0x1C, 0x1D] then f.legal3 && qdLegal f.d && qdLegal f.s1 && qdLegal f.s2
  else if c = 0x1E then f.legal2 && qdLegal f.d && qdLegal f.s1
  else if c = 0x1F then qdLegal i.d && i.s1 == 0 && i.imm.toNat < 2
  else if c = 0x20 then f.legal3 && qdLegal f.d && classLegal f.s2 && classReg (f.s2.val / 8) f.s1
  else if c ∈ [0x21, 0x22] then f.legal3 && f.s1 == 0 && classLegal f.s2 && classReg (f.s2.val / 8) f.d
  else if c ∈ [0x28, 0x29, 0x2A, 0x2B] then true
  else if c ∈ [0x2C, 0x2D, 0x2E] then i.imm.toNat < 32
  else if c ∈ [0x2F, 0x30] then qdLegal i.d
  else if c ∈ [0x34, 0x35] then !(longForm w).zero
  else if c ∈ [0x38, 0x39, 0x3A] then f.legal2 && addrLegal f.d
  else if c ∈ [0x3B, 0x3C, 0x3D] then f.legal2 && addrLegal f.s1
  else false

/-- An A slot word is legal (R186, R199). -/
def aWordLegal (w : Nat) : Bool :=
  let c := bitsAt w 22 6
  if c = 0 then w == 0 else (guardOf w).legal && aFieldsLegal c w

/-- Fields of LD and ST (R189). -/
def LForm.memLegal (f : LForm) : Bool := f.size != 3

/-- Fields of PMOD. -/
def LForm.pmodLegal (f : LForm) : Bool := f.gr == 0 && f.size == 0 && f.off == 0 && f.pm

/-- Fields of POST. -/
def LForm.postLegal (f : LForm) : Bool := f.gr.val % 4 == 0 && f.pn == 0 && f.size == 0 && !f.pm && f.off == 0

/-- An L slot word is legal (R189, R199). -/
def lWordLegal (w : Nat) : Bool :=
  let c := bitsAt w 17 4
  let f := lForm w
  if c = 0 then w == 0
  else (lGuardOf w).legal
    && (if c = 1 || c = 2 then f.memLegal else if c = 3 then f.pmodLegal else if c = 4 then f.postLegal else false)

/-- The C operations. -/
inductive COp where
  | nop | seg | end_ | br (target : Nat) | brt (q target : Nat) | brf (q target : Nat)
  | rep (rot : Bool) (count len : Nat)
  deriving DecidableEq, Repr

/-- The operation of a C slot word (Table 7-8); none if it is unassigned. -/
def cOpOf (w : Nat) : Option COp :=
  let cls := bitsAt w 14 2
  let q := bitsAt w 12 2
  let t := bitsAt w 0 12
  if cls = 0 then
    if q = 1 then some (.br t)
    else if q = 0 && t = 0 then some .nop
    else if q = 0 && t = 1 then some .seg
    else if q = 0 && t = 2 then some .end_
    else none
  else if cls = 1 then some (.brt q t)
  else if cls = 2 then some (.brf q t)
  else some (.rep (bitOf w 13) (bitsAt w 6 7) (bitsAt w 0 6))

/-- The slot words of a bundle (Table 7-1). -/
def cWord (b : BitVec 128) : Nat := bitsAt b.toNat 112 16
def mWord (b : BitVec 128) : Nat := bitsAt b.toNat 80 32
def aWord (b : BitVec 128) : Nat := bitsAt b.toNat 48 32
def l0Word (b : BitVec 128) : Nat := bitsAt b.toNat 24 24
def l1Word (b : BitVec 128) : Nat := bitsAt b.toNat 0 24

/-- Every slot of a bundle has a legal encoding, and END stands alone (R198, R199). -/
def bundleLegal (b : BitVec 128) : Bool :=
  (cOpOf (cWord b)).isSome && mWordLegal (mWord b) && aWordLegal (aWord b) && lWordLegal (l0Word b)
    && lWordLegal (l1Word b) && (cOpOf (cWord b) != some .end_ || b.toNat % 2 ^ 112 == 0)

/-- Ones among the low `n` bits, odd or even. -/
def oddOnes (n v : Nat) : Bool := ((List.range n).countP fun i => bitOf v i) % 2 = 1

/-- The stored word of a bundle with its four parity bits (R176). -/
def storedBundle (b : BitVec 128) : BitVec 132 :=
  BitVec.ofNat 132 (b.toNat + 2 ^ 128 * bitsOf (fun j => oddOnes 32 (bitsAt b.toNat (32 * j) 32)) 4)

/-- A stored bundle word has good parity (R176). -/
def bundleParityOk (w : BitVec 132) : Bool := w == storedBundle (BitVec.ofNat 128 w.toNat)

/-! ### Arithmetic -/

/-- Limit to `w` bits signed, or keep the low bits (R181). -/
def lim (w : Nat) (sat : Bool) (x : Int) : BitVec w :=
  BitVec.ofInt w (if sat then clampInt (-(2 ^ (w - 1) : Nat)) ((2 ^ (w - 1) : Nat) - 1) x else x)

/-- A 16-bit half as an operand: signed unless `u` (R184). -/
def halfOf (v : BitVec 32) (hi u : Bool) : Int :=
  let h := if hi then v.extractLsb' 16 16 else v.extractLsb' 0 16
  if u then (h.toNat : Int) else h.toInt

/-- prod of R184. -/
def product (f : MulForm) (a b : BitVec 32) : Int :=
  let x := halfOf a f.ha f.ua * halfOf b f.hb f.ub
  if f.frac then 2 * x else x

/-- shr of R185: arithmetic right shift, rounding halves towards +∞ if `rnd`. -/
def shrRnd (x : Int) (sh : Nat) (rnd : Bool) : Int :=
  if sh = 0 then x else (if rnd then x + (2 ^ (sh - 1) : Nat) else x) / (2 ^ sh : Nat)

/-- A saturating 32-bit result. -/
def sat32 (x : Int) : BitVec 32 := lim 32 true x

/-- A saturating or wrapping operation on each half (R187). -/
def perHalf (sat : Bool) (op : Int → Int → Int) (a b : BitVec 32) : BitVec 32 :=
  (lim 16 sat (op (halfOf a true false) (halfOf b true false))).append
    (lim 16 sat (op (halfOf a false false) (halfOf b false false)))

/-- Smallest power of two at or above `n`, from `k` up. -/
def pow2From : Nat → Nat → Nat → Nat
  | 0, k, _ => k
  | f + 1, k, n => if n ≤ k then k else pow2From f (2 * k) n

/-- Smallest power of two at or above `n` (R147). -/
def pow2Above (n : Nat) : Nat := pow2From 24 1 n

/-- A pointer moved by `d`: linear modulo 2^24, or within its circular buffer (R147, R190). -/
def moved (p l : BitVec 24) (d : Int) : BitVec 24 :=
  if l = 0 then BitVec.ofInt 24 ((p.toNat : Int) + d)
  else
    let w := pow2Above l.toNat
    let b := p.toNat / w * w
    BitVec.ofInt 24 ((b : Int) + ((p.toNat - b : Nat) + d) % (l.toNat : Int))

/-- Bytes of an access of SIZE (R190). -/
def sizeBytes (size : Fin 4) : Nat := if size = 0 then 4 else 2

/-- The effective address of R190. -/
def effAddr (p l : BitVec 24) (f : LForm) : Nat :=
  let n := sizeBytes f.size
  (moved p l (f.off.toInt * n)).toNat / n * n

/-- Sign-extended IMM12. -/
def immS (f : ImmForm) : BitVec 32 := f.imm.signExtend 32

/-- Zero-extended IMM12. -/
def immZ (f : ImmForm) : BitVec 32 := f.imm.zeroExtend 32

/-- A shift amount from a register: s2[4:0] (R187). -/
def shAmt (v : BitVec 32) : Nat := v.toNat % 32

end Sys2Proof
end

