-- ==== Sys2Proof/Machine/EngineOps.lean ====
section
/-!
DEFINITION. Machine/EngineOps.lean: an engine's cycle (R146 to R163): landing results, program counter, safe points, parity and
poison, memory accesses, descriptors, and the frame in which every slot operation issues.
-/

namespace Sys2Proof.Machine

/-! ### Access to the array -/

/-- Engine `e`. -/
def State.eng (s : State) (e : Fin 32) : Engine := s.array.engines[e]

/-- Change engine `e`. -/
def State.onEng (s : State) (e : Fin 32) (f : Engine → Engine) : State :=
  { s with array := { s.array with engines := vmod s.array.engines e f } }

/-- Classroom of engine `e` (R144). -/
def roomIdx (e : Fin 32) : Fin 4 := ⟨e.val / 8, by omega⟩

/-- Classroom `r`. -/
def State.room (s : State) (r : Fin 4) : Classroom := s.array.rooms[r]

/-- Change classroom `r`. -/
def State.onRoom (s : State) (r : Fin 4) (f : Classroom → Classroom) : State :=
  { s with array := { s.array with rooms := vmod s.array.rooms r f } }

/-- Engine `e` runs a lesson. -/
def engRunning (s : State) (e : Fin 32) : Bool := s.nat (K.engineState e) == 1

/-- Number of the bell whose data the lessons process (R155). -/
def processed (s : State) : Nat :=
  match s.bell.processing with
  | some b => b.header.number
  | none => 0

/-- A word of data memory or of classroom memory (R151). -/
def getWord (e : Fin 32) (a : Nat) (s : State) : MemWord :=
  if a < 0x60000 then sparseGet (fun _ => {}) (s.eng e).mem (a / 4)
  else sparseGet (fun _ => {}) (s.room (roomIdx e)).mem ((a - 0x100000) / 4)

/-- Write a word of data memory or of classroom memory. -/
def setWord (e : Fin 32) (a : Nat) (w : MemWord) (s : State) : State :=
  if a < 0x60000 then s.onEng e fun x => { x with mem := sparseSet (fun _ => {}) x.mem (a / 4) w }
  else s.onRoom (roomIdx e) fun x => { x with mem := sparseSet (fun _ => {}) x.mem ((a - 0x100000) / 4) w }

/-- An address is mapped (Table 6-4). -/
def mapped (a : Nat) : Bool := a < 0x60000 || (0x100000 ≤ a && a < 0x300000)

/-- CLASS of an address in the region table that governs it (R211). -/
def classAt (s : State) (e : Fin 32) (a : Nat) : Nat :=
  if a < 0x60000 then classIn (regionsOf (engSec s 4 e)) a else classIn (regionsOf (roomSec s 4 (e / 8))) a

/-- A word that was found hard, by any engine that reaches it (R161). -/
def isHard (e : Fin 32) (a : Nat) (s : State) : Bool :=
  if a < 0x60000 then (s.eng e).hard.contains (a / 4 * 4)
  else (List.finRange 32).any fun f => roomIdx f == roomIdx e && (s.eng f).hard.contains (a / 4 * 4)

/-- A word as a read finds it: a hard one shows bad parity whatever was written (R161). -/
def readMem (e : Fin 32) (a : Nat) (s : State) : MemWord :=
  let w := getWord e a s
  { w with bad := w.bad || isHard e a s }

/-- Location code of LAST_FAULT for a region class (R174). -/
def locOfClass (c : Nat) : Nat := if c < 5 then c + 2 else 5

/-! ### Faults and detections -/

/-- LAST_FAULT as it would read after a fault now (R174). -/
def lastFaultBlock (s : State) (e : Fin 32) (addr loc action : Nat) : List Byte :=
  leBytes 8 s.bell.number ++ leBytes 4 addr ++ leBytes 1 loc ++ leBytes 1 action ++ leBytes 2 (s.eng e).segment

/-- A schedule fault of engine `e` (R154): counted, interrupt, one record per engine and bell.  The manual gives LAST_FAULT
no action for one: that byte is a free value. -/
def scheduleFault (addr : Nat) (e : Fin 32) (s : State) : State :=
  let s := s.inc (K.scheduleFaults e)
  let b := lastFaultBlock s e addr 7 (s.free 5)
  let s := (s.draw).setBlock (K.lastFault e) b
  let s := if (s.eng e).faulted then s
    else record 1 (0x3000 + e) 0x0401 b (s.onEng e fun x => { x with faulted := true })
  raise 25 s

/-- A parity detection at a location (R160, R161): counted; handled at the next safe point. From a register or bundle
detection on, no store and no post until the replay begins (R177). -/
def detect (loc addr : Nat) (e : Fin 32) (s : State) : State :=
  (s.inc (K.parityEvents e)).onEng e fun x =>
    { x with dets := if x.dets.contains ⟨loc, addr⟩ then x.dets else x.dets ++ [⟨loc, addr⟩],
             noStore := x.noStore || decide (loc ≤ 1),
             replayAt := match x.replayAt with
               | some c => some c
               | none => some x.cycle }

/-- A compliance fault (R231): `kind` 0 segment cycles, 1 safe-point gap. -/
def complianceFault (kind measured declared : Nat) (e : Fin 32) (s : State) : State :=
  let s := s.inc K.complianceFaults
  let k := runKind s
  let noted := if kind = 0 then s.array.segNoted else s.array.gapNoted
  let s := if noted then s
    else
      let s := { s with array := { s.array with segNoted := s.array.segNoted || kind == 0,
                                                 gapNoted := s.array.gapNoted || kind == 1 } }
      record 2 (0x3000 + e) 0x0404
        (leBytes 1 kind ++ leBytes 1 k ++ leBytes 2 (s.eng e).segment ++ leBytes 4 measured ++ leBytes 4 declared) s
  let s := { s with tt := { s.tt with untrusted := if h : k < 4 then s.tt.untrusted.set k true else s.tt.untrusted } }
  raise 25 (s.setNum (K.fits k) 0)

/-! ### Reading registers -/

/-- The physical register of g name `i` (R146). -/
def physG (rb : BitVec 4) (i : Fin 32) : Fin 32 :=
  if i.val < 16 then i else ⟨16 + (i.val - 16 + rb.toNat) % 16, by omega⟩

/-- An operand read: value, poison, and what its parity check does (R160). `n` is its number in R170's order. -/
def readReg {w : Nat} (n : Nat) (r : Reg w) (e : Fin 32) (s : State) : BitVec w × Bool × State :=
  if (s.eng e).injecting = 5 then (r.v, true, detect 0 n e (s.onEng e fun x => { x with injecting := 0 }))
  else if r.bad then (r.v, true, detect 0 n e s)
  else (r.v, r.tag, s)

/-- Read g name `i`. -/
def readG (i : Fin 32) (e : Fin 32) (s : State) : BitVec 32 × Bool × State :=
  let x := s.eng e
  let k := physG x.regs.rb i
  readReg k x.regs.g[k] e s

/-- Read accumulator `i`. -/
def readAcc (i : Fin 4) (e : Fin 32) (s : State) : BitVec 40 × Bool × State :=
  readReg (32 + i) (s.eng e).regs.acc[i] e s

/-- The accumulator as MAC and MSU read it: the result of a multiply issued into it in the cycle before, if there is one
(R148, R183). -/
def readAccMul (i : Fin 4) (e : Fin 32) (s : State) : BitVec 40 × Bool × State :=
  let x := s.eng e
  match x.flight.find? fun r => r.mul && decide (r.dest = .acc i) && decide (r.issued + 1 = x.cycle) with
  | some r => (r.value, r.tag, s)
  | none => readAcc i e s

/-- Read p, m and l registers. -/
def readP (i : Fin 8) (e : Fin 32) (s : State) : BitVec 24 × Bool × State := readReg (36 + i) (s.eng e).regs.p[i] e s
def readM (i : Fin 8) (e : Fin 32) (s : State) : BitVec 24 × Bool × State := readReg (44 + i) (s.eng e).regs.m[i] e s
def readL (i : Fin 8) (e : Fin 32) (s : State) : BitVec 24 × Bool × State := readReg (52 + i) (s.eng e).regs.l[i] e s

/-! ### Results -/

/-- Send a result on its way: readable `lat` cycles from now (R148). -/
def send (slot lat : Nat) (dest : Dest) (value : BitVec 40) (tag mul : Bool) (e : Fin 32) (s : State) : State :=
  s.onEng e fun x => { x with flight := x.flight ++ [{ ready := x.cycle + lat, issued := x.cycle, slot, dest, value, tag, mul }] }

/-- Send a 32-bit result to g name `i`, resolved now (R146). -/
def sendG (slot lat : Nat) (i : Fin 32) (v : BitVec 32) (tag : Bool) (e : Fin 32) (s : State) : State :=
  send slot lat (.g (physG (s.eng e).regs.rb i)) (v.setWidth 40) tag false e s

/-- Send a predicate; one computed from a poisoned operand is 0 (R160). -/
def sendQ (i : Fin 4) (v tag : Bool) (e : Fin 32) (s : State) : State :=
  send 2 1 (.q i) (if v && !tag then 1 else 0) false false e s

/-- Put a register value in place. -/
def EngRegs.put (r : EngRegs) (d : Dest) (v : BitVec 40) (tag : Bool) : EngRegs :=
  match d with
  | .g i => { r with g := r.g.set i ⟨v.setWidth 32, tag, false⟩ }
  | .acc i => { r with acc := r.acc.set i ⟨v, tag, false⟩ }
  | .p i => { r with p := r.p.set i ⟨v.setWidth 24, tag, false⟩ }
  | .m i => { r with m := r.m.set i ⟨v.setWidth 24, tag, false⟩ }
  | .l i => { r with l := r.l.set i ⟨v.setWidth 24, tag, false⟩ }
  | .q i => { r with q := r.q.set i (v.getLsbD 0) }
  | .word _ | .half _ => r

/-- A word with one half replaced (R191): bad parity of the rest of the word stays. -/
def putHalf (w : MemWord) (a : Nat) (v : BitVec 40) (tag : Bool) : MemWord :=
  let h := v.setWidth 16
  { v := if a % 4 < 2 then (w.v.extractLsb' 16 16).append h else h.append (w.v.extractLsb' 0 16),
    bad := w.bad || tag, flipped := w.flipped }

/-- A result lands. -/
def landOne (e : Fin 32) (s : State) (r : Landing) : State :=
  match r.dest with
  | .word a => setWord e a { v := r.value.setWidth 32, bad := r.tag } s
  | .half a => setWord e a (putHalf (getWord e a s) a r.value r.tag) s
  | d => s.onEng e fun x => { x with regs := x.regs.put d r.value r.tag }

/-- Every result that is readable from this cycle lands, in slot order (R149); two of one slot in a free order. -/
def landAll (e : Fin 32) (s : State) : State :=
  let x := s.eng e
  let now := x.flight.filter fun r => r.ready ≤ x.cycle
  let s := s.onEng e fun x => { x with flight := x.flight.filter fun r => !(r.ready ≤ x.cycle) }
  let ordered := (List.range 5).flatMap fun k =>
    let xs := now.filter fun r => r.slot == k
    if Config.laterKept e x.cycle then xs else xs.reverse
  ordered.foldl (landOne e) s

/-! ### The program counter and safe points -/

/-- The end of a bundle's cycle in the repeats, innermost first: next address, repeats left, rotation base (R146, R196). R196 asks that a
nested body end at or before the end of the enclosing one, and R199 does not list one that passes it: the inner body runs on, and the
enclosing repeat stays active until its last bundle is next issued (DESIGN CHOICE, log entry 105). -/
def repeatStep (cycle : Nat) (pc : BitVec 12) (rb : BitVec 4) : List Repeat → BitVec 12 × List Repeat × BitVec 4
  | [] => (pc + 1, [], rb)
  | r :: rs =>
    if r.starts ≤ cycle ∧ pc = r.last then
      let rb := if r.rot then rb - 1 else rb
      if r.left = 0 then repeatStep cycle pc rb rs
      else (r.first, { r with left := r.left - 1 } :: rs, rb)
    else (pc + 1, r :: rs, rb)

/-- The engine one cycle on, before results land: next bundle, no slot issued. -/
def stepPc (x : Engine) : Engine :=
  let (pc, reps, rb) := repeatStep x.cycle x.pc x.regs.rb x.reps
  let x := { x with cycle := x.cycle + 1, used := 0, suppressed := false, bank := none, reps,
                    regs := { x.regs with rb := rb } }
  match x.branch with
  | some (t, c) => if c = x.cycle then { x with pc := t, branch := none } else { x with pc }
  | none => { x with pc }

/-- A safe point (R158). -/
def safeNow (x : Engine) : Bool :=
  x.flight.isEmpty && x.branch.isNone && x.reps.isEmpty && (match x.delayUntil with
    | some c => decide (c < x.cycle)
    | none => true)

/-- The declared segments of engine `e`. -/
def engSegs (s : State) (e : Fin 32) : List Seg := segsOf (engSec s 3 e)

/-- At a safe point: note it, and judge the distance from the last one (R231). -/
def noteSafe (e : Fin 32) (s : State) : State :=
  let x := s.eng e
  if safeNow x then
    let gap := x.cycle - x.lastSafe
    let s := s.onEng e fun x => { x with lastSafe := x.cycle, lastSafePc := x.pc }
    if 512 < gap then complianceFault 1 gap (((engSegs s e)[x.segment]?.map Seg.maxGap).getD 0) e s else s
  else s

/-- Fetch of the bundle at PC: parity (R160, R177) and breakpoints (R171), whose halt comes at the next safe point. -/
def fetchBundle (e : Fin 32) (s : State) : State :=
  let x := s.eng e
  let s := if x.injecting = 4 || !bundleParityOk (sparseGet (fun _ => 0) x.imem x.pc.toNat) then
      detect 1 x.pc.toNat e
        (s.onEng e fun x => { x with suppressed := true, injecting := if x.injecting = 4 then 0 else x.injecting })
    else s
  if x.breaks.toList.contains (some x.pc) then
    s.onEng e fun x => { x with breakHit := true, haltAt := match x.haltAt with
      | some c => some c
      | none => some (x.cycle + 1) }
  else s

/-- One ENGCLK cycle of engine `e`. -/
def tick (e : Fin 32) (s : State) : State := fetchBundle e (noteSafe e (landAll e (s.onEng e stepPc)))

/-- A debug halt may be taken: requested, and no variant switch comes before it (R159). -/
def haltsNow (x : Engine) : Bool :=
  !x.switchTo && match x.haltAt with
    | some c => decide (c ≤ x.cycle)
    | none => false

/-- A replay may begin: it was requested in an earlier cycle, so that this boundary comes after the request (R159). -/
def replaysNow (x : Engine) : Bool :=
  match x.replayAt with
  | some c => decide (c < x.cycle)
  | none => false

/-- A stop request is honoured here: a bundle boundary that is a safe point, with a request pending (R159). -/
def stopsHere (x : Engine) : Bool := x.used == 0 && safeNow x && (replaysNow x || haltsNow x)

/-- `n` cycles; none if a pending stop request is honoured before they have passed. -/
def ticks (e : Fin 32) : Nat → State → Option State
  | 0, s => some s
  | n + 1, s => if stopsHere (s.eng e) then none else ticks e n (tick e s)

/-- The frame of every slot operation: engine running, before the lesson deadline (R208), no stop request in the way, slots
in the order of R175; a suppressed bundle performs nothing (R177). Otherwise nothing happens (log entry 12). -/
def issue (at_ : At) (slot : Nat) (body : Fin 32 → State → State) (s : State) : State :=
  if !engRunning s at_.eng || s.array.deadline ≤ (s.eng at_.eng).cycle + at_.adv then s
  else match ticks at_.eng at_.adv s with
    | some t =>
      let x := t.eng at_.eng
      if stopsHere x || decide (slot < x.used) then s
      else
        let t := t.onEng at_.eng fun x => { x with used := slot + 1 }
        if x.suppressed then t else body at_.eng t
    | none => s

/-- A guarded slot operation: an illegal encoding is a schedule fault of the slot (R199); a blocked one does nothing
(R179). -/
def guarded (at_ : At) (slot : Nat) (legal : Bool) (open_ : Vector Bool 4 → Bool) (body : Fin 32 → State → State)
    (s : State) : State :=
  issue at_ slot (fun e s =>
    if !legal then scheduleFault (s.eng e).pc.toNat e s
    else if open_ (s.eng e).regs.q then body e s
    else s) s

/-- An M operation. -/
def mOp (at_ : At) (gd : Guard) (legal : Bool) (body : Fin 32 → State → State) (s : State) : State :=
  guarded at_ 1 (gd.legal && legal) gd.open_ body s

/-- An A operation. -/
def aOp (at_ : At) (gd : Guard) (legal : Bool) (body : Fin 32 → State → State) (s : State) : State :=
  guarded at_ 2 (gd.legal && legal) gd.open_ body s

/-- An L operation: slot 3 is L0, slot 4 is L1. -/
def lOp (at_ : At) (second : Bool) (gd : LGuard) (legal : Bool) (body : Nat → Fin 32 → State → State) (s : State) : State :=
  let k := if second then 4 else 3
  guarded at_ k (gd.legal && legal) gd.open_ (body k) s

/-- A C operation. -/
def cOp (at_ : At) (body : Fin 32 → State → State) (s : State) : State := issue at_ 0 body s

/-! ### Shapes of operations -/

/-- A multiply without accumulation: the accumulator is written, not read (R184). -/
def mulWrite (neg : Bool) (f : MulForm) (e : Fin 32) (s : State) : State :=
  let (a, ta, s) := readG f.sa e s
  let (b, tb, s) := readG f.sb e s
  let x := product f a b
  send 1 2 (.acc f.ad) (BitVec.ofInt 40 (if neg then -x else x)) (ta || tb) true e s

/-- A multiply-accumulate (R184). -/
def mulAcc (neg : Bool) (f : MulForm) (e : Fin 32) (s : State) : State :=
  let (a, ta, s) := readG f.sa e s
  let (b, tb, s) := readG f.sb e s
  let (c, tc, s) := readAccMul f.ad e s
  let x := product f a b
  send 1 2 (.acc f.ad) (lim 40 f.sata (if neg then c.toInt - x else c.toInt + x)) (ta || tb || tc) true e s

/-- acc[AD] := op acc[AD] acc[AS] (R185). -/
def accAcc (op : BitVec 40 → BitVec 40 → BitVec 40) (f : AccForm) (e : Fin 32) (s : State) : State :=
  let (a, ta, s) := readAcc f.ad e s
  let (b, tb, s) := readAcc f.as_ e s
  send 1 2 (.acc f.ad) (op a b) (ta || tb) false e s

/-- g[GR] := op acc[AD] (R185). -/
def accExtract (op : BitVec 40 → BitVec 32) (f : AccForm) (e : Fin 32) (s : State) : State :=
  let (a, ta, s) := readAcc f.ad e s
  sendG 1 2 f.gr (op a) ta e s

/-- g[D] := op s1 s2 (R187). -/
def alu2 (op : BitVec 32 → BitVec 32 → BitVec 32) (f : RegForm) (e : Fin 32) (s : State) : State :=
  let (a, ta, s) := readG f.s1 e s
  let (b, tb, s) := readG f.s2 e s
  sendG 2 1 f.d (op a b) (ta || tb) e s

/-- g[D] := op s1 (R187). -/
def alu1 (op : BitVec 32 → BitVec 32) (f : RegForm) (e : Fin 32) (s : State) : State :=
  let (a, ta, s) := readG f.s1 e s
  sendG 2 1 f.d (op a) ta e s

/-- g[D] := op s1, immediate form (R187). -/
def aluImm (op : BitVec 32 → BitVec 32) (f : ImmForm) (e : Fin 32) (s : State) : State :=
  let (a, ta, s) := readG f.s1 e s
  sendG 2 1 f.d (op a) ta e s

/-- q[QD] := op s1 s2 (R187). -/
def cmp2 (op : BitVec 32 → BitVec 32 → Bool) (f : RegForm) (e : Fin 32) (s : State) : State :=
  let (a, ta, s) := readG f.s1 e s
  let (b, tb, s) := readG f.s2 e s
  sendQ (qOf f.d) (op a b) (ta || tb) e s

/-- q[QD] := op s1, immediate form (R187). -/
def cmpImm (op : BitVec 32 → Bool) (f : ImmForm) (e : Fin 32) (s : State) : State :=
  let (a, ta, s) := readG f.s1 e s
  sendQ (qOf f.d) (op a) ta e s

/-- The register of poison class `c` (R188): destination, value, tag, and whether its parity is bad. -/
def classRead (c : Nat) (i : Fin 32) (e : Fin 32) (s : State) : Dest × BitVec 40 × Bool × Bool :=
  let r := (s.eng e).regs
  if c = 0 then
    let k := physG r.rb i
    (.g k, r.g[k].v.setWidth 40, r.g[k].tag, r.g[k].bad)
  else if c = 1 then (.acc (qOf i), r.acc[qOf i].v, r.acc[qOf i].tag, r.acc[qOf i].bad)
  else if c = 2 then (.p (aOf i), r.p[aOf i].v.setWidth 40, r.p[aOf i].tag, r.p[aOf i].bad)
  else (.m (aOf i), r.m[aOf i].v.setWidth 40, r.m[aOf i].tag, r.m[aOf i].bad)

/-- Set or clear the poison tag of a register, keeping its value (R188). R188 says of PCLR that it writes fresh parity; the model's PSET does
so too, since its result lands as every result does (DESIGN CHOICE, log entry 104). -/
def retag (tag : Bool) (f : RegForm) (e : Fin 32) (s : State) : State :=
  let (d, v, _, _) := classRead (f.s2.val / 8) f.d e s
  send 2 1 d v tag false e s

/-! ### Memory accesses -/

/-- The data-memory address that an access to `ea` reaches (R210): a state word's copy by bell parity; none for the partner
bank. -/
def stateAddr (s : State) (e : Fin 32) (store : Bool) (ea : Nat) : Option Nat :=
  if ea < 0x60000 && classAt s e ea == 1 then
    if ea / 32768 % 2 = 1 then none
    else some (ea + 32768 * ((processed s + b2n store) % 2))
  else some ea

/-- Bank of a classroom address: its bits [20:17] (Table 6-4). -/
def roomBank (a : Nat) : Nat := a / 131072 % 16

/-- An access of slot `slot` to `ea` is a schedule fault, or reaches an address (R151 to R153, R210). -/
def access (slot ea : Nat) (store : Bool) (e : Fin 32) (s : State) : Option Nat :=
  if !mapped ea then none
  else if ea < 0x60000 then
    match stateAddr s e store ea with
    | some a => if slot = 4 ∧ (s.eng e).bank = some (ea / 32768) then none else some a
    | none => none
  else
    if slotOwner (roomSec s 6 (e / 8)) ((s.eng e).cycle % 16) (roomBank ea) = e.val % 8 then some ea else none

/-- L0's access to the data bank that `ea` names is noted (R152, R190). -/
def noteBank (slot ea : Nat) (e : Fin 32) (s : State) : State :=
  if slot = 3 && ea < 0x60000 then s.onEng e fun x => { x with bank := some (ea / 32768) } else s

/-- A granule still waits for prefetched data (R216). -/
def granulePending (e : Fin 32) (a : Nat) (s : State) : Bool :=
  if a < 0x60000 then (s.eng e).granules.contains (a / 64) else (s.room (roomIdx e)).granules.contains (a / 64)

/-- A fresh free 32-bit value: what a poisoned load holds (R154, R160 give no value). -/
def freeWord (s : State) : BitVec 32 × State := (BitVec.ofNat 32 (s.free (2 ^ 32)), s.draw)

/-- A word read poisoned from a region of class `c`: what reads as `v`; a state word counts (R160, R164). -/
def poisonedRead (c a : Nat) (v : BitVec 32) (e : Fin 32) (s : State) : BitVec 32 × Bool × State :=
  let s := detect (locOfClass c) (a / 4 * 4) e s
  (v, true, if c = 1 then s.inc K.statePoisonCount else s)

/-- FAULT_INJECT kinds 2 and 3 flip the stored word of the first read in their region (R173): its value is free. -/
def injectWord (c a : Nat) (e : Fin 32) (s : State) : State :=
  let k := (s.eng e).injecting
  if (k = 2 ∧ c = 0) ∨ (k = 3 ∧ c = 1) then
    let (v, s) := freeWord s
    setWord e a { v, bad := true, flipped := true } (s.onEng e fun x => { x with injecting := 0 })
  else s

/-- Read the word at a reached address: value, poison, parity handling (R160, R216). -/
def loadWord (a : Nat) (e : Fin 32) (s : State) : BitVec 32 × Bool × State :=
  if granulePending e a s then
    let (v, s) := freeWord s
    (v, true, detect 2 (a / 4 * 4) e (s.inc K.prefetchLate))
  else
    let c := classAt s e a
    if (s.eng e).injecting = 1 then
      let (v, s) := freeWord s
      poisonedRead c a v e (s.onEng e fun x => { x with injecting := 0 })
    else
      let s := injectWord c a e s
      let w := readMem e a s
      if w.bad then poisonedRead c a w.v e s else (w.v, false, s)

/-- The part of a word that a load delivers (R190). -/
def loadPart (size : Fin 4) (ea : Nat) (w : BitVec 32) : BitVec 32 :=
  if size = 0 then w
  else
    let h := if ea % 4 < 2 then w.extractLsb' 0 16 else w.extractLsb' 16 16
    if size = 1 then h.signExtend 32 else h.zeroExtend 32

/-- Load latency of an address (Table 6-3); an address that is not mapped, for which the table gives none, takes that of data memory
(DESIGN CHOICE, log entry 79). -/
def loadLatency (ea : Nat) : Nat := if 0x100000 ≤ ea && ea < 0x300000 then 6 else 3

/-- Post-modify of pointer `pn` (R147). It happens too where the access is a schedule fault or goes through a poisoned pointer: R154 and
R160 say of the access that it is not performed, and nothing of the post-modify (DESIGN CHOICE, log entry 78). -/
def postModify (slot : Nat) (f : LForm) (p l : BitVec 24) (tp : Bool) (e : Fin 32) (s : State) : State :=
  if f.pm then
    let (m, tm, s) := readM f.pn e s
    send slot 1 (.p f.pn) ((moved p l m.toInt).setWidth 40) (tp || tm) false e s
  else s

/-- LD (R190). -/
def loadOp (f : LForm) (slot : Nat) (e : Fin 32) (s : State) : State :=
  let (p, tp, s) := readP f.pn e s
  let (l, tl, s) := readL f.pn e s
  let ea := effAddr p l f
  let (v, tag, s) :=
    if tp || tl then
      let (v, s) := freeWord s
      (v, true, s)
    else match access slot ea false e s with
      | some a => loadWord a e (noteBank slot ea e s)
      | none =>
        let (v, s) := freeWord s
        (v, true, scheduleFault ea e s)
  postModify slot f p l (tp || tl) e (sendG slot (loadLatency ea) f.gr (loadPart f.size ea v) tag e s)

/-- ST (R190, R191): the store lands in the next cycle. -/
def storeOp (f : LForm) (slot : Nat) (e : Fin 32) (s : State) : State :=
  let (p, tp, s) := readP f.pn e s
  let (l, tl, s) := readL f.pn e s
  let (v, tv, s) := readG f.gr e s
  let ea := effAddr p l f
  let s :=
    if tp || tl then s
    else match access slot ea true e s with
      | some a =>
        let s := noteBank slot ea e s
        if (s.eng e).noStore then s
        else send slot 1 (if f.size = 0 then .word a else .half a) (v.setWidth 40) tv false e s
      | none => scheduleFault ea e s
  postModify slot f p l (tp || tl) e s

/-- PMOD (R190). -/
def pmodOp (f : LForm) (slot : Nat) (e : Fin 32) (s : State) : State :=
  let (p, tp, s) := readP f.pn e s
  let (l, tl, s) := readL f.pn e s
  postModify slot f p l (tp || tl) e s

/-! ### Transfer descriptors -/

/-- The classroom banks that a range touches all have a transfer-unit slot (R214). -/
def unitSlots (s : State) (r : Nat) (lo n : Nat) : Bool :=
  let tbl := roomSec s 6 r
  (List.range 16).all fun c =>
    let b := 0x100000 + 131072 * ((c + 8) % 16)
    decide (b + 131072 ≤ lo ∨ lo + n ≤ b) || (List.range 16).any fun f => slotOwner tbl f c == 8

/-- The descriptor that four words spell, or none if it is refused (R192, R193, R214, R215). -/
def xferOf (w0 w1 w2 w3 : Nat) (e : Fin 32) (s : State) : Option Xfer :=
  let kind := bitsAt w0 28 4
  let at_ := s.bell.startAt + 1000 * (s.eng e).cycle / kindMhz (runImage s) (runKind s)
  let lo := bitsAt w0 0 24
  let len := bitsAt w2 0 24
  let region := bitsAt w2 28 4
  let rw := bitsAt w3 0 8
  let shape := bitsAt w0 24 4 == 0 && bitsAt w2 24 4 == 0 && bitsAt w3 8 24 == 0 && lo % 8 == 0 && len % 8 == 0 && 8 ≤ len
  let inData := lo + len ≤ 0x60000
  let inRoom := 0x100000 ≤ lo && lo + len ≤ 0x300000
  let words := if kind ≤ 2 then rw == 0 else 1 ≤ rw && rw ≤ 32
  if !(shape && words && 1 ≤ kind && kind ≤ 5) then none
  else if kind = 5 then
    if w1 < 4096 && region == 0 && inData && len % 32 == 0 && w1 + len / 32 ≤ 4096 then
      some { eng := e, kind, loc := lo, offset := w1, region, length := len, recWords := rw, held := true, at_ }
    else none
  else
    match (barnRegions (runImage s))[region]? with
    | some r =>
      let place := if kind = 1 || kind = 3 then inData else inRoom && unitSlots s (e / 8) lo len
      let allowed := r.kind != 0 && bitOf r.access (if kind ≤ 2 then 0 else 1)
      if place && allowed && w1 * 8 + len ≤ r.length then
        some { eng := e, kind, loc := lo, offset := w1 * 8, region, length := len, recWords := rw, held := decide (3 ≤ kind), at_ }
      else none
    | none => none

/-- The granules of a destination. -/
def granulesOf (x : Xfer) : List Nat := (List.range ((x.loc % 64 + x.length + 63) / 64)).map (x.loc / 64 + ·)

/-- A descriptor enters its classroom's queue; a prefetch marks its destination pending (R157, R216). -/
def enqueueXfer (x : Xfer) (s : State) : State :=
  let r := roomIdx x.eng
  let s := s.onRoom r fun c => { c with queue := c.queue ++ [x] }
  if x.kind = 1 then s.onEng x.eng fun y => { y with granules := y.granules ++ granulesOf x }
  else if x.kind = 2 then s.onRoom r fun c => { c with granules := c.granules ++ granulesOf x }
  else s

/-- POST (R192): the 17th post of a run, a full queue, a poisoned operand or a refused descriptor is a schedule fault; between a
register or bundle detection and the replay a post with good operands posts nothing (R177). -/
def postOp (f : LForm) (_slot : Nat) (e : Fin 32) (s : State) : State :=
  let g (k : Nat) : Fin 32 := ⟨(f.gr.val + k) % 32, Nat.mod_lt _ (by decide)⟩
  let (w0, t0, s) := readG (g 0) e s
  let (w1, t1, s) := readG (g 1) e s
  let (w2, t2, s) := readG (g 2) e s
  let (w3, t3, s) := readG (g 3) e s
  let x := s.eng e
  if t0 || t1 || t2 || t3 then scheduleFault x.pc.toNat e s
  else if x.noStore then s
  else if decide (16 ≤ x.posts) || decide (32 ≤ (s.room (roomIdx e)).queue.length) then
    scheduleFault x.pc.toNat e s
  else match xferOf w0.toNat w1.toNat w2.toNat w3.toNat e s with
    | some d => (enqueueXfer d s).onEng e fun x => { x with posts := x.posts + 1 }
    | none => scheduleFault x.pc.toNat e s

/-- The words that a write descriptor reads. -/
def xferSource (x : Xfer) (s : State) : List MemWord :=
  (List.range (x.length / 4)).map fun i => readMem x.eng (x.loc + 4 * i) s

/-- Word `i` lies in a record that holds a bad word. -/
def recordBad (n : Nat) (ws : List MemWord) (i : Nat) : Bool := (List.range n).any fun j => (ws.getD (i / n * n + j) {}).bad

/-- The words a write descriptor delivers: a record that holds a bad word becomes 0x8000_8000 throughout (R157, R236). -/
def xferWords (x : Xfer) (s : State) : List Nat :=
  let ws := xferSource x s
  (List.range ws.length).map fun i => if recordBad (max 1 x.recWords) ws i then 0x80008000 else ((ws.getD i {}).v).toNat

/-- The words that a write descriptor delivers invalid. -/
def xferBad (x : Xfer) (s : State) : Nat :=
  let ws := xferSource x s
  (List.range ws.length).countP (recordBad (max 1 x.recWords) ws)

/-- POISONED_POINTS counts `n` more point products (R173). -/
def countPoisoned (n : Nat) (s : State) : State := s.addSat 64 K.poisonedPoints n

/-- Perform a held write: into the barn, or as statistics records of the bell processed (R157, R192, R239). -/
def performWrite (s : State) (x : Xfer) : State :=
  let ws := xferWords x s
  if x.kind = 5 then
    s.onProcessing fun b => { b with stats := (List.range (x.length / 32)).foldl (fun m z =>
      sparseSet (fun _ => []) m (x.offset + z) ((List.range 8).map fun k => toSigned 32 (ws.getD (8 * z + k) 0))) b.stats }
  else
    -- two history words to a granary word (R240)
    let granary := ((barnRegions (runImage s))[x.region]?.map BarnRegion.kind) == some 2
    let s := if granary then countPoisoned (2 * xferBad x s) s else s
    writeBarn (regionBase s s.array.slot x.region + x.offset) (ws.flatMap (leBytes 4)) s

/-- The held writes of engine `e` are issued in order (R157). -/
def releaseWrites (e : Fin 32) (s : State) : State :=
  let r := roomIdx e
  let mine := (s.room r).queue.filter fun x => x.eng == e && x.held
  let s := s.onRoom r fun c => { c with queue := c.queue.filter fun x => !(x.eng == e && x.held) }
  mine.foldl performWrite s

/-- The held writes of engine `e` are discarded (R157). -/
def discardWrites (e : Fin 32) (s : State) : State :=
  s.onRoom (roomIdx e) fun c => { c with queue := c.queue.filter fun x => !(x.eng == e && x.held) }

/-! ### Segments and the lesson's end -/

/-- Number of segments of the full lesson. -/
def fullSegs (s : State) (e : Fin 32) : Nat := (engSegs s e).countP fun g => !g.appendix

/-- The segment in progress ends: its cycles are judged, its held writes issue, unless a replay was requested that never ran
(R157, R197, R231). The segment's last cycle is the one before `upto`. -/
def endSegment (upto : Nat) (e : Fin 32) (s : State) : State :=
  let x := s.eng e
  let s := match (engSegs s e)[x.segment]? with
    | some g => if upto - x.segStart = g.cycles then s else complianceFault 0 (upto - x.segStart) g.cycles e s
    | none => s
  let s := s.onEng e fun x => { x with ended := x.ended ||| (1#64 <<< x.segment), cause := [] }
  if x.replayAt.isSome then discardWrites e s else releaseWrites e s

/-- A segment starts with the bundle at `pc` in cycle `start`: checkpoint, and the switch to the N−1 lesson if one waits
(R162, R166, R197). -/
def startSegment (pc : BitVec 12) (start : Nat) (e : Fin 32) (s : State) : State :=
  s.onEng e fun x => { x with segment := x.segment + 1, segStart := start, posts := 0, checkpoint := x.regs, checkPc := pc,
                              appendix := x.appendix || x.switchTo, switchTo := false }

/-- The bundle is the one that a replay re-issues from: its SEG has ended the segment before it already (R162, R197). -/
def reissued (x : Engine) : Bool := x.cycle == x.segStart && x.segment != 0

/-- SEG (R197). -/
def segOp (e : Fin 32) (s : State) : State :=
  let x := s.eng e
  if !safeNow x then scheduleFault x.pc.toNat e s
  else if reissued x then s
  else startSegment x.pc x.cycle e (endSegment x.cycle e s)

/-- The lesson ends in this cycle (R198): ENGINE_STATE 2, nothing more issues, results in flight are discarded (R199). -/
def endLesson (e : Fin 32) (s : State) : State :=
  let s := endSegment ((s.eng e).cycle + 1) e s
  let x := s.eng e
  let n := x.cycle + 1 - x.lessonStart
  let b := processed s
  let s := s.onEng e fun x => { x with flight := [], branch := none, reps := [], delayUntil := none, injecting := 0,
                                       doneFor := some b }
  let s := if s.nat (K.peakCycles e) < n then s.setNum (K.peakCycles e) n else s
  s.setNum (K.engineState e) 2

/-- END stands with other operations in its bundle: an illegal placement (R198, R199). -/
def endCrowded (x : Engine) : Bool :=
  let b := (sparseGet (fun _ => 0) x.imem x.pc.toNat).setWidth 128
  cOpOf (cWord b) == some .end_ && b.toNat % 2 ^ 112 != 0

/-- END (R198, R199, R222). In appendix mode the full lesson's END acts as SEG; the segment that it ends counts END's own cycle, which
R205 and R206 put into its CYCLES, so that the boundary falls after END and the first appendix segment starts with the bundle at the
appendix's BASE (DEDUCED, log entry 80). -/
def endOp (e : Fin 32) (s : State) : State :=
  let x := s.eng e
  if endCrowded x then scheduleFault x.pc.toNat e s
  else if x.appendix && decide (x.segment + 1 = fullSegs s e) then
    if safeNow x then startSegment (x.pc + 1) (x.cycle + 1) e (endSegment (x.cycle + 1) e s) else scheduleFault x.pc.toNat e s
  else if safeNow x then endLesson e s
  else endLesson e (scheduleFault x.pc.toNat e s)

/-! ### Branches and repeats -/

/-- In a delay slot, or in the two bundles after a REP. -/
def inDelay (x : Engine) : Bool :=
  match x.delayUntil with
  | some c => decide (x.cycle ≤ c)
  | none => false

/-- A branch (R195): illegal in a delay slot, after a REP or in a repeat body (R199). -/
def branchOp (taken : Bool) (target : BitVec 12) (e : Fin 32) (s : State) : State :=
  let x := s.eng e
  if inDelay x || x.reps.any fun r => decide (r.starts ≤ x.cycle) then scheduleFault x.pc.toNat e s
  else s.onEng e fun x => { x with delayUntil := some (x.cycle + 2),
                                   branch := if taken then some (target, x.cycle + 3) else none }

/-- REP (R196). -/
def repOp (rot : Bool) (count : BitVec 7) (len : BitVec 6) (e : Fin 32) (s : State) : State :=
  let x := s.eng e
  if inDelay x || decide (2 ≤ x.reps.length) || (rot && x.reps.any Repeat.rot) then scheduleFault x.pc.toNat e s
  else s.onEng e fun x => { x with
    delayUntil := some (x.cycle + 2),
    reps := { first := x.pc + 3, last := x.pc + 3 + len.setWidth 12, left := count.toNat, rot, starts := x.cycle + 3 } :: x.reps }

end Sys2Proof.Machine
end

