-- ==== Sys2Proof/Machine/TtCheck.lean ====
section
/-!
DEFINITION. Machine/TtCheck.lean: the image checks of Table 8-8, stages I and F (R201 to R218, R221, R222, R226, R227), and the
figures of a variant (R207, R223, R233).
-/

namespace Sys2Proof.Machine

/-- A failed check as TT_ERROR tells it (R232). -/
structure TtError where
  code : Nat
  variant : Nat := 0xFF
  scope : Nat := 0xFF
  section_ : Nat := 0xFFFFFFFF
  detail : Nat := 0
  deriving DecidableEq, Repr

/-- The 12 bytes of TT_ERROR. -/
def TtError.bytes (e : TtError) : List Byte :=
  leBytes 1 e.code ++ leBytes 1 e.variant ++ leBytes 1 e.scope ++ zeros 1 ++ leBytes 4 e.section_ ++ leBytes 4 e.detail

/-- Check `code` fails at section `x` of an image. -/
def secError (img : List Byte) (code : Nat) (x : Sec) (detail : Nat := 0) : TtError :=
  { code, variant := x.variant, scope := x.scope, section_ := (secTable img).findIdx (· == x), detail }

/-- The error, unless `ok`. -/
def failUnless (ok : Bool) (e : TtError) : Option TtError := if ok then none else some e

/-! ### Whole image: 0x01 to 0x06 -/

/-- FLAGS[0]: the image carries a signature block (R203). -/
def imgSigned (img : List Byte) : Bool := bitOf (fieldAt 31 1 img) 0

/-- Every byte of a run is 0. -/
def allZero (b : List Byte) : Bool := b.all (· == 0)

/-- The header is well formed (check 0x02). -/
def headerOk (img : List Byte) : Bool :=
  let n := imgPoints img
  slice 0 4 img == [0x43, 0x57, 0x54, 0x54] && fieldAt 4 2 img == 0x0100
    && fieldAt 12 4 img == crc32 (slice 0 12 img ++ zeros 4 ++ slice 16 112 img)
    && imgMode img ≤ 2 && 1 ≤ imgGauge img && imgGauge img ≤ 64
    && n % 4 == 0 && 1024 ≤ n && n ≤ maxPoints (imgMode img)
    && fieldAt 31 1 img ≤ 1 && allZero (slice 68 60 img)

/-- The signature block `blk` verifies for message `m` with the key that it carries, and that key has the hash `h` (R203). -/
def keyVerifies (h blk m : List Byte) : Bool :=
  let key := slice 32 64 blk
  sha256 key == h && ecdsaVerifies key m (slice 96 64 blk)

/-- The last 192 bytes of an image: its signature block (Table 8-4). -/
def sigBlock (img : List Byte) : List Byte := slice (img.length - 192) 192 img

/-- An image's signature block verifies against the fuse key slot that it names (R203); what stands in its reserved bytes has no effect
(R7). -/
def signatureVerifies (s : State) (img : List Byte) : Bool :=
  let n := img.length
  let blk := sigBlock img
  let slot := fieldAt 4 1 blk
  match s.sec.keys.toList.getD slot none with
  | some h =>
    320 ≤ n && slice 0 4 blk == [0x53, 0x49, 0x47, 0x31] && slot ≤ 3 && !s.sec.revoked.getLsbD slot
      && keyVerifies h blk (img.take (n - 192))
  | none => false

/-- The signature block and its verification (check 0x04, R203): reserved bytes of the block are 0 in a timetable image. -/
def signatureOk (s : State) (img : List Byte) : Bool :=
  allZero (slice 5 27 (sigBlock img)) && allZero (slice 160 32 (sigBlock img)) && signatureVerifies s img

/-- TYPE, VARIANT and SCOPE of a section stand in Table 8-3 (R202). -/
def secKindOk (x : Sec) : Bool :=
  let eng := decide (x.scope < 32)
  let room := decide (32 ≤ x.scope ∧ x.scope < 36)
  let var := decide (x.variant < 4) || x.variant == 255
  match x.type with
  | 1 => decide (x.variant < 4) && x.scope == 255
  | 2 | 3 | 5 => var && eng
  | 4 | 7 => var && (eng || room)
  | 6 => var && room
  | 8 | 9 => x.variant == 255 && x.scope == 255
  | 10 => x.variant == 1 && eng
  | _ => false

/-- Two sections lie apart. -/
def apart (x y : Sec) : Bool := x.offset + x.length ≤ y.offset || y.offset + y.length ≤ x.offset

/-- Section `i` fits the table (check 0x05): kind, place, alignment, and no clash with an earlier section. -/
def secOk (img : List Byte) (i : Nat) : Bool :=
  let x := secAt img i
  secKindOk x && x.reserved == 0 && x.offset % 64 == 0 && 128 + 16 * secCount img ≤ x.offset
    && x.offset + x.length ≤ img.length - (if imgSigned img then 192 else 0)
    && (List.range i).all fun j =>
      let y := secAt img j
      apart x y && !(y.type == x.type && y.variant == x.variant && y.scope == x.scope)

/-! ### Per kind: 0x07 to 0x10 -/

/-- The kinds of an image. -/
def kindsOf (img : List Byte) : List Nat := (List.range 4).filter (hasKind img)

/-- Logical engines and classrooms with lessons in kind `k`. -/
def enginesOf (img : List Byte) (k : Nat) : List Nat := (List.range 32).filter (bitOf (kindEngines img k))
def roomsOf (img : List Byte) (k : Nat) : List Nat := (List.range 4).filter fun r => (enginesOf img k).any (· / 8 == r)

/-- The first failure over the engines of every kind. -/
def everyEngine (img : List Byte) (f : Nat → Nat → Option TtError) : Option TtError :=
  (kindsOf img).findSome? fun k => (enginesOf img k).findSome? (f k)

/-- A check of the section that serves an engine or classroom, skipped where there is none. -/
def onSec (img : List Byte) (type k scope code : Nat) (ok : List Byte → Bool) : Option TtError :=
  match findSec img type k scope with
  | some x => failUnless (ok (secBytes img x)) (secError img code x)
  | none => none

/-- A check of every section of the given types, also of one that serves no present kind (R201). -/
def everySec (img : List Byte) (types : List Nat) (code : Nat) (ok : Sec → List Byte → Bool) : Option TtError :=
  (secTable img).findSome? fun x => failUnless (!types.contains x.type || ok x (secBytes img x)) (secError img code x)

/-- The first failure of two checks. -/
def firstOf (a b : Option TtError) : Option TtError :=
  match a with
  | some e => some e
  | none => b

/-- The VARIANT record of kind `k` (R221). -/
def variantOk (k : Nat) (b : List Byte) : Bool :=
  let l := fieldAt 1 1 b
  b.length == 64 && fieldAt 0 1 b == k && (if k ≤ 1 then l == k else l == 2 || l == 3)
    && fieldAt 2 2 b == (if k = 3 then 800 else 1000) && fieldAt 4 4 b == (if k = 2 then 0x00FFFFFF else 0xFFFFFFFF)
    && allZero (slice 8 56 b)

/-- The section types that an engine with a lesson needs. -/
def neededTypes (k : Nat) : List Nat := if k = 1 then [2, 3, 4, 5, 10] else [2, 3, 4, 5]

/-- Check 0x07. -/
def checkVariants (img : List Byte) : Option TtError :=
  let mask := imgMask img
  let missing (k type scope : Nat) : Option TtError :=
    failUnless (findSec img type k scope).isSome { code := 7, variant := k, scope }
  if !bitOf mask 0 || 16 ≤ mask then some { code := 7 }
  else match (secTable img).find? fun x => x.type == 1 && !bitOf mask x.variant with
    | some x => some (secError img 7 x)
    | none =>
      (kindsOf img).findSome? fun k =>
        match findSec img 1 k 255 with
        | none => some { code := 7, variant := k }
        | some x =>
          if !variantOk k (secBytes img x) then some (secError img 7 x)
          else match (enginesOf img k).findSome? fun e => (neededTypes k).findSome? fun t => missing k t e with
            | some e => some e
            | none => (roomsOf img k).findSome? fun r => ([4, 6] : List Nat).findSome? fun t => missing k t (32 + r)

/-- The lessons and appendices of every kind: kind, engine, section. -/
def lessonUnits (img : List Byte) : List (Nat × Nat × Sec) :=
  (kindsOf img).flatMap fun k => (enginesOf img k).flatMap fun e =>
    (if k = 1 then [10] else [2]).filterMap fun t => (findSec img t k e).map fun x => (k, e, x)

/-- The C operation of bundle `i` of a lesson. -/
def cOfBundle (b : List Byte) (i : Nat) : Option COp := cOpOf (cWord (lessonBundle b i))

/-- Bundle `i` holds a branch; a REP. -/
def isBranch (b : List Byte) (i : Nat) : Bool :=
  match cOfBundle b i with
  | some (.br _) | some (.brt _ _) | some (.brf _ _) => true
  | _ => false
def repLen (b : List Byte) (i : Nat) : Option (Bool × Nat) :=
  match cOfBundle b i with
  | some (.rep r _ l) => some (r, l)
  | _ => none

/-- REPs of a lesson whose body holds bundle `i`, as their ROT bits. -/
def bodiesAround (b : List Byte) (i : Nat) : List Bool :=
  (List.range i).filterMap fun j => match repLen b j with
    | some (r, l) => if j + 3 ≤ i && i ≤ j + 3 + l then some r else none
    | none => none

/-- Bundle `i` of a lesson of `n` bundles at `base` is legal in encoding and placement, and its targets lie inside (check
0x08). -/
def placedOk (b : List Byte) (base n i : Nat) : Bool :=
  let after := (List.range 2).any fun j => decide (j < i) && (isBranch b (i - 1 - j) || (repLen b (i - 1 - j)).isSome)
  let around := bodiesAround b i
  let inside (t : Nat) : Bool := base ≤ t && t < base + n
  bundleLegal (lessonBundle b i)
    && (match cOfBundle b i with
        | some (.br t) | some (.brt _ t) | some (.brf _ t) => !after && around.isEmpty && inside t
        | some (.rep r _ l) => !after && around.length ≤ 1 && !(r && around.contains true) && i + 3 + l < n
        | _ => true)

/-- Check 0x08, of every LESSON and APPENDIX section. -/
def checkBundles (img : List Byte) : Option TtError :=
  ((secTable img).filter fun x => x.type == 2 || x.type == 10).findSome? fun x =>
    let b := secBytes img x
    let n := lessonBundles b
    match (List.range n).find? fun i => !placedOk b (lessonBase b) n i with
    | some i => some (secError img 8 x (lessonBase b + i))
    | none => none

/-- Layout of a lesson or appendix: reserved bytes, bundles, the last one END (R205). -/
def lessonOk (b : List Byte) : Bool :=
  let n := lessonBundles b
  allZero (slice 8 8 b) && 1 ≤ n && b.length == 16 + 16 * n && lessonBase b + n ≤ 4096
    && cOfBundle b (n - 1) == some .end_

/-- A run of segments covers a lesson at `b`: the first starts at BASE, later STARTs carry SEG, CYCLES add up (R206). -/
def segRunOk (segs : List Seg) (b : List Byte) : Bool :=
  let base := lessonBase b
  let n := lessonBundles b
  (match segs with
   | g :: rest => g.start == base && rest.all fun h =>
       decide (base ≤ h.start ∧ h.start < base + n) && cOfBundle b (h.start - base) == some .seg
   | [] => false)
    && segs.foldl (fun t g => t + g.cycles) 0 == lessonCycles b

/-- The full entries of a segment table, and what follows them. -/
def splitSegs (l : List Seg) : List Seg × List Seg := (l.takeWhile fun g => !g.appendix, l.dropWhile fun g => !g.appendix)

/-- Layout of one LESSON or APPENDIX section; the error names its last bundle. -/
def checkLesson (img : List Byte) (x : Sec) : Option TtError :=
  let b := secBytes img x
  failUnless (lessonOk b) (secError img 9 x (lessonBase b + lessonBundles b - 1))

/-- Check 0x09, of every LESSON and APPENDIX section; an appendix in use follows its lesson (R222). -/
def checkLessons (img : List Byte) : Option TtError :=
  firstOf (((secTable img).filter fun x => x.type == 2 || x.type == 10).findSome? (checkLesson img)) <|
  (lessonUnits img).findSome? fun (k, e, x) =>
    let b := secBytes img x
    if k = 1 then
      let full := findBytes img 2 1 e
      let rest := (splitSegs (segsOf (findBytes img 3 1 e))).2
      failUnless (lessonBase b == lessonBase full + lessonBundles full && segRunOk rest b && rest.all Seg.appendix)
        (secError img 9 x (lessonBase b))
    else none

/-- Points of an engine's product list (n_e of R165). -/
def productCount (m : PointMap) : Nat := (m.runs.filter fun r => !r.halo).foldl (fun t r => t + r.count) 0

/-- A segment table by itself: whole entries, reserved bits, MAX_GAP, and APPENDIX entries only in the table that an N−1 variant uses
(R201, R206). -/
def segTableOk (img : List Byte) (x : Sec) (b : List Byte) : Bool :=
  let segs := segsOf b
  b.length % 16 == 0 && segs.length ≤ 64 && segs.all (fun g => g.reserved == 0 && g.maxGap ≤ 512)
    && (segs.all (fun g => !g.appendix) || (hasKind img 1 && findSec img 3 1 x.scope == some x))

/-- The segment table of engine `e` in kind `k` (check 0x0A). -/
def segmentsOk (img : List Byte) (k e : Nat) (x : Sec) : Bool :=
  let b := secBytes img x
  let segs := segsOf b
  let (full, rest) := splitSegs segs
  let m := pointMapOf (findBytes img 5 k e)
  segRunOk full (findBytes img 2 k e) && rest.all Seg.appendix
    && full.all (fun g => g.pointFirst + g.pointCount ≤ productCount m)
    && rest.all fun g => g.pointFirst + g.pointCount ≤ m.aCap

/-- Check 0x0A, of every SEGMENTS section, and of those in use against their lessons. -/
def checkSegments (img : List Byte) : Option TtError :=
  firstOf (everySec img [3] 10 (segTableOk img)) <| everyEngine img fun k e => match findSec img 3 k e with
    | some x => failUnless (segmentsOk img k e x) (secError img 10 x)
    | none => none

/-- A region list covers `n` bytes from `base` exactly (R211). -/
def coversExactly (rs : List Region) (base n : Nat) : Bool :=
  let inside := rs.all fun r => base ≤ r.first && r.first + r.length ≤ base + n && r.length != 0
  let disjoint := (List.range rs.length).all fun i => (List.range i).all fun j => match rs[i]?, rs[j]? with
    | some x, some y => x.first + x.length ≤ y.first || y.first + y.length ≤ x.first
    | _, _ => true
  inside && disjoint && rs.foldl (fun t r => t + r.length) 0 == n

/-- Data banks that a region touches. -/
def banksOf (r : Region) : List Nat := (List.range 12).filter fun b => r.first < 32768 * (b + 1) && 32768 * b < r.first + r.length

/-- The fields of a region list (R211). -/
def regionFieldsOk (b : List Byte) : Bool :=
  b.length % 12 == 0 && (regionsOf b).all fun r => r.cls ≤ 4 && r.flags ≤ 3 && r.reserved == 0

/-- A state region lies in one bank and is listed in its partner bank too (R210). -/
def stateRegionOk (rs : List Region) (r : Region) : Bool :=
  let bank := r.first / 32768
  let mate := if bank % 2 = 0 then r.first + 32768 else r.first - 32768
  (r.first + r.length - 1) / 32768 == bank && rs.any fun x => x.cls == 1 && x.first == mate && x.length == r.length

/-- The region table of an engine (check 0x0B). -/
def engineRegionsOk (b : List Byte) : Bool :=
  let rs := regionsOf b
  regionFieldsOk b && coversExactly rs 0 0x60000
    && (rs.filter fun r => r.cls == 1).all (stateRegionOk rs)
    && rs.all fun r => rs.all fun x => !(bitOf r.flags 0 && bitOf x.flags 1) || (banksOf r).all fun k => !(banksOf x).contains k

/-- The region table of a classroom (check 0x0B). -/
def roomRegionsOk (b : List Byte) : Bool :=
  let rs := regionsOf b
  regionFieldsOk b && coversExactly rs 0x100000 0x200000 && rs.all fun r => r.cls != 1 && !bitOf r.flags 0

/-- Check 0x0B, of every REGIONS section. -/
def checkRegions (img : List Byte) : Option TtError :=
  everySec img [4] 11 fun x b => if x.scope < 32 then engineRegionsOk b else roomRegionsOk b

/-- Every byte of a range lies in regions that satisfy `p`. -/
def inRegions (rs : List Region) (p : Region → Bool) (a n : Nat) : Bool :=
  (rs.filter p).foldl (fun t r => t + (min (a + n) (r.first + r.length) - max a r.first)) 0 == n

/-- Bytes of a point record in a mode (Table 1-6). -/
def pointBytes (mode : Nat) : Nat := if mode = 2 then 32 else 8

/-- The point map of engine `e` in kind `k` (check 0x0C, R212). -/
def pointMapOk (img : List Byte) (k e : Nat) (b : List Byte) : Bool :=
  let m := pointMapOf b
  let w := pointBytes (imgMode img)
  let rs := regionsOf (findBytes img 4 k e)
  let fabric (a n : Nat) : Bool := inRegions rs (fun r => r.cls == 0 && bitOf r.flags 0) a n
  let total := m.runs.foldl (fun t r => t + r.count) 0
  let buffer (a : Nat) : Bool := fabric a (total * w) && fabric (a + m.headerOff) 128 && fabric (a + m.clipOff) 32
  buffer m.buf.1 && buffer m.buf.2 && fabric m.context 64
    && (m.aCap == 0 || (fabric m.app.1 (m.aCap * w) && fabric m.app.2 (m.aCap * w)))

/-- The non-halo runs of kind `k` cover points 0 to N − 1 exactly once (R212): disjoint, and of N points in all. -/
def pointsCovered (img : List Byte) (k : Nat) : Bool :=
  let runs := ((enginesOf img k).flatMap fun e => (pointMapOf (findBytes img 5 k e)).runs).filter fun r =>
    !r.halo && r.count != 0
  let sorted := runs.mergeSort fun x y => x.first ≤ y.first
  (sorted.foldl (fun (t : Option Nat) r => match t with
    | some p => if r.first = p then some (p + r.count) else none
    | none => none) (some 0)) == some (imgPoints img)

/-- A point map by itself: its runs and reserved bytes (R201, R212). -/
def pointMapShape (img : List Byte) (b : List Byte) : Bool :=
  let m := pointMapOf b
  1 ≤ m.runCount && m.runCount ≤ 256 && b.length == 48 + 8 * m.runCount && allZero (slice 36 12 b)
    && m.runs.all (fun r => r.first + r.count ≤ imgPoints img)

/-- Check 0x0C, of every POINT_MAP section, and of those in use against their regions. -/
def checkPointMaps (img : List Byte) : Option TtError :=
  firstOf (everySec img [5] 12 fun _ b => pointMapShape img b) <| (kindsOf img).findSome? fun k =>
    match (enginesOf img k).findSome? fun e => onSec img 5 k e 12 (pointMapOk img k e) with
    | some e => some e
    | none => failUnless (pointsCovered img k) { code := 12, variant := k }

/-- Check 0x0D (R165). -/
def checkACap (img : List Byte) : Option TtError :=
  if hasKind img 1 then
    (enginesOf img 1).findSome? fun e => onSec img 5 1 e 13 fun b =>
      let m := pointMapOf b
      (productCount m + 30) / 31 ≤ m.aCap
  else none

/-- Check 0x0E (R214), of every SLOTS section, and of those in use against the engines with lessons. -/
def checkSlots (img : List Byte) : Option TtError :=
  firstOf (everySec img [6] 14 fun _ b => b.length == 128 && (List.range 16).all fun f => (List.range 16).all fun c =>
    let o := slotOwner b f c
    o ≤ 8 || o == 15) <|
  (kindsOf img).findSome? fun k => (roomsOf img k).findSome? fun r => onSec img 6 k (32 + r) 14 fun b =>
    (List.range 16).all fun f => (List.range 16).all fun c =>
      let o := slotOwner b f c
      8 ≤ o || (enginesOf img k).contains (8 * r + o)

/-- One entry of the barn region list (R215, R240). -/
def barnRegionOk (n : Nat) (r : BarnRegion) : Bool :=
  r.kind ≤ 4 && r.access ≤ 3 && r.reserved == 0
    && (if r.kind = 2 then granarySlotBytes n * 8 ≤ r.length && r.length ≤ 30064771072
        else if r.kind = 3 then r.index ≤ 7 && 512 ≤ r.length && r.length ≤ 268435456
        else if r.kind = 4 then r.length % 131072 == 0 && r.length ≤ 67108864
        else true)

/-- Bytes of ring area that an image's ring regions and granary header table take (R308). -/
def ringBytes (img : List Byte) : Nat :=
  let rs := barnRegions img
  ringOffset rs rs.length + 256 * granarySlotsOf img

/-- Check 0x0F. -/
def checkBarnRegions (s : State) (img : List Byte) : Option TtError :=
  onSec img 8 255 255 15 fun b =>
    let rs := barnRegions img
    let kind (k : Nat) : List BarnRegion := rs.filter fun r => r.kind == k
    b.length == 256 && rs.all (barnRegionOk (imgPoints img)) && (kind 2).length ≤ 1 && (kind 4).length ≤ 1
      && decide ((kind 3).map BarnRegion.index).Nodup
      && (kind 1).foldl (fun t r => t + r.length) 0 ≤ 1073741824 && ringBytes img ≤ ringAreaBytes s

/-- The code of a scalar type (Table 13-1). -/
def Ty.code : Ty → Nat
  | .bool => 1 | .u8 => 2 | .u16 => 3 | .u32 => 4 | .u64 => 5 | .i8 => 6 | .i16 => 7 | .i32 => 8 | .i64 => 9 | .f32 => 10
  | .str => 11 | .dom => 12

/-- Bytes of a scalar type, by its code. -/
def tyBytes (c : Nat) : Nat := if c ≤ 2 || c = 6 then 1 else if c = 3 || c = 7 then 2 else if c = 5 || c = 9 then 8 else 4

/-- A signed type. -/
def tySigned (c : Nat) : Bool := 6 ≤ c && c ≤ 9

/-- The value that a 64-bit field of a parameter record holds. -/
def fieldVal (c v : Nat) : Int := if tySigned c then toSigned 64 v else v

/-- A 64-bit field is in the format of its type, extended (R218). -/
def fieldFits (c v : Nat) : Bool :=
  let w := 8 * tyBytes c
  if c = 1 then v ≤ 1
  else if tySigned c then decide (-(2 ^ (w - 1) : Nat) ≤ fieldVal c v ∧ fieldVal c v < (2 ^ (w - 1) : Nat))
  else decide (v < 2 ^ w)

/-- The order of F32 values by their bits, NaN excepted: sign and magnitude. -/
def f32Order (v : Nat) : Int := if v < 2 ^ 31 then (v : Int) else -((v - 2 ^ 31 : Nat) : Int)

/-- An F32 value is neither a NaN nor an infinity, which are outside every entry's limits (Table 13-1). -/
def f32Finite (v : Nat) : Bool := v / 2 ^ 23 % 256 != 255

/-- The order in which limits of a type are judged. -/
def orderVal (c v : Nat) : Int := if c = 10 then f32Order v else fieldVal c v

/-- The engines and classrooms that a parameter's scope reaches in kind `k`, as section scopes for an address. -/
def paramTargets (img : List Byte) (k : Nat) (p : ParamRec) : List Nat :=
  let es := (enginesOf img k).filter fun e => p.scope == 255 || p.scope == e || p.scope == 32 + e / 8
  if p.address < 0x60000 then es else es.map fun e => 32 + e / 8

/-- One parameter record (R218). -/
def paramOk (img : List Byte) (p : ParamRec) : Bool :=
  let n := tyBytes p.ty
  1 ≤ p.ty && p.ty ≤ 10 && p.reserved == 0 && p.address % n == 0
    && (p.scope < 36 || p.scope == 255)
    && ((kindsOf img).all fun k => (paramTargets img k p).all fun sc =>
          inRegions (regionsOf (findBytes img 4 k sc)) (fun r => r.cls == 2) p.address n)
    && (if 0x3400 ≤ p.index && p.index ≤ 0x343F then
          p.sub != 0 && p.rights < 16 && p.rights % 4 ≤ 2 && p.rights / 4 ≤ 2
            && fieldFits p.ty p.min && fieldFits p.ty p.max && fieldFits p.ty p.dflt && (p.ty != 10 || f32Finite p.dflt)
            && decide (orderVal p.ty p.min ≤ orderVal p.ty p.dflt) && decide (orderVal p.ty p.dflt ≤ orderVal p.ty p.max)
        else match findRow (256 * p.index + p.sub) with
          | some r => (r.access == .rw || r.access == .rwb) && r.ty.code == p.ty
          | none => false)

/-- The PARAMS section (check 0x10). The bound words of a scope are counted by the sizes of their types, of which R218 does not say whether
a type narrower than a word counts as a whole word (DESIGN CHOICE, log entry 106). -/
def paramsOk (img : List Byte) (b : List Byte) : Bool :=
  let ps := paramsOf img
  b.length % 40 == 0 && ps.length ≤ 256 && ps.all (paramOk img)
    && decide (ps.map fun p => 256 * p.index + p.sub).Nodup
    && ps.all fun p => (ps.filter fun q => q.scope == p.scope).foldl (fun t q => t + tyBytes q.ty) 0 ≤ 1024

/-- An INIT section stays in the memory of its scope (R202). -/
def initInScope (x : Sec) (b : List Byte) : Bool :=
  let a := fieldAt 0 4 b
  let n := b.length - 4
  4 ≤ b.length && a % 4 == 0 && (if x.scope < 32 then a + n ≤ 0x60000 else 0x100000 ≤ a && a + n ≤ 0x300000)

/-- An INIT section in use stays out of fabric regions (R223). -/
def initOk (img : List Byte) (k scope : Nat) (b : List Byte) : Bool :=
  let a := fieldAt 0 4 b
  let n := b.length - 4
  (regionsOf (findBytes img 4 k scope)).all fun r => !bitOf r.flags 0 || a + n ≤ r.first || r.first + r.length ≤ a

/-- Check 0x10. -/
def checkParams (img : List Byte) : Option TtError :=
  firstOf (onSec img 9 255 255 16 (paramsOk img)) <| firstOf (everySec img [7] 16 initInScope) <| (kindsOf img).findSome? fun k =>
      ((enginesOf img k) ++ (roomsOf img k).map (32 + ·)).findSome? fun sc => onSec img 7 k sc 16 (initOk img k sc)

/-- The checks of stage I on the bytes received, in table order, the first that fails (R225, R226). -/
def checkImage (s : State) (img : List Byte) : Option TtError :=
  let life := s.nat K.lifecycle
  let n := fieldAt 8 4 img
  if img.length < 128 || n % 64 != 0 || 4194304 < n || n != img.length then some { code := 1 }
  else if !headerOk img then some { code := 2 }
  else if life = 3 || (life = 2 && !imgSigned img) then some { code := 3 }
  else if imgSigned img && !signatureOk s img then some { code := 4, detail := fieldAt (img.length - 188) 1 img }
  else if secCount img = 0 || 1024 < secCount img || img.length < 128 + 16 * secCount img then some { code := 5 }
  else match (List.range (secCount img)).find? fun i => !secOk img i with
    | some i => some { code := 5, variant := (secAt img i).variant, scope := (secAt img i).scope, section_ := i }
    | none =>
      match (secTable img).find? fun x => crc32 (secBytes img x) != x.crc with
      | some x => some (secError img 6 x)
      | none =>
        ([checkVariants, checkBundles, checkLessons, checkSegments, checkRegions, checkPointMaps, checkACap, checkSlots,
          checkBarnRegions s, checkParams] : List (List Byte → Option TtError)).findSome? fun f => f img

/-! ### Figures and fit -/

/-- W_e of R207. -/
def workOf (img : List Byte) (k e : Nat) : Nat :=
  lessonCycles (findBytes img 2 k e) + (if k = 1 then lessonCycles (findBytes img 10 1 e) else 0)

/-- The largest of some numbers, 0 of none. -/
def maxOf (l : List Nat) : Nat := l.foldl max 0

/-- LESSON_MAX of a kind. -/
def lessonMax (img : List Byte) (k : Nat) : Nat := maxOf ((enginesOf img k).map (workOf img k))

/-- SEGMENT_MAX of a kind: the appendix's segments count in the N−1 variant. -/
def segmentMax (img : List Byte) (k : Nat) : Nat :=
  maxOf ((enginesOf img k).flatMap fun e =>
    ((segsOf (findBytes img 3 k e)).filter fun g => k == 1 || !g.appendix).map Seg.cycles)

/-- PREFETCH_MAX: the barn region list is one for the image, so every classroom sums the same (R217). -/
def prefetchMax (img : List Byte) : Nat := (barnRegions img).foldl (fun t r => t + r.prefetch) 0

/-- MIN_BELL of a kind (R233), never below the limits of BELL_PERIOD (R60). -/
def minBellOf (img : List Byte) (k : Nat) : Nat :=
  let c := cyclesPerRef img k
  let up (x d : Nat) : Nat := (x + d - 1) / d
  maxOf [5000, up (up (8 * lessonMax img k) 7 + 2000) c, up (16 * segmentMax img k) c, up (prefetchMax img) 32]

/-- Bytes of the LESSON, APPENDIX and INIT sections of a classroom and its engines in a kind: V_c of R223. -/
def loadBytes (img : List Byte) (k r : Nat) : Nat :=
  let len (t sc : Nat) : Nat := match findSec img t k sc with
    | some x => x.length
    | none => 0
  (((enginesOf img k).filter (· / 8 == r)).foldl (fun t e => t + len 2 e + len 7 e + (if k = 1 then len 10 e else 0)) 0)
    + len 7 (32 + r)

/-- LOAD_TIME of a kind in ns (R223). -/
def loadTime (img : List Byte) (k : Nat) : Nat := 20000 + (maxOf ((roomsOf img k).map (loadBytes img k)) + 3) / 4

/-- The fit checks of stage F of kind `k` against the settings of store `m`: the first that fails, with cycles or bytes over
the limit, or 0 (R226, R227). -/
def fitOf (img : List Byte) (k : Nat) (m : Sparse DVal) : Nat :=
  let c := cyclesPerRef img k
  let t := natIn m K.bellPeriod
  if imgMode img ≠ natIn m K.spatialMode || imgGauge img ≠ natIn m K.gaugeSpacings || imgPoints img ≠ natIn m K.phasePoints then 17
  else if lessonBudget c t < lessonMax img k then 18
  else if segmentLimit c t < segmentMax img k then 19
  else if 32 * t < prefetchMax img then 20
  else 0

end Sys2Proof.Machine
end

