-- ==== Sys2Proof/Machine/OptionOps.lean ====
section
/-!
DEFINITION. Machine/OptionOps.lean: the options of the degradation ladder and their choice (R430, R431), and the derived figures
of the timetable entries (R232, R233).
-/

namespace Sys2Proof.Machine

/-! ### Timetable figures -/

/-- A timetable is active: the array has been given a variant to run (ARRAY_STATE above 0). -/
def timetableActive (s : State) : Bool := s.array.kind.isSome

/-- ARRAY_STATE (R173). -/
def arrayState (s : State) : Nat :=
  if !timetableActive s then 0 else if !s.running then 1 else if engineFailed s then 3 else 2

/-- Slot 0 or 1 that is not active (R200). -/
def standbySlot (s : State) : Nat := if s.nat K.ttActiveSlot = 0 then 1 else 0

/-- Kind `k` of the active image passes the fit checks on store `m` and has no compliance fault (R227, R231). -/
def kindFits (s : State) (m : Sparse DVal) (k : Nat) : Bool :=
  let slot := natIn m K.ttActiveSlot
  let img := s.image slot
  hasKind img k && fitOf img k m == 0
    && !(slot == s.nat K.ttActiveSlot && s.tt.untrusted.toList.getD k false)

/-- Entry 3040 + `k`.`sub` (R233): 0 for an absent kind. -/
def variantEntry (s : State) (k sub : Nat) : Nat :=
  let img := activeImage s
  if !(timetableActive s && hasKind img k) then 0
  else match sub with
    | 1 => 1
    | 2 => b2n (kindFits s s.dict.store k)
    | 3 => lessonMax img k
    | 4 => segmentMax img k
    | 5 => minBellOf img k
    | 6 => loadTime img k
    | 7 => prefetchMax img
    | 8 => kindLevel img k
    | _ => 0

/-- BUDGET_CYCLES: B of R207 for the bell and variant in effect. -/
def budgetCycles (s : State) : Nat :=
  if timetableActive s then
    lessonBudget (cyclesPerRef (activeImage s) (s.nat K.variantInEffect)) (s.nat K.bellPeriod)
  else 0

/-- TIMETABLE_ID of a slot, 0 if it is empty. -/
def slotId (s : State) (slot : Nat) : Nat := if (s.image slot).isEmpty then 0 else imgId (s.image slot)

/-! ### Options -/

/-- An option of the ladder (R430): a variant kind, a doubled bell period, the coarser spacing. -/
structure Opt where
  kind : Nat
  doubled : Bool
  coarse : Bool
  deriving DecidableEq, Repr

/-- Put a number at an entry of a store. -/
def putNum (m : Sparse DVal) (k : Key) (v : Nat) : Sparse DVal := sparseSet defaultVal m k (.num v)

/-- Geometry and slot written into a store: mode, points, gauge, slot. -/
def putGeometry (m : Sparse DVal) (g : Nat × Nat × Nat × Nat) : Sparse DVal :=
  putNum (putNum (putNum (putNum m K.spatialMode g.1) K.phasePoints g.2.1) K.gaugeSpacings g.2.2.1) K.ttActiveSlot g.2.2.2

/-- The settings as you last wrote them: doubling and coarsening undone (R430). -/
def yourStore (s : State) (m : Sparse DVal) : Sparse DVal :=
  let m := match s.policy.doubledFrom with
    | some t => putNum m K.bellPeriod t
    | none => m
  match s.policy.coarseFrom with
  | some g => putGeometry m g
  | none => m

/-- The geometry and slot that coarsening commits (R430): from Fine mode only, with a ready standby image compiled for it. -/
def coarseOf (s : State) (m : Sparse DVal) : Option (Nat × Nat × Nat × Nat) :=
  let slot := 1 - natIn m K.ttActiveSlot
  let img := s.image slot
  let n := (natIn m K.phasePoints + 7) / 8 * 4
  let g := (natIn m K.gaugeSpacings + 1) / 2
  let ready := s.nat K.ttLoadState == 2 || s.policy.coarseFrom.isSome
  if natIn m K.spatialMode = 0 && ready && !img.isEmpty && imgMode img == 1 && imgPoints img == n && imgGauge img == g then
    some (1, n, g, slot)
  else none

/-- The settings that an option leads to, if it is possible (R430). -/
def optStore (s : State) (m : Sparse DVal) (o : Opt) : Option (Sparse DVal) :=
  let m := yourStore s m
  let t := natIn m K.bellPeriod
  let c := if o.coarse then (coarseOf s m).map (putGeometry m) else some m
  c.bind fun m => if o.doubled then (if 2 * t ≤ 1000000 then some (putNum m K.bellPeriod (2 * t)) else none) else some m

/-- Engines out of service. -/
def lostEngines (s : State) : List Nat := (List.range 32).filter fun e => !bitOf (s.nat K.enginesInService) e

/-- The level of an option (R430): kind 1 counts as level 1 only in appendix mode, that is while it covers an engine. -/
def optLevel (s : State) (img : List Byte) (o : Opt) : Nat :=
  max (if o.kind = 1 then b2n (lostEngines s).length else kindLevel img o.kind)
    (max (if o.doubled then 3 else 0) (if o.coarse then 4 else 0))
where
  /-- At least one. -/
  b2n (n : Nat) : Nat := if n = 0 then 0 else 1

/-- Kind `k` covers the engines in service (R431). -/
def kindCovers (s : State) (k : Nat) : Bool :=
  let lost := lostEngines s
  if k = 1 then lost.length ≤ 1
  else if k = 2 then (List.range 4).any fun c => lost.all fun e => e / 8 == c
  else lost.isEmpty

/-- LEVEL_CAUSE bit `i` stands. -/
def causeStands (s : State) (i : Nat) : Bool := bitOf (s.nat K.levelCause) i

/-- An option is kept (R431), judged on the settings that would be in effect. -/
def keptOn (s : State) (m : Sparse DVal) (o : Opt) : Bool :=
  match optStore s m o with
  | some t =>
    let img := s.image (natIn t K.ttActiveSlot)
    let level := optLevel s img o
    kindFits s t o.kind
      && (natIn t K.variantForce == 255 || natIn t K.variantForce == o.kind)
      && kindCovers s o.kind
      && (!causeStands s 2 || kindMhz img o.kind == 800 || o.doubled || o.coarse)
      && (level == 0 || bitOf (s.nat K.levelAllow) level)
  | none => false

/-- Every option, lower kinds and undoubled ones first. -/
def allOpts : List Opt :=
  ([false, true] : List Bool).flatMap fun coarse => (List.range 4).flatMap fun kind =>
    ([false, true] : List Bool).map fun doubled => { kind, doubled, coarse }

/-- The option in effect. -/
def optInEffect (s : State) : Opt :=
  { kind := s.nat K.variantInEffect, doubled := s.policy.doubledFrom.isSome, coarse := s.policy.coarseFrom.isSome }

/-- The level that an option has on a store, if it is possible. -/
def levelOn (s : State) (m : Sparse DVal) (o : Opt) : Nat :=
  match optStore s m o with
  | some t => optLevel s (s.image (natIn t K.ttActiveSlot)) o
  | none => 0

/-- The choice of R431 among kept options: lowest level, then the option in effect, the lower kind, no doubling. -/
def chooseOpt (s : State) (m : Sparse DVal) : Option Opt :=
  let kept := allOpts.filter (keptOn s m)
  let best := kept.foldl (fun t o => min t (levelOn s m o)) 9
  let low := kept.filter fun o => levelOn s m o == best
  if low.contains (optInEffect s) then some (optInEffect s)
  else low.foldl (fun (t : Option Opt) o => match t with
    | some x => if o.kind < x.kind || (o.kind == x.kind && !o.doubled && x.doubled) then some o else some x
    | none => some o) none

/-- The variant of the option that the policy would choose (R431) after a commit that leaves settings `m` and changes the active slot
(R224, R227): the commit names geometry and slot itself, so that no coarsening stands. -/
def activationChoice (s : State) (m : Sparse DVal) : Option Nat :=
  (chooseOpt { s with policy := { s.policy with coarseFrom := none } } m).map Opt.kind

/-- The variant in which a newly activated timetable starts (R224): the full variant if none is kept. -/
def activationKind (s : State) (m : Sparse DVal) : Nat :=
  if natIn m K.variantForce ≠ 255 then natIn m K.variantForce else (activationChoice s m).getD 0

/-- The variant that a commit leaving settings `m` puts into effect (R227). -/
def commitKind (s : State) (m : Sparse DVal) : Nat :=
  if natIn m K.variantForce ≠ 255 then natIn m K.variantForce
  else if natIn m K.ttActiveSlot ≠ s.nat K.ttActiveSlot || !timetableActive s then activationKind s m
  else s.nat K.variantInEffect

end Sys2Proof.Machine
end

