-- ==== Sys2Proof/Machine/DictChecks.lean ====
section
/-!
DEFINITION. Machine/DictChecks.lean: entries, levels and rights (R333 to R337), the own checks of an item (R343, R345, R349 pass 1)
and the cross checks of a request (R349 pass 2).
-/

namespace Sys2Proof.Machine

/-- A refusal: STATUS (Table 13-5), and the codes it stores in EXC_REFUSAL, FIT_CODE or DETECT_REFUSAL (R345). -/
structure Refuse where
  status : Nat
  exc : Nat := 0
  fit : Nat := 0
  detect : Nat := 0
  deriving DecidableEq, Repr

/-- DETAIL of a refusal (R345). -/
def Refuse.detail (r : Refuse) : Nat := if r.exc ≠ 0 then r.exc + 256 * r.fit else r.detect

/-- The statuses of Table 13-5. -/
def Refuse.absent : Refuse := ⟨1, 0, 0, 0⟩
def Refuse.access : Refuse := ⟨2, 0, 0, 0⟩
def Refuse.rights : Refuse := ⟨3, 0, 0, 0⟩
def Refuse.size : Refuse := ⟨4, 0, 0, 0⟩
def Refuse.range : Refuse := ⟨5, 0, 0, 0⟩
def Refuse.state : Refuse := ⟨6, 0, 0, 0⟩
def Refuse.busy : Refuse := ⟨9, 0, 0, 0⟩
def Refuse.malformed : Refuse := ⟨13, 0, 0, 0⟩
/-- An excitation or fit refusal. -/
def Refuse.excitation (exc fit : Nat) : Refuse := ⟨7, exc, fit, 0⟩
/-- A refused detection block: zone, detector or 0xFF, reason (R259). -/
def Refuse.block (zone det reason : Nat) : Refuse := ⟨7, 0, 0, zone * 65536 + det * 256 + reason⟩

/-- A refusal unless `ok`. -/
def need (ok : Bool) (r : Refuse) : Option Refuse := if ok then none else some r

/-! ### Entries -/

/-- The type of a code. -/
def tyOfCode (c : Nat) : Ty :=
  match c with
  | 1 => .bool | 2 => .u8 | 3 => .u16 | 4 => .u32 | 5 => .u64 | 6 => .i8 | 7 => .i16 | 8 => .i32 | 9 => .i64 | _ => .f32

/-- The right of a code of R218. -/
def rightOfCode (c : Nat) : Right := if c = 2 then .rw else if c = 1 then .r else .none

/-- A timetable parameter as an entry (R218, R220). -/
def paramRow (p : ParamRec) : EntryRow :=
  { index := p.index, indices := 1, sub := p.sub, subs := 1, ty := tyOfCode p.ty, access := .rwb,
    rights := ⟨.rw, rightOfCode (p.rights % 4), rightOfCode (p.rights / 4 % 4)⟩, dflt := fieldVal p.ty p.dflt, step := 0,
    lo := orderVal p.ty p.min, hi := orderVal p.ty p.max }

/-- The parameters that an image defines. -/
def paramDefs (img : List Byte) : List ParamRec := (paramsOf img).filter fun p => 0x3400 ≤ p.index && p.index ≤ 0x343F

/-- Indices that the boot ROM answers when no control firmware copy is valid (R409): QUIET_CAUSE 3. -/
def romAnswers (k : Key) : Bool :=
  let i := k / 256
  ([0x10, 0x11, 0x54, 0x60, 0x61, 0x64, 0x68, 0x6C, 0x70] : List Nat).contains (i / 256) || k == K.ttImage

/-- The entry at key `k`, if there is one (R333, R220, R409). -/
def entryOf (s : State) (k : Key) : Option EntryRow :=
  let index := k / 256
  if s.nat K.quietCause = 3 && !romAnswers k then none
  else if 0x3400 ≤ index && index ≤ 0x343F then
    let ps := (paramDefs (activeImage s)).filter fun p => p.index == index
    if k % 256 = 0 then
      if ps.isEmpty then none else some ⟨index, 1, 0, 1, .u8, .const, .rRR, (maxOf (ps.map ParamRec.sub) : Nat), 0, 0, 255⟩
    else (ps.find? fun p => p.sub == k % 256).map paramRow
  else if k % 256 = 0 then
    if highestSub index = 0 then none else some ⟨index, 1, 0, 1, .u8, .const, .rRR, (highestSub index : Nat), 0, 0, 255⟩
  else findRow k

/-- A byte block. -/
def Ty.isBlock (t : Ty) : Bool := t == .dom || t == .str

/-! ### Levels and rights -/

/-- Level of initiator `i`: 0 Principal, 1 Staff, 2 Visitor (R336). -/
def levelOf' (s : State) (i : Initiator) : Nat :=
  if i.val ≤ 2 then max (s.nat (K.sessionLevel i)) (s.nat (K.levelCap i))
  else if i.val = 3 then max 1 (s.nat (K.levelCap 3))
  else 0

/-- The records of RIGHTS_OVERRIDES: index, first and last sub-index, Staff, Visitor (R359). -/
def overrides (b : List Byte) : List (Nat × Nat × Nat × Nat × Nat) := (chunks 8 b).map fun r =>
  (fieldAt 0 2 r, fieldAt 2 1 r, fieldAt 3 1 r, fieldAt 4 1 r, fieldAt 5 1 r)

/-- The right of a level on an entry, after the overrides (R337). -/
def rightOn (s : State) (row : EntryRow) (k : Key) (level : Nat) : Right :=
  let own := if level = 0 then row.rights.principal else if level = 1 then row.rights.staff else row.rights.visitor
  if level = 0 then own
  else match (overrides (s.block K.rightsOverrides)).find? fun (i, a, b, _, _) =>
      i == k / 256 && a ≤ k % 256 && k % 256 ≤ b with
    | some (_, _, _, staff, visitor) =>
      let c := if level = 1 then staff else visitor
      if c = 3 then own else rightOfCode c
    | none => own

/-- Reads; writes that an access code permits (Table 13-2). -/
def Access.reads (a : Access) : Bool := a != .wo
def Access.writes (a : Access) : Bool := a == .rw || a == .wo || a == .rwb

/-! ### Values -/

/-- The value that written bytes encode (R334). -/
def decodeVal (t : Ty) (data : List Byte) : DVal :=
  if t.isBlock then .bytes data
  else .num (let v := leNat data; if tySigned t.code then toSigned (8 * tyBytes t.code) v else v)

/-- A zone or detector block with its reserved bits at 0 (R242, R243): what is written to a reserved field has no effect (R7). -/
def unreserved (k : Key) (b : List Byte) : List Byte :=
  let i := k / 256
  if 0x3810 ≤ i && i < 0x3850 then
    b.mapIdx fun j x => let c := j % 32; if c = 8 then x &&& 0x3F else if c = 9 then x &&& 7 else if 24 ≤ c then 0 else x
  else if 0x3850 ≤ i && i < 0x3890 then
    b.mapIdx fun j x => let c := j % 16; if c = 1 then x &&& 7 else if c = 2 then x &&& 3 else if c = 3 then 0 else x
  else b

/-- The value that a write item gives its entry: what its bytes spell, reserved fields at 0 (R7, R279). -/
def entryVal (t : Ty) (k : Key) (data : List Byte) : DVal :=
  match decodeVal t data with
  | .num x => .num (if k / 256 = 0x4810 then x / 2 ^ 27 * 2 ^ 27 else x)
  | .bytes b => .bytes (unreserved k b)

/-- The bytes of a value as a read returns it. -/
def encodeVal (t : Ty) (v : DVal) : List Byte :=
  match v with
  | .num x => leBytes (tyBytes t.code) (ofSigned (8 * tyBytes t.code) x)
  | .bytes b => b

/-- Sizes of the DOM entries that have one fixed size when written (R346), but for those whose own row answers 0x05. -/
def fixedSize (k : Key) : Option Nat :=
  let i := k / 256
  if 0x2810 ≤ i && i ≤ 0x281F && k % 256 = 1 then some 4096
  else if 0x3810 ≤ i && i < 0x3850 then some 2048
  else if 0x3850 ≤ i && i < 0x3890 then some 4096
  else if k = K.pendingClear then some 24
  else if k = K.routes then some 96
  else if 0x6040 ≤ i && i ≤ 0x6042 && k % 256 = 1 then some 128
  else if k = K.opStart then some 16
  else none

/-- The byte blocks whose own row answers 0x05 for every length but one (R460). -/
def answersRange (k : Key) : Bool :=
  k == K.keyProgram || (0x6020 ≤ k / 256 && k / 256 ≤ 0x6022 && k % 256 = 2)

/-- A written item fits its entry in size (R343, R346). -/
def sizeOk (row : EntryRow) (k : Key) (offset : Nat) (data : List Byte) : Bool :=
  if k = K.ttImage then data.length ≤ 4096
  else offset == 0 && match row.ty with
    | .str => data.length ≤ 64
    | .dom => (data.length ≤ 4096 || answersRange k) && (match fixedSize k with
        | some n => data.length == n
        | none => true)
    | t => data.length == tyBytes t.code

/-! ### Own limits -/

/-- The entries whose refusals store a code of Table 3-3 (R80). -/
def excitationKey (k : Key) : Bool :=
  let i := k / 256
  k == K.bellPeriod || k == K.spatialMode || k == K.phasePoints || i == 0x2400 || i == 0x2402 || (0x2410 ≤ i && i ≤ 0x241F)

/-- A written address function (R306): every byte a bit number from 6 to 34 or 0xFF, no number twice, no extra bit without a home bit. -/
def mapEntryOk (v : Nat) : Bool :=
  let bs := (leBytes 8 v).map BitVec.toNat
  let bits := bs.filter (· != 255)
  bits.all (fun b => 6 ≤ b && b ≤ 34) && (bs.headD 255 != 255 || bits.isEmpty) && decide bits.Nodup

/-- Limits of a number that are not one interval. -/
def irregularOk (k : Key) (v : Nat) : Bool :=
  let i := k / 256
  let j := k % 256
  if k = K.phasePoints then v % 4 == 0
  else if k = K.deviceTime then v % 10 == 0
  else if k = K.tdcEnable then v % 2 == 1
  else if 0x2410 ≤ i && i ≤ 0x241F && j = 1 then v == 1 || v == 4
  else if k = K.ramanDelay then v % 2 == 0
  else if 0x2510 ≤ i && i ≤ 0x2517 && j = 12 then v ≤ 23 || v == 255
  else if k = K.ramanLine || k = K.powerLine || k = K.profileAuto || k = K.startTtSlot then v ≤ 7 || v == 255
  else if k = K.variantForce then v ≤ 3 || v == 255
  else if k = K.faultInject then 1 ≤ v / 256 && v / 256 ≤ 5 && v / 32 % 8 == 0
  else if i = 0x4810 then slotOk v
  else if i = 0x5420 then mapEntryOk v
  else if k = K.supAreaBytes then v % mib == 0
  else if k = K.scrubPeriod then v == 0 || 3600 ≤ v
  else if i = 0x5410 && j = 1 then v == 1
  else if (i = 0x5410 || i = 0x5411) && (j = 2 || j = 3) then v == 8 || v == 16
  else if (i = 0x5410 || i = 0x5411) && j = 5 then v % 2 == 0
  else if k = K.harvestAreaBytes then v % 4096 == 0
  else if 0x3A10 ≤ i && i ≤ 0x3A17 && j = 5 then ([1, 2, 4, 8, 16, 32, 64] : List Nat).contains v
  else if k = K.hostWindowBytes then (List.range 31).any fun e => v == 2 ^ e
  else if k = K.hostWindowBase then v % mib == 0
  else if k = K.streamMac then !bitOf v 40
  else if k = K.levelAllow then v % 2 == 0 && v < 64
  else if k = K.patternCandidates then (List.range 4).all fun b => let c := v / 256 ^ b % 256; c ≤ 15 || c == 255
  else if k = K.lineBands then (List.range 8).all fun b => v / 256 ^ b % 256 < 16
  else true

/-- A record of RIGHTS_OVERRIDES is well formed (R359). -/
def overrideOk (r : List Byte) : Bool :=
  let i := fieldAt 0 2 r
  let st := fieldAt 4 1 r
  let vi := fieldAt 5 1 r
  !(0x6000 ≤ i && i ≤ 0x61FF) && fieldAt 2 1 r ≤ fieldAt 3 1 r && st ≤ 3 && vi ≤ 3 && fieldAt 6 2 r == 0

/-- Weight of a right on an entry of access `a`, which no right exceeds (R337). -/
def Right.rank (a : Access) : Right → Nat
  | .none => 0
  | .r => b2n a.reads
  | .rw => b2n a.reads + b2n a.writes

/-- Visitor would have no more than Staff on any entry that the record covers (R359). -/
def overrideRanks (s : State) (r : List Byte) : Bool :=
  (List.range 256).all fun j =>
    if fieldAt 2 1 r ≤ j && j ≤ fieldAt 3 1 r then
      match entryOf s (256 * fieldAt 0 2 r + j) with
      | some row =>
        let right (c : Nat) (own : Right) : Right := if c = 3 then own else rightOfCode c
        (right (fieldAt 5 1 r) row.rights.visitor).rank row.access ≤ (right (fieldAt 4 1 r) row.rights.staff).rank row.access
      | none => fieldAt 5 1 r == 3 || fieldAt 4 1 r == 3 || fieldAt 5 1 r ≤ fieldAt 4 1 r
    else true

/-- RIGHTS_OVERRIDES as a whole (R359). -/
def overridesOk (s : State) (b : List Byte) : Bool :=
  let rs := chunks 8 b
  b.length % 8 == 0 && b.length ≤ 2048 && rs.all (fun r => overrideOk r && overrideRanks s r)
    && (List.range rs.length).all fun i => (List.range i).all fun j =>
      let x := rs.getD i []
      let y := rs.getD j []
      fieldAt 0 2 x != fieldAt 0 2 y || decide (fieldAt 3 1 x < fieldAt 2 1 y) || decide (fieldAt 3 1 y < fieldAt 2 1 x)

/-- A written window (R460). -/
def windowOk (b : List Byte) : Bool :=
  (chunks 16 b).all fun e => fieldAt 0 8 e % 4096 == 0 && fieldAt 8 4 e % 4096 == 0 && fieldAt 12 1 e < 8 && fieldAt 13 3 e == 0

/-- OP_START's 16 bytes (R360, Table 13-9). -/
def opStartOk (b : List Byte) : Bool :=
  let k := fieldAt 0 1 b
  1 ≤ k && k ≤ 4 && (if k = 1 then fieldAt 1 1 b == 0 else fieldAt 1 1 b ≤ 7) && allZero (slice 2 14 b)

/-- KEY_PROGRAM's 40 bytes (R460). -/
def keyProgramOk (b : List Byte) : Bool := b.length == 40 && fieldAt 0 1 b ≤ 5 && allZero (slice 1 7 b)

/-- Reason 1 of R259: a zone with a field outside its limits (R242). -/
def zoneFieldsOk (b : List Byte) : Bool :=
  zMargin b ≤ 4096 && zHoldoff b ≤ (if zFlag b 4 then 65535 else 1048576)
    && (!zFlag b 3 || (1 ≤ zAuto b && zAuto b ≤ 16777215))

/-- Reason 1 of R259 for a detector (R243): LIMIT_MIN and LIMIT_MAX where its type uses them. -/
def detFieldsOk (b : List Byte) : Bool :=
  let t := fieldAt 0 1 b
  t ≤ 5
    && (!(t == 2 || t == 4 || t == 5) || 1 ≤ fieldAt 12 2 b)
    && (!(t == 2 || t == 5) || fieldAt 12 2 b ≤ fieldAt 14 2 b)

/-- Reason 5 of R259: A and B in the order of R245, after negation. -/
def detOrderOk (b : List Byte) : Bool :=
  let sg : Int := if bitOf (fieldAt 2 1 b) 0 then -1 else 1
  let x := sg * toSigned 32 (fieldAt 4 4 b)
  let y := sg * toSigned 32 (fieldAt 8 4 b)
  match fieldAt 0 1 b with
  | 1 => decide (y ≤ x)
  | 3 | 5 => decide (x < y)
  | _ => true

/-- The first refusal among the zones, or detectors, of a block that depends on the block alone. -/
def blockOwn (k : Key) (b : List Byte) : Option Refuse :=
  let i := k / 256
  if 0x3810 ≤ i && i < 0x3850 then
    ((List.range 64).find? fun j => !zoneFieldsOk (slice (32 * j) 32 b)).map fun j => .block (64 * (i - 0x3810) + j) 0xFF 1
  else if 0x3850 ≤ i && i < 0x3890 then
    (List.range 256).findSome? fun j =>
      let d := slice (16 * j) 16 b
      let z := 64 * (i - 0x3850) + j / 4
      if !detFieldsOk d then some (.block z (j % 4) 1) else if !detOrderOk d then some (.block z (j % 4) 5) else none
  else none

/-- Limits of a byte block that its content alone decides. -/
def blockOk (s : State) (k : Key) (b : List Byte) : Bool :=
  let i := k / 256
  if k = K.rightsOverrides then overridesOk s b
  else if 0x6040 ≤ i && i ≤ 0x6042 then windowOk b
  else if k = K.opStart then opStartOk b
  else if k = K.keyProgram then keyProgramOk b
  else if 0x6020 ≤ i && i ≤ 0x6022 && k % 256 = 2 then b.length == 64 && fieldAt 0 1 b ≤ 1
  else if k = K.deviceName then b.length ≤ 32 && utf8Ok 65 b
  else true

/-- The limits that depend on the written value alone (R345, R349). -/
def ownLimits (s : State) (row : EntryRow) (k : Key) (offset : Nat) (v : DVal) : Option Refuse :=
  match v with
  | .num x =>
    let o := if row.ty = .f32 then f32Order x.toNat else x
    let ok := decide (row.lo ≤ o) && decide (o ≤ row.hi) && irregularOk k x.toNat && (row.ty != .f32 || f32Finite x.toNat)
    need ok (if excitationKey k then .excitation 1 0 else .range)
  | .bytes b =>
    if k = K.ttImage then need (offset + b.length ≤ 4194304) .range
    else match blockOwn k b with
      | some r => some r
      | none => need (blockOk s k b) .range

/-! ### Refusals in the present state -/

/-- A staged operation of kind `k` runs (R351). -/
def opRuns (s : State) (k : Nat) : Bool := bitOf (s.nat K.opsRunning) (k - 1)

/-- A start of a staged operation (R351); of a load, R225 too. -/
def opBars (s : State) (kind : Nat) : Option Refuse :=
  let pendingSlot := s.dict.shadow.any fun w => w.values.any fun (k, _) => k == K.ttActiveSlot
  if opRuns s kind then some .busy
  else need (!(kind == 1 && (pendingSlot || s.tt.switching.isSome || s.nat K.barnState == 6))) .state

/-- BELL_RUN := 1 may be accepted (R33, R451). -/
def bellRunOk (s : State) : Bool :=
  let t := s.nat K.bellStartTime
  (t == 0 || (t % 10 == 0 && decide (s.edgeTime + (s.clk.now % 10 + 10000 : Nat) ≤ (t : Int)))) && 2 ≤ s.nat K.refState && timetableActive s && s.stopped
    && s.nat K.powerState == 0

/-- A bell of number `n` has started: in the present run of bells, or in one that is over (R130). -/
def bellStarted (s : State) (n : Nat) : Bool :=
  (s.running && decide (s.bell.firstBell ≤ n ∧ n ≤ s.bell.number)) || s.bell.runs.any fun r => decide (r.1 ≤ n ∧ n ≤ r.2)

/-- CAP_ARM := 1 may be accepted (R130). -/
def capArmOk (s : State) : Bool :=
  let n := s.nat K.capBell
  let p := s.nat K.capPoint
  let mode := s.nat K.spatialMode
  s.nat K.capState != 1 && s.nat K.capState != 2
    && (n == 0 || !bellStarted s n)
    && s.nat K.capLength * capStreams p mode * capEntryBytes p ≤ 67108800
    && decide (s.nat K.capBand < (if mode = 2 then 4 else 1))

/-- POWER_REQUEST := `v` may be accepted (R452, R459, R482, R495). -/
def powerRequestOk (s : State) (v : Nat) : Bool :=
  let p := s.nat K.powerState
  let m := matrix (s.nat K.lifecycle) (s.nat K.debugState) v s.stopped
  if inScan s || s.power.waiting.isSome || (v == 0 && s.nat K.barnState == 6) then false
  else if p = 4 then v == 3
  else if p = 0 then v == 1 && s.stopped && m
  else if p = 1 then
    (v == 0 && !quiet s && m) || (v == 2 && m && !s.tt.switching.isSome) || v == 3
  else if p = 2 then (v == 1 && m) || v == 3
  else false

/-- An advance of the lifecycle meets the last column of Table 18-1 (R439). -/
def advanceOk (s : State) (v : Nat) : Bool :=
  s.nat K.lifecyclePending == 255
    && (if v = 1 then s.sec.keys[4].isSome else if v = 2 then 0 < liveSlots s else true)

/-- The entries that a policy decision holds (R423, Table 17-1). -/
def heldByPolicy (s : State) (k : Key) : Bool :=
  let l := s.nat K.powerLine
  (l != 255 && k == K.lineSet l)
    || (s.nat K.weightEnable == 1 && ([0, 1, 2, 3] : List Nat).any fun b => k == K.bandWeight b)
    || (s.nat K.patternEnable == 1 && k == K.seqEntry 0)
    || (s.policy.doubledFrom.isSome && k == K.bellPeriod)
    || (s.nat K.levelInEffect == 4
        && (k == K.spatialMode || k == K.phasePoints || k == K.gaugeSpacings || k == K.ttActiveSlot))

/-- An application copy is valid (R409). -/
def appValid (s : State) : Bool := (appCopy s).isSome

/-- What the present state of the device refuses of a write of `v` to entry `k` by initiator `i`. -/
def stateBars (s : State) (i : Initiator) (k : Key) (v : DVal) : Option Refuse :=
  let x := match v with
    | .num n => n.toNat
    | .bytes _ => 0
  let b := match v with
    | .num _ => []
    | .bytes b => b
  let on (ok : Bool) : Option Refuse := need (x != 1 || ok) .state
  let stoppedOnly := need s.stopped .state
  let idx := k / 256
  if s.power.shutdownAt.isSome then some .state
  else if s.nat K.quietCause = 3 && s.nat (K.trainingState 0) = 3
      && (k == K.ttImage || (k == K.opStart && fieldAt 0 1 b == 4)) then some .state
  else if i.val ≤ 3 && heldByPolicy s k then some .state
  else if 0x6020 ≤ idx && idx ≤ 0x6022 && idx != 0x6020 + i.val then some .state
  else if k = K.bellRun then on (bellRunOk s)
  else if k = K.harvestAreaBytes then
    -- the rings of both slots' images must still fit (R308)
    (if ([0, 1] : List Nat).all fun i => ringBytes (s.image i) + ceilTo mib x + areaBase s 7 ≤ s.nat K.barnBytes then stoppedOnly
     else some .range)
  else if k = K.bellNumberNext || k = K.refreshMode || k = K.refreshDouble then stoppedOnly
  else if k = K.deviceTime then need (s.stopped && s.nat K.timeSource == 0) .state
  else if k = K.driveEnable then
    on (!s.drive.interlockLow && !(s.drive.holdOff && decide (s.clk.now < s.drive.roseAt + 10000000)) && !quiet s)
  else if k = K.calRun then stoppedOnly
  else if k = K.capArm then on (capArmOk s)
  else if k = K.traceEndLearn then need (s.running && s.nat K.breakState != 2) .state
  else if k = K.faultInject then need (s.running && bitOf (s.nat K.enginesInService) (x % 32)) .state
  else if k = K.ttImage then need (s.nat K.ttLoadState != 1) .state
  else if k = K.ttLoad then if x = 1 then opBars s 1 else none
  else if k = K.opStart then opBars s (fieldAt 0 1 b)
  else if k = K.ttActiveSlot then
    need (s.nat K.ttLoadState != 1 && (x == s.nat K.ttActiveSlot || (x == standbySlot s && s.nat K.ttLoadState == 2))) .state
  else if k = K.manualTrigger then
    need (s.running && zFlag (zoneDef s.dict.store x) 0 && zCount (zoneDef s.dict.store x) != 0) .state
  else if k = K.harvestRelease then need (s.granary.harvests.any fun h => h.complete && h.seq == x) .state
  else if k = K.hkCalRun then need (s.nat K.hkCalState != 1) .state
  else if idx = 0x4870 || (0x4878 ≤ idx && idx ≤ 0x487B) then need (s.nat K.hkCalState != 1) .state
  else if k = K.lifecycleAdvance then
    if x ≠ s.nat K.lifecycle + 1 then some .range else need (advanceOk s x) .state
  else if k = K.keyProgram then
    let id := fieldAt 0 1 b
    need ((s.sec.keys.toList.getD id none).isNone && s.nat K.lifecycle != 3 && !(s.nat K.lifecycle == 2 && 4 ≤ id)) .state
  else if k = K.keyRevoke then
    need ((s.sec.keys.toList.getD x none).isSome
        && !(s.nat K.lifecycle == 2 && liveSlots s ≤ b2n (!s.sec.revoked.getLsbD x))) .state
  else if k = K.debugRequest then
    -- neither the power state nor one that a request waiting in Brace would bring may be refused (R459)
    need (matrix (s.nat K.lifecycle) x (matrixPower s) s.stopped
        && s.power.waiting.all fun v => matrix (s.nat K.lifecycle) x v s.stopped) .state
  else if k = K.debugDefault then need (s.nat K.lifecycle == 1) .state
  else if 0x6020 ≤ idx && idx ≤ 0x6022 && k % 256 = 2 then
    let d : Fin 3 := ⟨(idx - 0x6020) % 3, Nat.mod_lt _ (by decide)⟩
    need (!lockedOut s d && tagMatches s d b) .state
  else if k = K.powerRequest then need (powerRequestOk s x) .state
  else if k = K.appCoreRun then on (appValid s && s.nat K.lifecycle != 3 && !s.start.appBad)
  else if k = K.levelReturn then need (!(s.nat K.levelInEffect == 5 && levelOf' s i == 1)) .state
  else none

/-- OP_ABORT names no running operation (R354): 0x0B after the commit point, else 0x0C. -/
def abortBars (s : State) (id : Nat) : Option Refuse :=
  let o := (s.dict.displaced.find? fun o => o.id == id).getD (s.dict.ops.toList.getD (id % 8) {})
  if o.id ≠ id || id = 0 then some ⟨12, 0, 0, 0⟩
  else if o.state = 1 then none
  else if o.state = 2 then some ⟨11, 0, 0, 0⟩
  else some ⟨12, 0, 0, 0⟩

/-- The write starts a staged operation of a kind that is running (R345): the answer is 0x09 whatever else it breaks. -/
def startsBusy (s : State) (k : Key) (v : DVal) : Bool :=
  match v with
  | .num x => k == K.ttLoad && x == 1 && opRuns s 1
  | .bytes b => k == K.opStart && 1 ≤ fieldAt 0 1 b && opRuns s (fieldAt 0 1 b)

/-- The own checks of a write item (R343, R345, R349): that its entry is there, its access code, its rights, its size and type, and the
limits that depend on its value alone; the first that fails in this order answers (log entry 24). -/
def checkWrite (s : State) (level : Nat) (k : Key) (offset : Nat) (data : List Byte) : Option Refuse :=
  match entryOf s k with
  | none => some .absent
  | some row =>
    if !row.access.writes then some .access
    else if rightOn s row k level != .rw then some .rights
    else if !sizeOk row k offset data then some .size
    else
      let v := entryVal row.ty k data
      (ownLimits s row k offset v).map fun r => if startsBusy s k v then .busy else r

/-! ### Pass 2: checks that relate entries -/

/-- Values put into a store. -/
def putAll (m : Sparse DVal) (vs : List (Key × DVal)) : Sparse DVal := vs.foldl (fun m (k, v) => sparseSet defaultVal m k v) m

/-- The shadow: the values in effect with every pending bell-committed write (R348). -/
def shadowStore (s : State) : Sparse DVal := s.dict.shadow.foldl (fun m w => putAll m w.values) s.dict.store

/-- Line rules R86, R89 and R92 in store `m`, the line's MODE in effect being that of `s`. -/
def lineOk (s : State) (m0 m : Sparse DVal) (l : Nat) : Bool :=
  let ext := natIn m (K.pass l) == 1
  let mode := natIn m (K.mode l)
  (!ext || ((mode == 0 || mode == 1 || mode == 3) && 100 ≤ natIn m (K.shuntMohm l)
        && (mode != 3 || 2000 ≤ natIn m (K.gateWidth l))))
    && (natIn m (K.pass l) == natIn m0 (K.pass l) || s.nat (K.mode l) == 0)
    && natIn m (K.pwmDuty l) < 2 ^ natIn m (K.pwmBits l)
    && compTableOk m l

/-- Stream rules (R256, R261) in store `m`, for a request that writes the sub-indices `subs` of stream `k`: the range of points or zones,
the decimation, and the region, which a commit that changes RECORD_BYTES must not make too short (log entry 90). -/
def streamOk (s : State) (m0 m : Sparse DVal) (subs : List Nat) (k : Nat) : Bool :=
  let two := natIn m (K.streamKind k) == 2
  let top := natIn m (K.pointFirst k) + natIn m (K.pointCount k)
  let d := natIn m (K.spatialDecim k)
  let any (l : List Nat) : Bool := subs.any l.contains
  (!any [2, 3, 4] || decide (top ≤ if two then 4096 else natIn m K.phasePoints))
    && (!any [2, 5] || !two || d == 1)
    && (!any [4, 5] || natIn m (K.pointCount k) % d == 0)
    && (recordBytesOf m k == recordBytesOf m0 k
        || match streamRegion (s.image (natIn m K.ttActiveSlot)) k with
          | some (_, r) => 4 * recordBytesOf m k ≤ r.length
          | none => true)

/-- The coils of the temperature profile in store `m` (Table 10-5): COIL1_FIRST is refused if its coil passes N_T, COIL2_FIRST if its coil
does or overlaps coil 1; the counts have limits of their own only. -/
def coilsOk (keys : List Key) (m : Sparse DVal) : Bool :=
  let n := dtsPoints (natIn m K.spatialMode) (natIn m K.phasePoints)
  let a := natIn m K.coil1First
  let b := natIn m K.coil2First
  let a' := a + natIn m K.coil1Count
  let b' := b + natIn m K.coil2Count
  (!keys.contains K.coil1First || decide (a' ≤ n)) && (!keys.contains K.coil2First || (decide (b' ≤ n) && decide (a' ≤ b ∨ b' ≤ a)))

/-- LIMIT_LOW and LIMIT_HIGH of an input or source (R298), where entry `k` is one of them. -/
def limitsOk (m : Sparse DVal) (k : Key) : Bool :=
  let i := k / 256
  let code := if 0x4820 ≤ i ∧ i < 0x4838 then i - 0x4820 else 0x20 + (i - 0x4840)
  !(((0x4820 ≤ i && i < 0x4838) || (0x4840 ≤ i && i < 0x4850)) && (k % 256 == 5 || k % 256 == 6))
    || decide (natIn m (K.limitLow code) ≤ natIn m (K.limitHigh code))

/-- Reasons 1 to 4 of R259 for zone `z` in store `m`, as far as other entries decide them: a first point beyond the last is a field
outside its limits where the zone has no extent, and an extent beyond N where it has one (DEDUCED, log entry 91). -/
def zoneReason (s : State) (m : Sparse DVal) (z : Nat) : Nat :=
  let b := zoneDef m z
  let n := natIn m K.phasePoints
  let lo := zFirst b - zMargin b
  let top := min n (zFirst b + zCount b + zMargin b)
  if zCount b = 0 && n ≤ zFirst b then 1
  else if n < zFirst b + zCount b then 2
  else if zFlag b 2 && 268435456 < 128 + (zPre b + zPost b + 1) * rowBytes (top - lo) then 3
  else if zFlag b 2 && granarySlotsOf (s.image (natIn m K.ttActiveSlot)) < zPre b + zPost b + 5 then 4
  else 0

/-- The zone blocks of a request against the state after it. -/
def zonesBar (s : State) (m : Sparse DVal) (keys : List Key) : Option Refuse :=
  keys.findSome? fun k =>
    let i := k / 256
    if 0x3810 ≤ i && i < 0x3850 then
      (List.range 64).findSome? fun j =>
        let z := 64 * (i - 0x3810) + j
        if zoneReason s m z ≠ 0 then some (Refuse.block z 0xFF (zoneReason s m z)) else none
    else none

/-- The fit checks of a commit (R227): the full variant, then the one that will be in effect; a kind forced without a timetable is
absent. -/
def fitBars (s : State) (m : Sparse DVal) (forces : Bool) : Option Refuse :=
  let img := s.image (natIn m K.ttActiveSlot)
  if img.isEmpty then need (!forces || natIn m K.variantForce == 255) .state
  else
    let k := commitKind s m
    if natIn m K.variantForce ≠ 255 && !hasKind img k then some .state
    else
      let f := fitOf img 0 m
      let g := fitOf img k m
      if f ≠ 0 then some (.excitation 7 f) else if g ≠ 0 then some (.excitation 7 g) else none

/-- The entries whose change runs the fit checks (R227). -/
def fitKeys : List Key := [K.ttActiveSlot, K.bellPeriod, K.spatialMode, K.phasePoints, K.gaugeSpacings, K.variantForce]

/-- The limits that Table 17-6 states of a written policy entry against another entry (R437). -/
def policyOk (m : Sparse DVal) (k : Key) : Bool :=
  let low := natIn m K.thermalLow
  let high := natIn m K.thermalHigh
  if k = K.powerSetMin || k = K.powerSetMax then natIn m K.powerSetMin ≤ natIn m K.powerSetMax
  else if k = K.powerRefPoint then natIn m K.powerRefPoint < natIn m K.phasePoints
  else if k = K.thermalHigh then low < high && high ≤ natIn m K.thermalShut
  else if k = K.thermalLow then low < high
  else if k = K.thermalShut then high ≤ natIn m K.thermalShut
  else true

/-- Areas 1 to 7 with a new supervisor area stay within the barn (R307, R330). -/
def areasFit (s : State) (m : Sparse DVal) : Bool :=
  let s' := { s with barn := { s.barn with supArea := natIn m K.supAreaBytes } }
  areaBase s' 8 ≤ s.nat K.barnBytes

/-- The checks made once on the state that the whole request would leave (R349): `keys` are the entries it writes. -/
def crossBars (s : State) (keys : List Key) (m0 m : Sparse DVal) : Option Refuse :=
  let touches (p : Key → Bool) : Bool := keys.any p
  let changes (k : Key) : Bool := decide (valIn m0 k ≠ valIn m k)
  let modeChanges := changes K.spatialMode
  if touches excitationKey && maxPoints (natIn m K.spatialMode) < natIn m K.phasePoints then some (.excitation 1 0)
  else
    let e := if touches excitationKey then excCheck m modeChanges else 0
    if e ≠ 0 then some (.excitation e 0)
    else match if fitKeys.any changes then fitBars s m (changes K.variantForce) else none with
      | some r => some r
      | none =>
        let lines := (List.range 8).filter fun l =>
          touches fun k => k / 256 == 0x2510 + l || k / 256 == 0x2520 + l
        let subs (q : Nat) : List Nat := (keys.filter fun k => k / 256 == 0x3A10 + q).map (· % 256)
        let ok := lines.all (lineOk s m0 m) && ((List.range 8).all fun q => streamOk s m0 m (subs q) q)
          && coilsOk keys m && keys.all (limitsOk m)
          && keys.all (policyOk m)
          && (!(touches fun k => k == K.patternEnable || k == K.seqLength)
              || natIn m K.patternEnable == 0 || natIn m K.seqLength == 1)
          && (!(touches (· == K.hostWindowBase)) || natIn m K.hostWindowBase + s.host.windowBytes ≤ s.nat K.barnBytes)
          && (!(touches (· == K.supAreaBytes)) || areasFit s m)
          && (!(touches fun k => k / 256 == 0x5410 || k / 256 == 0x5411) || ([0, 1] : List Nat).all fun c =>
                !(natIn m (K.ranks c) == 2 && natIn m (K.deviceWidth c) == 8 && natIn m (K.densityGb c) == 16))
        if !ok then some .state else zonesBar s m keys

end Sys2Proof.Machine
end

