-- ==== Sys2Proof/Machine/SwitchOps.lean ====
section
/-!
DEFINITION. Machine/SwitchOps.lean: activation of a timetable (R200, R220) and the bell switch (R222 to R224): its start, its load,
its load bells and its completion; the event after which temporal state is re-seeded (R77).
-/

namespace Sys2Proof.Machine

/-! ### Parameters -/

/-- Key of a timetable parameter. -/
def ParamRec.key (p : ParamRec) : Key := p.index * 256 + p.sub

/-- A value lies within a parameter's limits. -/
def ParamRec.admits (p : ParamRec) (v : Int) : Bool :=
  let o := if p.ty = 10 then f32Order v.toNat else v
  decide (orderVal p.ty p.min ≤ o) && decide (o ≤ orderVal p.ty p.max)

/-- The parameter entries when `new` takes the place of `old` (R220). -/
def activateParams (old new : List Byte) (s : State) : State :=
  let gone := (paramDefs old).filter fun p => (paramDefs new).all fun q => q.key != p.key
  let s := gone.foldl (fun (s : State) (p : ParamRec) => s.setNum p.key 0) s
  (paramDefs new).foldl (fun (s : State) (p : ParamRec) =>
    if (paramDefs old).any (fun q => q.key == p.key && q.ty == p.ty) && p.admits (s.num p.key) then s
    else s.setNum p.key (fieldVal p.ty p.dflt)) s

/-! ### Loading sections -/

/-- Barn address of the section of a type that serves a kind and scope in the slot in use (R202, R307). -/
def sectionAt (s : State) (type k x : Nat) : Nat :=
  areaBase s (4 + s.array.slot) + match findSec (runImage s) type k x with
    | some y => y.offset
    | none => 0

/-- A bundle whose 32-bit words `bad` come of an uncorrectable barn word: stored with the poison marker, inverted parity (R160, R321). -/
def poisonBundle (bad : Nat → Bool) (w : BitVec 132) : BitVec 132 := w ^^^ BitVec.ofNat 132 (2 ^ 128 * bitsOf bad 4)

/-- The bytes of a section as the transfer units read them from the barn (R315). -/
def sectionBytes (s : State) (type k x : Nat) : List Byte :=
  overQueued s (sectionAt s type k x) (findBytes (runImage s) type k x)

/-- The bundles of a lesson or appendix section, as instruction memory stores them (R176, R205). -/
def lessonWords (s : State) (type k x : Nat) : List (Nat × BitVec 132) :=
  let b := sectionBytes s type k x
  let at_ := sectionAt s type k x
  (List.range (lessonBundles b)).map fun i =>
    (lessonBase b + i, poisonBundle (fun j => barnBad 13 s (at_ + 16 + 16 * i + 4 * j)) (storedBundle (lessonBundle b i)))

/-- The bundles of logical engine `x` in kind `k`: the appendix follows whenever the full or N−1 variant runs (R222). -/
def engineWords (s : State) (k x : Nat) : List (Nat × BitVec 132) :=
  lessonWords s 2 k x ++ (if k ≤ 1 && hasKind (runImage s) 1 then lessonWords s 10 1 x else [])

/-- The words of an INIT section with their addresses (Table 8-3), as engine `e` reaches them: good, but for those of an uncorrectable barn
word (R321). Data that end within a word leave its other bytes as they are. -/
def initWords (e : Fin 32) (s : State) (k x : Nat) : List (Nat × MemWord) :=
  let b := sectionBytes s 7 k x
  let at_ := sectionAt s 7 k x
  let a (i : Nat) : Nat := fieldAt 0 4 b + 4 * i
  (List.range ((b.length - 4 + 3) / 4)).map fun i =>
    let d := (b.drop (4 + 4 * i)).take 4
    let w := if d.length < 4 then overlay 0 d (leBytes 4 (getWord e (a i) s).v.toNat) else d
    (a i, { v := BitVec.ofNat 32 (leNat w), bad := barnBad 13 s (at_ + 4 + 4 * i) })

/-- An INIT section overwrites its targets (R223). -/
def applyInit (k x : Nat) (e : Fin 32) (s : State) : State :=
  (initWords e s k x).foldl (fun (s : State) (w : Nat × MemWord) => setWord e w.1 w.2 s) s

/-- The copy of a section reads it from the barn (R318). -/
def readSection (type k x : Nat) (s : State) : State :=
  readMarks 13 (sectionAt s type k x) (findBytes (runImage s) type k x).length s

/-- Physical engine of a logical one, as an index. -/
def physIdx (s : State) (x : Nat) : Fin 32 := ⟨physicalOf s x % 32, Nat.mod_lt _ (by decide)⟩

/-- Load logical engine `x` (R223). -/
def loadEngine (k x : Nat) (s : State) : State :=
  let e := physIdx s x
  let s := readSection 7 k x (readSection 10 1 x (readSection 2 k x s))
  let s := s.onEng e fun y =>
    { y with imem := (engineWords s k x).foldl (fun m w => sparseSet (fun _ => 0) m w.1 w.2) y.imem }
  applyInit k x e s

/-- The transfer units load every section of the running kind (R223). -/
def loadSections (s : State) : State :=
  let img := runImage s
  let k := runKind s
  let s := (enginesOf img k).foldl (fun (s : State) (x : Nat) => loadEngine k x s) s
  (roomsOf img k).foldl (fun (s : State) (r : Nat) =>
    applyInit k (32 + r) (physIdx s (8 * r)) (readSection 7 k (32 + r) s)) s

/-! ### Re-seeding -/

/-- Temporal state is re-seeded from bell `n` on, with or without blending, over `f` bells (R74, R75, R77). -/
def reseed (n f : Nat) (blends : Bool) (s : State) : State :=
  { s with exc := { s.exc with fadeStart := n, fadeLength := f, fadeBlends := blends, lastReseed := n } }

/-- Bells still to be flagged "settling" at bell `n`, counting `n` (R74, R77). -/
def settlingLeft (s : State) (n : Nat) : Nat :=
  if s.exc.fadeStart ≤ n then s.exc.fadeStart + s.exc.fadeLength - n else 0

/-! ### The switch -/

/-- K of R223: load bells for a bell of `t` ns. -/
def loadBells (img : List Byte) (k t : Nat) : Nat := max 1 ((loadTime img k + t - 1) / max 1 t)

/-- CLASSROOM_MAP of R169: physical classroom `c` serves logical classroom 3. -/
def mapWithout (c : Nat) : Nat :=
  let order := (([0, 1, 2, 3] : List Nat).filter (· != c)) ++ [c]
  (List.range 4).foldl (fun t l => t + order.getD l 0 * 4 ^ l) 0

/-- The physical classroom that holds every engine out of service, if engines are out of service. -/
def lostRoom (s : State) : Option Nat :=
  if (lostEngines s).isEmpty then none
  else (List.range 4).find? fun c => (lostEngines s).all fun e => e / 8 == c

/-- The array turns to a slot and kind: the fabric delivers under its maps, ENGCLK follows it, an N−8 variant rewrites
CLASSROOM_MAP (R169, R223); the N−1 variant comes in appendix mode where one engine is out of service (R222, R430). -/
def turnArray (slot kind : Nat) (s : State) : State :=
  let s := { s with array := { s.array with slot, kind := some kind, darkPrev := none, spareAt := none } }
  let s := if kind = 2 then (match lostRoom s with
      | some c => s.setNum K.classroomMap (mapWithout c)
      | none => s) else s
  let spare := match kind, lostEngines s with
    | 1, [e] => some e
    | _, _ => none
  let s := s.setNum K.spareMap (spare.getD 255)
  { s with array := { s.array with engines := s.array.engines.map fun (x : Engine) =>
      { x with appendix := spare.isSome, switchTo := false } } }

/-- The switch's load starts now (R223, R224). -/
def startLoad (w : Switch) (s : State) : State :=
  let s := turnArray w.slot w.kind s
  let t := loadTime (s.image w.slot) w.kind
  { s with tt := { s.tt with switching := some { w with started := true, endsAt := s.clk.now + t } } }

/-- The load has ended: the sections stand in the engines and classrooms. -/
def endLoad (s : State) : State :=
  match s.tt.switching with
  | some w =>
    if w.started && !w.done then
      let s := loadSections s
      { s with tt := { s.tt with switching := some { w with done := true } } }
    else s
  | none => s

/-- The switch is complete: the next lesson re-seeds everything (R77, R223). -/
def completeSwitch (s : State) : State :=
  let s := (endLoad s).setNum K.switchState 0
  { s with tt := { s.tt with switching := none }, array := { s.array with reseedAll := true } }

/-- The incoming timetable becomes the active one, if the slot changes: the slot that was active becomes the standby slot and
stays ready (R200); parameters and private regions are renewed (R220). -/
def activateSlot (oldSlot slot : Nat) (s : State) : State :=
  if timetableActive s && oldSlot == slot then s
  else
    let was := if timetableActive s then s.image oldSlot else []
    let s := clearPrivate slot (activateParams was (s.image slot) s)
    let other := 1 - slot
    let s := s.setNum K.ttLoadState (if (s.image other).isEmpty then 0 else 2)
    { s with tt := { s.tt with untrusted := Vector.replicate 4 false },
             array := { s.array with gapNoted := false, segNoted := false } }

/-- The power window of R424 restarts. -/
def restartPower (s : State) : State :=
  { s with policy := { s.policy with powerBells := 0, powerClipped := 0, powerSum := 0 } }

/-- A bell switch to `slot` and `kind` takes effect (R223, R224): at bell `m` if one is given, else with bells stopped, when the
load runs at once. `oldSlot` was the active slot. It ends an inward run (R275) and the power window (R424). -/
def takeSwitch (oldSlot slot kind : Nat) (m : Option Nat) (s : State) : State :=
  let s := restartPower (endRunInward (activateSlot oldSlot slot s))
  let s := ((s.setNum K.ttActiveSlot slot).setNum K.variantInEffect kind).inc K.switchCount
  let n := m.getD (s.nat K.bellNumberNext)
  let s := clearDetectors n (restartGranary n s)
  let k := loadBells (s.image slot) kind (10 * s.nat K.bellPeriod)
  let w : Switch := { slot, kind, bell := m, load := k }
  match m with
  | some _ => { s.setNum K.switchState (min 255 k : Nat) with tt := { s.tt with switching := some w } }
  | none => startLoad w (s.setNum K.switchState 1)

/-- The switch in progress at the start of bell `b`, and whether lessons run in that bell (R223, R224). -/
def switchBell (b : Nat) (s : State) : Bool × State :=
  match s.tt.switching with
  | none => (true, s)
  | some w =>
    match w.bell with
    | some m =>
      if m + w.load < b then (true, completeSwitch s)
      else if b = m + 1 then (false, (startLoad w s).setNum K.switchState (min 255 w.load : Nat))
      else (false, s.setNum K.switchState (min 255 (w.load + 1 - (b - m)) : Nat))
    | none => if w.done || decide (w.endsAt ≤ s.clk.now) then (true, completeSwitch s) else (false, s)

/-- Bells that start, of `t` ns each, before a load that was begun with bells stopped ends: SWITCH_STATE counts the bell that starts now and
those after it before the load ends (R224, R232). -/
def countLoadBells (t : Nat) (s : State) : State :=
  match s.tt.switching with
  | some w =>
    if w.bell.isNone && decide (s.clk.now < w.endsAt) then
      s.setNum K.switchState (min 255 ((w.endsAt - s.clk.now + t - 1) / max 1 t) : Nat)
    else s
  | none => s

/-- Bell `b`, of `t` ns, is the last load bell of the switch in progress: its product is the first that comes out, with
"settling" (R223, R224). -/
def lastLoadBell (b t : Nat) (s : State) : Bool :=
  match s.tt.switching with
  | some w => match w.bell with
    | some m => b == m + w.load
    | none => decide (w.endsAt ≤ s.clk.now + t)
  | none => false

/-- Bells have stopped while a switch is in progress: its load finishes while bells are stopped (R224). -/
def stopDuringSwitch (s : State) : State :=
  match s.tt.switching with
  | some w =>
    let w := { w with bell := none }
    let s := s.setNum K.switchState 1
    if w.done then completeSwitch s else if w.started then { s with tt := { s.tt with switching := some w } } else startLoad w s
  | none => s

/-- A switch asked for by a commit or a decision: at once, or after the switch in progress (R224). -/
def askSwitch (slot : Option Nat) (kind : Option Nat) (at_ : Nat) (s : State) : State :=
  { s with tt := { s.tt with decided := some { slot, kind, at_ } } }

/-- The switch that waits may take effect now: none is in progress, and (while bells run) its decision lies 1.000 µs back. -/
def decisionDue (stopped : Bool) (s : State) : Option Decision :=
  match s.tt.decided, s.tt.switching with
  | some d, none => if stopped || decide (d.at_ + 1000 ≤ s.clk.now) then some d else none
  | _, _ => none

/-- The waiting switch takes effect, if it changes the variant (R224): `m` is the bell, none while bells are stopped. -/
def takeDecision (m : Option Nat) (s : State) : State :=
  match decisionDue m.isNone s with
  | some d =>
    let s := { s with tt := { s.tt with decided := none } }
    let slot := d.slot.getD (s.nat K.ttActiveSlot)
    let kind := d.kind.getD (s.nat K.variantInEffect)
    if timetableActive s && decide (slot = s.nat K.ttActiveSlot) && decide (kind = s.nat K.variantInEffect) then s
    else if !hasKind (s.image slot) kind then s
    else takeSwitch (s.nat K.ttActiveSlot) slot kind m s
  | none => s

end Sys2Proof.Machine
end

