-- ==== Sys2Proof/Machine/LessonOps.lean ====
section
/-!
DEFINITION. Machine/LessonOps.lean: what surrounds a lesson: the fabric's delivery (R156, R166), the context block (R213) and the
bound parameters (R219), its start (R155, R205), the points that failed engines cost (R167, R168) and its deadline (R228).
-/

namespace Sys2Proof.Machine

/-- The 32 engines. -/
def allEngines : List (Fin 32) := List.finRange 32

/-- Engines and classrooms without contents: what stays are a classroom's failure and the words found hard (R161, R165). -/
def bareArray (a : EngineArray) : EngineArray :=
  { engines := a.engines.map fun x => { hard := x.hard }, rooms := a.rooms.map fun r => { failed := r.failed } }

/-- Engines and classroom memory in reset, or without power: they lose their contents (R449, Table 18-4); a failed engine stays failed. -/
def loseEngines (s : State) : State :=
  let s := allEngines.foldl (fun (s : State) (e : Fin 32) =>
    if s.nat (K.engineState e) = 4 then s else s.setNum (K.engineState e) 0) s
  let bare := bareArray s.array
  { s with array := { s.array with engines := bare.engines, rooms := bare.rooms } }

/-- The bell being acquired is one whose lessons run: a bell waits to be processed, and no switch is in its load bells
(R155, R223). -/
def lessonsRun (s : State) : Bool :=
  match s.bell.processing with
  | some p => !p.header.has .switching
  | none => false

/-- Engine `e` has a lesson in the running kind: a LESSON section serves it, and ENGINE_MASK names its logical engine (R205, R221). -/
def hasLesson (s : State) (e : Nat) : Bool :=
  !(engSec s 2 e).isEmpty && bitOf (kindEngines (runImage s) (runKind s)) (logicalOf s e)

/-- Engine `e` is in service. -/
def inService (s : State) (e : Nat) : Bool := bitOf (s.nat K.enginesInService) e

/-- The point map of engine `e`. -/
def mapOf (s : State) (e : Nat) : PointMap := pointMapOf (engSec s 5 e)

/-! ### Writing engine memory -/

/-- Good words of bytes. -/
def wordsOf (b : List Byte) : List MemWord := (chunks 4 b).map fun x => { v := BitVec.ofNat 32 (leNat x) }

/-- Write words from address `a` up. -/
def writeWords (e : Fin 32) : Nat → List MemWord → State → State
  | _, [], s => s
  | a, w :: ws, s => writeWords e (a + 4) ws (setWord e a w s)

/-- Write `b` bytes at `a`, inside one word or over whole words; the words are good. -/
def writeGood (e : Fin 32) (a : Nat) (b : List Byte) (s : State) : State :=
  if b.length < 4 then
    let old := leBytes 4 (getWord e a s).v.toNat
    setWord e (a / 4 * 4) { v := BitVec.ofNat 32 (leNat (slice 0 4 (overlay (a % 4) b old))) } s
  else writeWords e a (wordsOf b) s

/-! ### Spare mapping (R166) -/

/-- Rank of engine `f` among the survivors of engine `e`. -/
def rankOf (e f : Nat) : Nat := if f < e then f else f - 1

/-- Points of engine `e`'s list that spare mapping gives to the survivor `f`, in slot order (R166). -/
def sparePoints (s : State) (e f : Nat) : List Nat :=
  let cap := (mapOf s f).aCap
  ((mapOf s e).products.drop (rankOf e f * cap)).take cap

/-- The engine covered by spare mapping, if any. -/
def spared (s : State) : Option Nat := if s.nat K.spareMap < 32 then some (s.nat K.spareMap) else none

/-- Appendix slots of engine `f` for bell `b`: the point, or none where the slot receives no point (R156, R166). -/
def appendixSlots (s : State) (b : BellRec) (f : Nat) : List (Option Nat) :=
  let cap := (mapOf s f).aCap
  let pts := match spared s with
    | some e => if e = f then [] else sparePoints s e f
    | none => []
  (List.range cap).map fun k => match pts[k]? with
    | some i => if b.spareFrom ≤ i then some i else none
    | none => none

/-- Spare mapping begins, 1.000 µs after the failure of engine `e` (R166, R167): the survivors switch at their next segment
boundary; of the bell being acquired, a free number of points has reached engine `e` already, and the N−1 lessons process it (R234). Of a bell that
started after the failure R167 lists no point: it loses none. -/
def startSpare (e : Fin 32) (s : State) : State :=
  let part (b : BellRec) : Nat :=
    let n := b.header.points
    let ts := tsOf b.header.mode
    let t := s.clk.now - b.startAt
    if t < 1000 then 0 else if b.endKnown || n * ts + 6024 ≤ t then n else s.free (min n (t / ts + 1) + 1)
  let s := (s.onAcquiring fun b =>
    { b with spareFrom := part b, header := { b.header with variant := if b.endKnown then b.header.variant else 1 } }).onProcessing fun b => { b with spareFrom := b.header.points }
  let s := s.draw.setNum K.spareMap e.val
  { s with array := { s.array with
    kind := some 1, spareAt := none,
    engines := s.array.engines.map fun (x : Engine) => { x with switchTo := !x.appendix, switchAt := x.cycle } } }

/-! ### The fabric (R156) -/

/-- The fabric delivers a bell to engine `e`: point records in run order, appendix slots (those without a point filled with poison
markers of a free value), header copy and clip map. -/
def deliverTo (b : BellRec) (g : BellSignal) (poison : BitVec 32) (s : State) (e : Fin 32) : State :=
  let m := mapOf s e
  if m.runs.isEmpty then s
  else
    let n := b.header.number
    let base := byParity m.buf n
    let app := byParity m.app n
    let w := pointBytes b.header.mode
    let slots := (appendixSlots s b e).flatMap fun x => match x with
      | some i => wordsOf (g.pointRecord i)
      | none => List.replicate (w / 4) { v := poison, bad := true }
    let s := writeWords e base (m.delivered.flatMap fun i => wordsOf (g.pointRecord i)) s
    let s := writeWords e app slots s
    let s := writeWords e (base + m.headerOff) (wordsOf (headerCopy b.header)) s
    writeWords e (base + m.clipOff) (wordsOf (leBytes 32 b.header.clipMap.toNat)) s

/-- The fabric delivers a bell to every engine. -/
def deliverBell (b : BellRec) (g : BellSignal) (s : State) : State :=
  let (v, s) := freeWord s
  allEngines.foldl (deliverTo b g v) s

/-! ### The end overhead (R208, R213, R219) -/

/-- RING_OFFSET of bell `n` in ring region `i`-th of the image (R240): in 8-byte units; none where the region has no record
size. -/
def ringOffsetOf (s : State) (m : Sparse DVal) (r : BarnRegion) (n : Nat) : Option Nat :=
  let (sr, d) := if r.kind = 2 then (granarySlotBytes (imgPoints (runImage s)), 1)
    else if r.kind = 3 then
      (recordBytesOf m r.index, natIn m (K.temporalDecim r.index))
    else (131072, 1)
  let rr := if sr = 0 then 0 else r.length / sr
  if rr = 0 || d = 0 then none else some (n / d % rr * sr / 8)

/-- The first four ring regions. -/
def rings (s : State) : List BarnRegion := ((barnRegions (runImage s)).filter fun r => 2 ≤ r.kind && r.kind ≤ 4).take 4

/-- DARK_FROM_PREV of the lesson on the bell with header `h` (R230): that of the bell processed before; its own DARK_FROM in the first
lesson after bells start, a bell switch or a geometry change. -/
def darkBefore (h : Header) (s : State) : Nat :=
  match s.array.darkPrev, s.bell.processing with
  | some d, some p => if p.header.mode == h.mode && p.header.points == h.points && p.header.gauge == h.gauge then d else h.darkFrom
  | some d, none => d
  | none, _ => h.darkFrom

/-- The context block of engine `e` before the lesson that processes bell `b` (Table 8-6): where no fade is in progress the
manual gives FADE_J and FADE_F no value, and a barn region list with fewer than four rings gives the other RING_OFFSETs none; they are
free. Without a list every RING_OFFSET is 0 (R215). -/
def contextBlock (b : BellRec) (e : Fin 32) (s : State) : List Byte :=
  let h := b.header
  let x := s.eng e
  let left := settlingLeft s h.number
  let fading := 0 < left
  let first := h.number == s.exc.fadeStart
  let reseedAll := s.array.reseedAll || (first && !s.exc.fadeBlends)
  let flags := b2n reseedAll + 2 * b2n (first && s.exc.fadeBlends && !reseedAll) + 4 * b2n (fading && s.exc.fadeBlends)
    + 8 * b2n (x.appendix || x.switchTo)
  let points := (appendixSlots s b e).countP Option.isSome
  let fresh (i bound : Nat) : Nat := State.free { s with drawn := s.drawn + i } bound
  let offsets := (List.range 4).map fun i => match (rings s)[i]? with
    | some r => (ringOffsetOf s b.settings r h.number).getD (fresh i (2 ^ 32))
    | none => if (barnRegions (runImage s)).isEmpty then 0 else fresh i (2 ^ 32)
  leBytes 8 h.number ++ leBytes 1 (runKind s) ++ leBytes 1 h.tag ++ leBytes 1 h.seqPos ++ leBytes 1 flags
    ++ leBytes 2 (if fading then h.number - s.exc.fadeStart else fresh 4 65536)
    ++ leBytes 2 (if fading then s.exc.fadeLength else fresh 5 65536)
    ++ leBytes 8 x.stale.toNat ++ leBytes 4 points ++ leBytes 4 h.csn ++ offsets.flatMap (leBytes 4)
    ++ leBytes 4 (darkBefore h s) ++ zeros 12

/-- A parameter's value in the settings of bell `b`, as bytes of its type. -/
def paramBytes (b : BellRec) (p : ParamRec) : List Byte :=
  let n := tyBytes p.ty
  leBytes n (ofSigned (8 * n) (numIn b.settings p.key))

/-- Write one bound parameter into every target (R218, R219). -/
def bindParam (b : BellRec) (s : State) (p : ParamRec) : State :=
  (paramTargets (runImage s) (runKind s) p).foldl (fun (s : State) (sc : Nat) =>
    let e := if sc < 32 then physIdx s sc else physIdx s (8 * (sc - 32))
    writeGood e p.address (paramBytes b p) s) s

/-- The next lesson's context blocks and bound parameters (R208). -/
def prepareLessons (b : BellRec) (s : State) : State :=
  let s := allEngines.foldl (fun (s : State) (e : Fin 32) =>
    if hasLesson s e then
      writeWords e (mapOf s e).context (wordsOf (contextBlock b e s)) { s with drawn := s.drawn + 6 } else s) s
  (paramsOf (runImage s)).foldl (bindParam b) s

/-! ### The start of a lesson (R155, R205) -/

/-- Registers at the start of a lesson: 0 with good parity and clear tags, but for the buffer pointers. -/
def startRegs (s : State) (e : Fin 32) (n : Nat) : EngRegs :=
  let m := mapOf s e
  let r : EngRegs := {}
  let r := { r with p := r.p.set 0 { v := BitVec.ofNat 24 (byParity m.buf n) } }
  if holdsN1 s then { r with p := r.p.set 1 { v := BitVec.ofNat 24 (byParity m.app n) } } else r

/-- Engine `e` starts its lesson on bell `n`; a halted engine stays halted (R172), a failed one fenced (R165). -/
def startLesson (n : Nat) (s : State) (e : Fin 32) : State :=
  if !hasLesson s e || !inService s e then s
  else if s.nat (K.engineState e) = 3 then s.onEng e fun x => { x with ended := 0, faulted := false, resumeTo := 0 }
  else
    let base := lessonBase (engSec s 2 e)
    let r := startRegs s e n
    let s := s.onEng e fun x => { x with
      regs := r, pc := BitVec.ofNat 12 base, cycle := 1000, used := 0, suppressed := false, bank := none, flight := [],
      branch := none, delayUntil := none, reps := [], segment := 0, segStart := 1000, lessonStart := 1000, lastSafe := 1000,
      lastSafePc := BitVec.ofNat 12 base, posts := 0, checkpoint := r, checkPc := BitVec.ofNat 12 base, dets := [], cause := [],
      noStore := false, replayAt := none, appendix := x.appendix || x.switchTo, switchTo := false, ended := 0,
      faulted := false, resumeTo := 0, breakHit := false,
      injecting := if x.injectAt = s.bell.number then x.inject else 0, inject := if x.injectAt ≤ s.bell.number then 0 else x.inject }
    fetchBundle e (s.setNum (K.engineState e) 1)

/-- ENGCLK cycle of the lesson deadline (R208). -/
def deadlineCycle (s : State) (period : Nat) : Nat := cyclesPerRef (runImage s) (runKind s) * (period / 10) - 1000

/-- Every engine starts its lesson (R155). -/
def startLessons (s : State) : State :=
  let s := s.onAcquiring fun b => { b with lessonStarted := true }
  match s.bell.acquiring, s.bell.processing with
  | some a, some p =>
    if lessonsRun s then
      let s := { s with array := { s.array with
        deadline := deadlineCycle s a.period, reseedAll := false, darkPrev := some p.header.darkFrom } }
      allEngines.foldl (startLesson p.header.number) s
    else s
  | _, _ => s

/-! ### Points that failed engines cost (R167, R168) -/

/-- Points of bell `b` that engine `e`, out of service, costs. -/
def lostOf (s : State) (b : BellRec) (e : Fin 32) : List Nat :=
  let own := if spared s = some e.val then (mapOf s e).products.filter fun i => i < b.spareFrom else (mapOf s e).products
  -- points that spare mapping sent to it
  let sent := match spared s with
    | some x => if x = e.val then [] else sparePoints s x e
    | none => []
  if (s.eng e).doneFor = some b.header.number then [] else own ++ sent

/-- Points of bell `b` invalid under R167 or R168. -/
def lostPoints (s : State) (b : BellRec) : List Nat :=
  (allEngines.filter fun (e : Fin 32) => !inService s e).flatMap (lostOf s b)

/-- Point `i` of bell `b` is released invalid, as far as the 8320 sees it: by its block in OVERRUN_MAP, under R167 or R168, below the
gauge (R18), or by its history word where the timetable has a granary. -/
def pointInvalid (s : State) (b : BellRec) (lost : List Nat) (addr : Option Nat) (i : Nat) : Bool :=
  let h := b.header
  h.overrunMap.getLsbD (i / clipBlock h.mode) || decide (i < h.gauge) || lost.contains i ||
    match addr with
    | some a => leNat (readBarn s (a + 2 * i) 2) == 0x8000
    | none => false

/-- INVALID_POINTS of a processed bell (R234). -/
def invalidPoints (s : State) (b : BellRec) (lost : List Nat) : Nat :=
  let addr := granaryAddr s s.array.slot b.header.number
  (List.range b.header.points).countP (pointInvalid s b lost addr)

/-! ### The deadline (R228) -/

/-- The segments that engine `e` runs in its lesson: with the appendix in appendix mode. -/
def lessonSegs (s : State) (e : Fin 32) : List Seg :=
  if (s.eng e).appendix then engSegs s e else (engSegs s e).filter fun g => !g.appendix

/-- The points of a segment (R206): of the product list, or of the appendix slots. -/
def segPoints (s : State) (b : BellRec) (e : Fin 32) (g : Seg) : List Nat :=
  if g.appendix then ((appendixSlots s b e).drop g.pointFirst).take g.pointCount |>.filterMap id
  else ((mapOf s e).products.drop g.pointFirst).take g.pointCount

/-- The blocks of R111 that hold any of the points. -/
def blocksOf (mode : Nat) (pts : List Nat) : BitVec 256 :=
  pts.foldl (fun m i => m ||| (1#256 <<< (i / clipBlock mode))) 0

/-- Engine `e` has ended its lesson of this bell. -/
def lessonEnded (s : State) (e : Fin 32) : Bool :=
  s.nat (K.engineState e) == 2 || (s.nat (K.engineState e) == 3 && (s.eng e).resumeTo == 2)

/-- An engine that has not issued END stops at the deadline of the lesson on bell `b` (R228). -/
def overrun (b : BellRec) (e : Fin 32) (s : State) : State :=
  let x := s.eng e
  let open_ := ((lessonSegs s e).zipIdx).filter fun g => !x.ended.getLsbD g.2
  let stale := BitVec.ofNat 64 (bitsOf (fun i => open_.any fun g => g.2 == i) 64)
  let blocks := blocksOf b.header.mode (open_.flatMap fun g => segPoints s b e g.1)
  let n := s.array.deadline - x.lessonStart
  let ran := engRunning s e
  let s := (discardWrites e s).onEng e fun x => { x with
    flight := [], branch := none, reps := [], delayUntil := none, dets := [], cause := [], replayAt := none, noStore := false,
    injecting := 0, resumeTo := 0, stale }
  let s := if ran then
      let s := if s.nat (K.peakCycles e) < n then s.setNum (K.peakCycles e) n else s
      s.setNum (K.engineState e) 0
    else s
  let s := s.onProcessing fun p => p.onHeader fun h => { h with overrunMap := h.overrunMap ||| blocks }
  let s := s.inc K.overrunCount
  raise 26 (record 1 (0x3000 + e) 0x0403 (leBytes 8 b.header.number ++ leBytes 8 stale.toNat) s)

/-- The lesson deadline of engine `e`. -/
def deadlineOf (b : BellRec) (s : State) (e : Fin 32) : State :=
  if !hasLesson s e || !inService s e then s
  else if lessonEnded s e then s.onEng e fun x => { x with stale := 0 }
  else overrun b e s

/-- The header of the processed bell is complete but for its release (R234, R235). -/
def closeProcessed (s : State) : State :=
  match s.bell.processing with
  | some b =>
    let lost := lostPoints s b
    let n := invalidPoints s b lost
    let s := if lost.isEmpty then s else countPoisoned lost.length s
    s.onProcessing fun p => ((p.flagIf (p.header.overrunMap != 0) .overrun).flagIf (!lost.isEmpty) .engineLoss).onHeader
      fun h => { h with invalidPoints := n }
  | none => s

/-- The lesson deadline and the end overhead of the bell in progress (R208, R228). -/
def passDeadline (s : State) : State :=
  let s := if s.bell.acquiring.any BellRec.lessonStarted && lessonsRun s then
      match s.bell.processing with
      | some p => closeProcessed (allEngines.foldl (deadlineOf p) s)
      | none => s
    else s
  let s := match s.bell.acquiring with
    | some a => if a.suppressed then s else prepareLessons a s
    | none => s
  s.onAcquiring fun b => { b with deadlineDone := true }

/-- At a bell start an engine whose lesson is complete stands idle until its next lesson starts (R155). -/
def idleEngines (s : State) : State :=
  allEngines.foldl (fun (s : State) (e : Fin 32) =>
    if s.nat (K.engineState e) = 2 then s.setNum (K.engineState e) 0 else s) s

end Sys2Proof.Machine
end

