-- ==== Sys2Proof/Machine/BbOps.lean ====
section
/-!
DEFINITION. Machine/BbOps.lean: the black box as it reads (R462 to R469, R483), its slots (R464, R465), report cards (R477) and log
entries (R480).
-/

namespace Sys2Proof.Machine

/-! ### Records -/

/-- The 64 bytes of a record, Table 19-1 (R462). -/
def Record.bytes (r : Record) : List Byte :=
  let body := leBytes 4 r.seq ++ leBytes 8 r.time ++ leBytes 6 r.bell ++ leBytes 1 r.cls
    ++ leBytes 1 (b2n r.coalesced + 2 * b2n r.inHold + 4 * b2n r.unlocked + 16 * r.wraps)
    ++ leBytes 2 r.source ++ leBytes 2 r.code ++ slice 0 28 r.data ++ leBytes 4 r.startCount ++ zeros 4
  body ++ leBytes 4 (crc32 body)

/-- Slot `i` of the black box. -/
def bbSlot (s : State) (i : Nat) : Option Record := sparseGet (fun _ => none) s.bb.slots i

/-- Put a record into a slot. -/
def setBbSlot (i : Nat) (r : Record) (s : State) : State :=
  { s with bb := { s.bb with slots := sparseSet (fun _ => none) s.bb.slots i (some r),
                             torn := sparseSet (fun _ => []) s.bb.torn i [] } }

/-- 64 bytes hold no record (R464): their SEQ is 0xFFFF_FFFF, or the CRC is bad. -/
def freeBytes64 (b : List Byte) : Bool := slice 0 4 b == List.replicate 4 0xFF || slice 60 4 b != leBytes 4 (crc32 (slice 0 60 b))

/-- A slot is left free (R467) and holds `b`; a content that would be a record is freed by its SEQ. -/
def freeBbSlot (i : Nat) (b : List Byte) (s : State) : State :=
  let b := if freeBytes64 b then slice 0 64 b else List.replicate 4 0xFF ++ slice 4 60 b
  { s with bb := { s.bb with slots := sparseSet (fun _ => none) s.bb.slots i none,
                             torn := sparseSet (fun _ => []) s.bb.torn i (if b == List.replicate 64 0xFF then [] else b) } }

/-- A slot as a read returns it: it stands as it is (R469). -/
def slotBytes (s : State) (i : Nat) : List Byte :=
  match bbSlot s i with
  | some r => r.bytes
  | none =>
    let b := sparseGet (fun _ => []) s.bb.torn i
    if b.isEmpty then List.replicate 64 0xFF else b

/-- 64 slots from slot `n` up. -/
def pageBytes (s : State) (n : Nat) : List Byte := (List.range 64).flatMap fun i => slotBytes s (n + i)

/-- Order of records: START_COUNT, WRAPS, SEQ (R463). -/
def Record.rank (r : Record) : Nat := (r.startCount * 16 + r.wraps) * 2 ^ 32 + r.seq

/-- The newest record of the circular region and its slot (R465). -/
def newestCircular (s : State) : Option (Nat × Record) :=
  s.bb.slots.foldl (fun (t : Option (Nat × Record)) (e : Nat × Option Record) =>
    match e.2 with
    | some r =>
      if e.1 < 1024 then t
      else match t with
        | some (_, q) => if q.rank < r.rank then some (e.1, r) else t
        | none => some (e.1, r)
    | none => t) none

/-- CIRCULAR_NEXT: the slot after the newest circular record (R465, R468). -/
def circularNext (s : State) : Nat :=
  match newestCircular s with
  | some (i, _) => if i = 16383 then 1024 else i + 1
  | none => 1024

/-- Records held in the slots from `lo` to below `hi`. -/
def heldSlots (s : State) (lo hi : Nat) : Nat :=
  s.bb.slots.countP fun e => decide (lo ≤ e.1 ∧ e.1 < hi) && e.2.isSome

/-- The lowest free sealed slot. -/
def freeSealed (s : State) : Option Nat := (List.range 1024).find? fun i => (bbSlot s i).isNone

/-- A record with the same key is sealed (R465). -/
def keySealed (s : State) (r : Record) : Bool :=
  s.bb.slots.any fun e => decide (e.1 < 1024) && match e.2 with
    | some q => q.cls == r.cls && q.source == r.source && q.code == r.code
    | none => false

/-- The slot that a record is written into (R465). -/
def slotFor (s : State) (r : Record) : Nat :=
  match freeSealed s with
  | some i => if r.coalesced || keySealed s r then circularNext s else i
  | none => circularNext s

/-- The coalesced record of class `c` (R472). -/
def coalesced (c : Nat) (d : DropState) (s : State) : Record :=
  newRecord c 0x6800 0x6801 true (leBytes 2 d.count ++ zeros 2 ++ leBytes 4 d.lowest ++ leBytes 4 d.highest) s

/-- Coalesced records enter the free places of the queue, in class order (R472). -/
def coalesce (s : State) : State :=
  ([0, 1, 2, 3, 4, 5] : List (Fin 6)).foldl (fun (s : State) (c : Fin 6) =>
    let d := s.bb.drops[c]
    if s.power.hold || d.count = 0 || 128 ≤ s.bb.queue.length then s
    else
      let r := coalesced c d s
      let s := advanceSeq s
      { s with bb := { s.bb with queue := s.bb.queue ++ [r], drops := vmod s.bb.drops c fun _ => {} } }) s

/-- Write the oldest queued record into its slot; `flush` marks a Hold flush (R467, R470, R474). -/
def sealOldest (flush : Bool) (s : State) : State :=
  match s.bb.queue with
  | r :: q =>
    let r := { r with inHold := r.inHold || flush }
    let s := setBbSlot (slotFor s r) r s
    coalesce { s with bb := { s.bb with queue := q, lastSealed := some r } }
  | [] => s

/-- Write every queued record, the coalesced ones that then enter among them (R472, R474, R495). -/
def sealAll (flush : Bool) (s : State) : State :=
  (List.range (s.bb.queue.length + 6)).foldl (fun (s : State) (_ : Nat) => sealOldest flush s) s

/-- The slots that `n` writes of the queue go into, in order. -/
def sealSlots : Nat → State → List Nat
  | 0, _ => []
  | n + 1, s =>
    match s.bb.queue with
    | r :: _ => slotFor s r :: sealSlots n (sealOldest false s)
    | [] => []

/-- Power is lost in a phase of a record's write (R467): in phases 1 and 2 the SEQ reads 0xFFFF_FFFF and the rest is partly written; in phase 3
the SEQ bytes are not the record's. -/
def tearSlot (s : State) : State :=
  match s.bb.queue with
  | r :: _ =>
    let i := slotFor s r
    if s.free 2 = 0 then freeBbSlot i (List.replicate 4 0xFF ++ leBytes 60 (s.draw.free (256 ^ 60))) s.draw.draw
    else freeBbSlot i (leBytes 4 (r.seq + 1 + s.draw.free (2 ^ 32 - 1)) ++ r.bytes.drop 4) s.draw.draw
  | [] => s

/-- The flush of a Hold (R457, R474). From a VHOLD that is too weak only some of the records are written, and the write in progress is torn
(R467); how many, the manual leaves open. -/
def flushQueue (s : State) : State :=
  if s.start.ran && s.nat K.vholdOk = 0 then
    let n := s.free (s.bb.queue.length + 1)
    tearSlot ((List.range n).foldl (fun (s : State) (_ : Nat) => sealOldest true s) s.draw)
  else sealAll true s

/-! ### Cards and logs -/

/-- The 128 bytes of a report card, Table 19-5 (R477). -/
def Card.bytes (c : Card) : List Byte :=
  let body := [0x43, 0x57, 0x52, 0x43] ++ leBytes 4 c.startCount ++ leBytes 8 c.time ++ leBytes 1 c.result ++ leBytes 1 c.partRun
    ++ leBytes 1 c.partPass ++ zeros 1 ++ (List.range 8).flatMap (fun p => leBytes 4 (c.signatures.getD p 0))
    ++ leBytes 2 c.vcoreMin ++ leBytes 2 c.vcoreMax ++ leBytes 4 c.dieTemp ++ leBytes 4 c.duration ++ leBytes 2 c.repairs
    ++ leBytes 2 c.unrepaired ++ zeros 56
  body ++ leBytes 4 (crc32 body)

/-- The slot of the newest valid card (R477). -/
def newestCardSlot (s : State) : Option (Fin 2) :=
  match s.bb.cards[0], s.bb.cards[1] with
  | some a, some b => some (if a.startCount < b.startCount then 1 else 0)
  | some _, none => some 0
  | none, some _ => some 1
  | none, none => none

/-- The newest valid card. -/
def newestCard (s : State) : Option Card := (newestCardSlot s).bind fun i => s.bb.cards[i]

/-- CARD_STATE (R484). A pass permits a quick start where the card is of the shut-down directly before this start, the only start it can
have made quick (R478; DEDUCED, log entry 96). -/
def cardStateOf (s : State) : Nat :=
  match newestCard s with
  | none => 0
  | some c => if c.result = 0 then (if (c.startCount + 1) % 2 ^ 32 = s.nat K.startCount then 1 else 2) else if c.result = 1 then 3 else 4

/-- The slot that a new card goes into (R477). -/
def cardSlot (s : State) : Fin 2 :=
  match newestCardSlot s with
  | some 0 => 1
  | _ => 0

/-- A new card is written in the manner of R467 (R477): read back, or its slot is left without a valid card. -/
def putCard (c : Card) (holds : Bool) (s : State) : State :=
  { s with bb := { s.bb with cards := s.bb.cards.set (cardSlot s) (if holds then some c else none) } }

/-- The 16 bytes of a log entry (R480). -/
def CellLog.bytes (c : CellLog) : List Byte :=
  leBytes 1 c.kind ++ leBytes 1 c.unit ++ leBytes 1 c.bank ++ leBytes 1 c.outcome ++ leBytes 4 c.word ++ leBytes 1 c.bit ++ zeros 7

/-- BB_STATE (R483). -/
def bbState (s : State) : Nat :=
  if s.power.hold then 3 else if s.nat K.supplyState = 1 then 2 else b2n s.start.ran

/-- DROP_STATE (R483). -/
def dropStateBytes (s : State) : List Byte :=
  s.bb.drops.toList.flatMap fun d => leBytes 2 d.count ++ zeros 2 ++ leBytes 4 d.lowest ++ leBytes 4 d.highest

end Sys2Proof.Machine
end

