-- ==== Sys2Proof/Machine/ProfileOps.lean ====
section
/-!
DEFINITION. Machine/ProfileOps.lean: the Raman averager (R132 to R136), update periods and the temperature profile (R262 to
R268).
-/

namespace Sys2Proof.Machine

/-- Change the Raman averager. -/
def State.onRaman (s : State) (f : Raman → Raman) : State := { s with raman := f s.raman }

/-! ### Blocks -/

/-- DTS points of a bell with header `h` (R12). -/
def dtsOf (h : Header) : Nat := dtsPoints h.mode h.points

/-- The block that fills ends at this boundary (R135). Its BLOCK_SEQ is the count of blocks before it, so the first block since reset has 0:
the manual does not say where the count begins (DESIGN CHOICE, log entry 74). -/
def closeBlock (short : Bool) (s : State) : State :=
  match s.raman.filling with
  | some b =>
    let b := { b with short, seq := s.nat K.blockSeq }
    (s.onRaman fun r => { r with filling := none, bank := !r.bank, complete := r.complete ++ [(b, s.clk.devTime)] }).incWrap 32
      K.blockSeq
  | none => s

/-- At a bell boundary: the block has seen AVG_BELLS bells and lasted 1.000 ms (R135). -/
def blockFull (s : State) : Bool :=
  match s.raman.filling with
  | some b => decide (b.avgBells ≤ b.seen ∧ b.startAt + 1000000 ≤ s.clk.now)
  | none => false

/-- RAMAN_LINE names a line that keeps the bell from being added (R134). -/
def ramanLineBars (s : State) : Bool :=
  let l := s.nat K.ramanLine
  match s.drive.lines.toList[l]? with
  | some x => s.nat (K.mode l) == 0 || x.removed || !s.drive.applied || x.openF || x.shortF || x.overF
  | none => false

/-- The averager at the start of the bell with header `h` (R134, R135). -/
def ramanBellStart (h : Header) (suppressed : Bool) (s : State) : State :=
  let seen := s.nat K.ramanEnable == 1 && !suppressed
  let added := seen && !ramanLineBars s
  let s := s.onRaman fun r => { r with bellSeen := seen, bellAdded := added }
  if seen then
    s.onRaman fun r =>
      let b := r.filling.getD { firstBell := h.number, firstTime := h.time, startAt := s.clk.now, points := dtsOf h,
                                delay := s.nat K.ramanDelay, avgBells := s.nat K.avgBells, gapSum := r.gapSum, gapCount := r.gapCount }
      { r with filling := some { b with seen := b.seen + 1, added := b.added + b2n added },
               gapSum := Vector.replicate 4 0, gapCount := Vector.replicate 4 0 }
  else s

/-- Codes of one channel from place `k` on, `n` of them. -/
def ramanCodes (ch : RamanSample → BitVec 14) (xs : List RamanSample) (k n : Nat) : List Nat :=
  ((xs.drop k).take n).map fun x => (ch x).toNat

/-- D_c[j] for the codes from k0 on (R132): `q` = r / 2. -/
def interpolate (q : Nat) : List Nat → List Nat
  | a :: b :: rest => ((4 - q) * a + q * b) :: interpolate q (b :: rest)
  | _ => []

/-- Add two lists of sums place by place; the longer one's rest stands. -/
def addSums : List Nat → List Nat → List Nat
  | a :: as', b :: bs => (a + b) :: addSums as' bs
  | [], bs => bs
  | as', [] => as'

/-- Clipped Raman codes. -/
def ramanClips (l : List Nat) : Nat := l.countP fun x => x == 0 || x == 16383

/-- The DTS trace of the bell being acquired joins the block (R132, R133): place m of the list is at
2 × phase + 8 × (m − 65) ns from the bell start. Of the samples of an added bell the clip counts count those that R132 uses, the 64 dark
ones and the N_T + 1 of the trace: R133 does not say which Raman samples it means (DESIGN CHOICE, log entry 75). -/
def ramanTrace (xs : List RamanSample) (phase : Nat) (h : Header) (s : State) : State :=
  if !s.raman.bellAdded then s
  else
    let d := s.nat K.ramanDelay
    let k0 := (65 * 8 + d - 2 * phase) / 8
    let q := (65 * 8 + d - 2 * phase) % 8 / 2
    let n := dtsOf h
    let one (ch : RamanSample → BitVec 14) : List Nat × Nat × Nat :=
      let dark := ramanCodes ch xs (k0 - 64) 64
      let body := ramanCodes ch xs k0 (n + 1)
      (interpolate q body, dark.foldl (· + ·) 0, ramanClips (dark ++ body))
    let (da, ka, ca) := one RamanSample.aS
    let (ds, ks, cs) := one RamanSample.s
    let s := s.onRaman fun r => { r with filling := r.filling.map fun b =>
      { b with sumsAs := addSums b.sumsAs da, sumsS := addSums b.sumsS ds, darkAs := b.darkAs + ka, darkS := b.darkS + ks,
               clipAs := b.clipAs + ca, clipS := b.clipS + cs, clipped := b.clipped || decide (0 < ca + cs) } }
    (s.addSat 32 K.ramanClipAs ca).addSat 32 K.ramanClipS cs

/-- An added bell is over: the block keeps whether one carried "holdover", which a bell can take to its end (R37, R136). -/
def ramanHoldover (h : Header) (s : State) : State :=
  if s.raman.bellAdded && h.has .holdover then
    s.onRaman fun r => { r with filling := r.filling.map fun b => { b with holdover := true } }
  else s

/-- An added bell's DARK_FROM reaches the block: its first dark DTS point (R273). -/
def ramanDark (h : Header) (s : State) : State :=
  if s.raman.bellAdded && decide (h.darkFrom < h.points) then
    let j := (h.darkFrom * tsOf h.mode + 7) / 8
    s.onRaman fun r => { r with filling := r.filling.map fun b =>
      { b with darkFrom := some (match b.darkFrom with
          | some k => min k j
          | none => j) } }
  else s

/-- The record of a block, Table 5-7 (R136). -/
def blockBytes (b : RamanBlock) : List Byte :=
  leBytes 8 b.firstBell ++ leBytes 8 b.firstTime ++ leBytes 4 b.seen ++ leBytes 4 b.added ++ leBytes 4 b.points
    ++ leBytes 2 b.delay ++ leBytes 2 (b2n b.short + 2 * b2n b.clipped + 4 * b2n b.holdover + 8 * b2n (b.added < b.seen))
    ++ leBytes 8 b.darkAs ++ leBytes 8 b.darkS ++ leBytes 4 b.clipAs ++ leBytes 4 b.clipS ++ leBytes 4 b.seq ++ zeros 4
    ++ (List.range b.points).flatMap (fun j => leBytes 8 (b.sumsAs.getD j 0))
    ++ (List.range b.points).flatMap (fun j => leBytes 8 (b.sumsS.getD j 0))

/-! ### Update periods -/

/-- A block joins the period (R262, R263, R265); the sensor readings taken between it and the block before belong to a period that was
open then. -/
def joinBlock (b : RamanBlock) (endTime : Nat) (p : Option Period) : Period :=
  let p : Period := match p with
    | some p => { p with sensorSum := Vector.ofFn fun i => p.sensorSum[i] + b.gapSum[i],
                         sensorCount := Vector.ofFn fun i => p.sensorCount[i] + b.gapCount[i] }
    | none => { firstBell := b.firstBell, firstTime := b.firstTime, points := b.points }
  { p with endTime, blocks := p.blocks + 1, seen := p.seen + b.seen, added := p.added + b.added,
           sumsAs := addSums p.sumsAs b.sumsAs, sumsS := addSums p.sumsS b.sumsS, darkAs := p.darkAs + b.darkAs,
           darkS := p.darkS + b.darkS, short := p.short || b.short, clipped := p.clipped || b.clipped,
           holdover := p.holdover || b.holdover, partial_ := p.partial_ || decide (b.added < b.seen),
           darkFrom := match p.darkFrom, b.darkFrom with
             | some x, some y => some (min x y)
             | some x, none => some x
             | none, y => y,
           sensorSum := Vector.ofFn fun i => p.sensorSum[i] + b.sensorSum[i],
           sensorCount := Vector.ofFn fun i => p.sensorCount[i] + b.sensorCount[i] }

/-- The period ends with this block (R262). -/
def periodEnds (s : State) (p : Period) (b : RamanBlock) : Bool :=
  b.short || decide (p.firstTime + s.nat K.updatePeriod * 1000000000 ≤ p.endTime)

/-- L[j] of R263, none where point j is invalid. R263 states no rounding: the model holds L[j] to 10^-12, the nearest (DESIGN CHOICE, log
entry 41). -/
def logRatio (p : Period) (j : Nat) : Option Rat :=
  let a : Int := 16 * (p.sumsAs.getD j 0 : Nat) - (p.darkAs : Nat)
  let b : Int := 16 * (p.sumsS.getD j 0 : Nat) - (p.darkS : Nat)
  if p.added = 0 || a ≤ 0 || b ≤ 0 then none
  else some ((lnRatio a.toNat b.toNat : Rat) / 1000000000000)

/-- Point `j` of a period is dark (R273). -/
def Period.dark (p : Period) (j : Nat) : Bool :=
  match p.darkFrom with
  | some k => decide (k ≤ j)
  | none => false

/-- z_j in km (R264). -/
def zOf (j : Nat) : Rat := (j * 81676 : Nat) / 100000000

/-- The mean of some rationals, none of an empty list. -/
def meanOf (l : List Rat) : Option Rat := if l.isEmpty then none else some (l.foldl (· + ·) 0 / l.length)

/-- T_c, L̄_c and z̄_c of a coil (R265), none where R267 bars it. -/
def coilOf (p : Period) (first count sensor : Key) : Option (Rat × Rat × Rat) :=
  let js := (List.range (natIn p.cal count)).map (natIn p.cal first + ·)
  let c := natIn p.cal sensor
  let n := p.sensorCount.toList.getD c 0
  let ls := js.filterMap fun j => if p.dark j then none else logRatio p j
  if n = 0 || ls.length ≠ js.length then none
  else match meanOf ls, meanOf (js.map zOf) with
    | some l, some z => some ((p.sensorSum.toList.getD c 0 : Rat) / n / 1000, l, z)
    | _, _ => none

/-- The values that Table 10-1 solves: C, γ (K) and Δα (per km), none where the calibration is held (R266, R267). -/
def solveCal (p : Period) : Option (Rat × Rat × Rat) :=
  let g : Rat := (natIn p.cal K.gamma : Rat) / 1000
  let da : Rat := (numIn p.cal K.diffAtten : Rat) / 1000000
  match coilOf p K.coil1First K.coil1Count K.coil1Sensor with
  | none => none
  | some (t1, l1, z1) =>
    if natIn p.cal K.calMode = 2 then some (g / t1 + l1 + da * z1, g, da)
    else match coilOf p K.coil2First K.coil2Count K.coil2Sensor with
      | none => none
      | some (t2, l2, z2) =>
        if natIn p.cal K.calMode = 0 then
          if decide (z1 - z2 < 1) && decide (z2 - z1 < 1) then none
          else
            let a := (l2 - l1 - g * (1 / t1 - 1 / t2)) / (z1 - z2)
            if decide (a < -1 / 2) || decide (1 / 2 < a) then none else some (g / t1 + l1 + a * z1, g, a)
        else
          if decide (t1 - t2 < 10) && decide (t2 - t1 < 10) then none
          else
            let x := (l2 - l1 + da * (z2 - z1)) / (1 / t1 - 1 / t2)
            if decide (x < 500) || decide (800 < x) then none else some (x / t1 + l1 + da * z1, x, da)

/-- A rational rounded to the nearest integer, halves away from zero. -/
def roundRat (x : Rat) : Int := roundDiv x.num x.den

/-- The temperature word of point `j` (R263, R264, R273). -/
def profileWord (p : Period) (cal : Option (Rat × Rat × Rat)) (j : Nat) : Nat :=
  if p.dark j then 0xFFFE
  else match cal, logRatio p j with
    | some (c, g, a), some l =>
      let d := c - l - a * zOf j
      if d ≤ 0 then 0xFFFF
      else
        let t := roundRat (g / d * 100)
        if t < 0 || 65532 < t then 0xFFFF else t.toNat
    | _, _ => 0xFFFF

/-- Mean temperature of a coil's channel in mK, 0 if it has no valid reading (Table 10-2). -/
def coilMk (p : Period) (sensor : Key) : Nat :=
  let c := natIn p.cal sensor
  let n := p.sensorCount.toList.getD c 0
  if n = 0 then 0 else (roundDiv (p.sensorSum.toList.getD c 0 : Nat) n).toNat

/-- The profile of an ended period is computed and stored (R263 to R268). -/
def storeProfile (p : Period) (s : State) : State :=
  let fresh := solveCal p
  let cal := match fresh with
    | some x => some x
    | none => s.profiler.solved
  let s := { s with profiler := { s.profiler with solved := cal } }
  let s := s.setNum K.dtsCalState (if fresh.isSome then 1 else 2)
  let s := match cal with
    | some (c, g, a) =>
      ((s.setNum K.calOffset (roundRat (c * 1000000))).setNum K.calGamma (roundRat (g * 1000))).setNum K.calDiffAtten
        (roundRat (a * 1000000))
    | none => s
  let words := (List.range p.points).map (profileWord p cal)
  let flags := b2n p.short + 2 * b2n p.clipped + 4 * b2n p.holdover + 8 * b2n fresh.isNone + 16 * b2n p.partial_
    + 32 * b2n (words.contains 0xFFFE) + 64 * b2n (words.contains 0xFFFF)
  -- BLOCKS has 16 bits: a larger count is a value that the manual does not state
  let blocks := if p.blocks < 65536 then p.blocks else s.free 65536
  let s := if p.blocks < 65536 then s else s.draw
  let q := s.profiler.nextSeq
  let hdr := leBytes 4 q ++ leBytes 4 p.points ++ leBytes 8 p.firstBell ++ leBytes 8 p.firstTime ++ leBytes 8 p.endTime
    ++ leBytes 4 p.added ++ leBytes 2 blocks ++ leBytes 2 flags ++ leBytes 4 (ofSigned 32 (s.num K.calOffset))
    ++ leBytes 4 (s.nat K.calGamma) ++ leBytes 4 (ofSigned 32 (s.num K.calDiffAtten)) ++ leBytes 4 (coilMk p K.coil1Sensor)
    ++ leBytes 4 (coilMk p K.coil2Sensor) ++ leBytes 4 ((p.darkFrom.map (min · p.points)).getD p.points)
  let rec_ := hdr ++ words.flatMap (leBytes 2)
  let s := ((writeBarn (profilePlace s) rec_ s).setBlock K.lastProfile rec_).setNum K.profileSeq q
  raise 23 { s with profiler := { s.profiler with nextSeq := (q + 1) % 2 ^ 32 } }

/-- Store the period that has ended, if one waits (R268). -/
def storeEnded (s : State) : State :=
  match s.profiler.ended with
  | some p => storeProfile p { s with profiler := { s.profiler with ended := none } }
  | none => s

/-- The entries 2900.11 to 2900.19 that a period's calibration uses. -/
def calKeys : List Key := (List.range 9).map (K.calMode + ·)

/-- The period boundary (R262, R267): the profile of the period before is stored, a change of calibration entries made since discards the
solved values, and the ended period keeps the entries as they stand now. -/
def endPeriod (p : Period) (s : State) : State :=
  let s := storeEnded s
  let x := s.profiler
  let cal := calKeys.foldl (fun m k => sparseSet defaultVal m k (valIn s.dict.store k)) []
  { s with profiler := { x with
    solved := if x.discard then none else x.solved, discard := false, period := none, ended := some { p with cal } } }

/-- The oldest completed block has been copied to the barn (R135, R262). Every block of a period has the same POINTS: one of another size
ends the period before it, where a full block met the change (DEDUCED, log entry 92). -/
def blockCopied (s : State) : State :=
  match s.raman.complete with
  | (b, t) :: rest =>
    let s := s.onRaman fun r => { r with complete := rest, last := some b }
    let s := writeBarn (blockPlace s) (blockBytes b) s
    let s := raise 22 (s.setBlock K.lastBlock (blockBytes b))
    let s := match s.profiler.period with
      | some q => if q.points = b.points then s else endPeriod q s
      | none => s
    let p := joinBlock b t s.profiler.period
    if periodEnds s p b then endPeriod p s
    else { s with profiler := { s.profiler with period := some p } }
  | [] => s

/-- AVG_STATE (R140). -/
def avgState (s : State) : Nat := b2n s.raman.filling.isSome

/-- PROFILE_STATE (R276). Table 10-5 only names its values: the model answers 2 once a profile exists, whatever goes on, and else 1 while
RAMAN_ENABLE is 1 (DESIGN CHOICE, log entry 109). -/
def profileState (s : State) : Nat :=
  if !(s.block K.lastProfile).isEmpty then 2 else b2n (s.nat K.ramanEnable == 1)

end Sys2Proof.Machine
end

