-- ==== Sys2Proof/Machine/CommitOps.lean ====
section
/-!
DEFINITION. Machine/CommitOps.lean: what happens as bell-committed values take effect, at a bell start or with bells stopped (R57,
R348): pattern and geometry changes (R24, R73 to R79), coefficient fades (R121, R122), averager and calibration changes
(R135, R267), trace-end changes (R275), bell switches (R224), and the other settings of their rows.
-/

namespace Sys2Proof.Machine

/-- Put values into effect. -/
def putValues (vs : List (Key × DVal)) (s : State) : State :=
  vs.foldl (fun (s : State) (e : Key × DVal) => s.setVal e.1 e.2) s

/-- CSN_IN_EFFECT: the highest CSN in effect (R57). -/
def csnInEffect (c : Nat) (s : State) : State := s.setNum K.csnInEffect (max c (s.nat K.csnInEffect) : Nat)

/-- One accepted write takes effect. -/
def applyWrite (w : ShadowWrite) (s : State) : State := csnInEffect w.csn (putValues w.values s)

/-- LEVEL_CAUSE bit `i` set or cleared. -/
def setCause (i : Nat) (v : Bool) (s : State) : State :=
  s.setNum K.levelCause (bitsOf (fun j => if j = i then v else bitOf (s.nat K.levelCause) j) 8 : Nat)

/-- COEF_SET of tag `t` is among the writes `due`. -/
def setWritten (due : List ShadowWrite) (t : Nat) : Bool := due.any fun w => w.values.any fun e => e.1 == K.coefSet t

/-- The fade of a tag one bell on: none once its F bells are over (R121). -/
def CoefFade.next (f : CoefFade) : Option CoefFade := if f.bell + 1 < f.length then some { f with bell := f.bell + 1 } else none

/-- Coefficient sets as a bell starts (R78, R121, R122): `due` are the writes that take effect, `old` and `now` the stores before and
after, `running` says that bells ran before, `patterned` and `geo` that a pattern or geometry change takes effect (R123). Fades count
bells, so one in progress as bells stop goes on with the bells after the next start, of which R121 says nothing (DESIGN CHOICE, log
entry 73). -/
def coefBell (due : List ShadowWrite) (old now : Sparse DVal) (running patterned geo : Bool) (s : State) : State :=
  let mode := natIn now K.spatialMode
  let named (t : Nat) : Bool := (sequence now).contains t
  let fades := Vector.ofFn fun (t : Fin 16) =>
    let cur := s.chain.fades[t]
    let kept := if geo || (patterned && named t) then none else cur.bind CoefFade.next
    if setWritten due t then
      let use := setInUse cur old (natIn old K.spatialMode) t
      let new := setOrImpulse mode (bytesIn now (K.coefSet t))
      if running && !geo && !patterned && named t && use != new then
        some { old := use, new, bell := 0, length := natIn now K.crossfadeBells : CoefFade }
      else none
    else kept
  { s with chain := { s.chain with fades } }

/-- Both DACs hold the code given by the offsets alone (R66). -/
def holdIdle (s : State) : State :=
  { s with exc := { s.exc with idleI := sat12 (s.num K.offsetI), idleQ := sat12 (s.num K.offsetQ) } }

/-- Coefficient sets written while bells are stopped apply in full at once (R121). R78 and R123 end a fade by a pattern or geometry change
at a bell m; of one that takes effect with bells stopped they say nothing, and the model lets a fade left over from the bells before go on
(DESIGN CHOICE, log entry 100). -/
def coefStopped (due : List ShadowWrite) (s : State) : State :=
  { s with chain := { s.chain with
    fades := Vector.ofFn fun (t : Fin 16) => if setWritten due t then none else s.chain.fades[t] } }

/-- What the values now in effect change beside themselves: `old` is the store before, `m` the bell whose start this is, none with
bells stopped. -/
def afterCommit (old : Sparse DVal) (m : Option Nat) (s : State) : State :=
  let now := s.dict.store
  let changes (k : Key) : Bool := decide (valIn old k ≠ valIn now k)
  let n := m.getD (s.nat K.bellNumberNext)
  let geo := geometry old != geometry now
  let pat := patternChanged old now
  -- geometry (R24, R241, R246, R275)
  let s := if geo then
      let s := restartGranary n s
      breakGeometry (natIn now K.spatialMode) (natIn now K.phasePoints) n (clearDetectors n s)
    else s
  -- a set never written is the unit impulse of the mode in effect (R120): its content changes with the mode (R346)
  let s := if changes K.spatialMode then (List.range 16).foldl (fun (s : State) (t : Nat) =>
      if (bytesIn now (K.coefSet t)).isEmpty then s.bumpGeneration (K.coefSet t) else s) s else s
  -- averager (R135)
  let nt (x : Sparse DVal) : Nat := dtsPoints (natIn x K.spatialMode) (natIn x K.phasePoints)
  let s := if nt old != nt now || changes K.ramanDelay || changes K.ramanEnable then closeBlock true s else s
  -- calibration entries (R267)
  let s := if (List.range 9).any fun i => changes (K.calMode + i) then
      { s with profiler := { s.profiler with discard := true } } else s
  -- trace end (R275)
  let s := if changes K.traceEndEnable && natIn now K.traceEndEnable == 0 then
      let s := endRunInward s
      if s.fibre.darkPoint.isSome then clearBreak n 0 s else s
    else s
  -- sequence and fades (R70, R73 to R77)
  let s := if seqChanged old now then { s with exc := { s.exc with restart := true } } else s
  let f := natIn now K.crossfadeBells
  let s := match m with
    | some b =>
      if geo then reseed b f false s
      else if pat then
        -- inside an unblended settling that still has no releasable basis the change is not blended either (R77)
        reseed b f (!(s.tt.switching.isSome)) s
      else s
    | none => s
  let s := if geo || pat then restartPower s else s
  -- converter offsets (R109)
  let s := if natIn now K.offsetTrack = 0 then
      (List.range 4).foldl (fun (s : State) (c : Nat) => s.setNum (K.offsetEst c) (numIn now (K.offsetManual c))) 
        { s with chain := { s.chain with offsetNext := Vector.replicate 4 none } }
    else s
  -- activation of the other slot, or another forced variant (R224)
  let oldSlot := natIn old K.ttActiveSlot
  let slot := natIn now K.ttActiveSlot
  let force := natIn now K.variantForce
  if (slot != oldSlot || (!timetableActive s && changes K.ttActiveSlot)) && !(s.image slot).isEmpty then
    let waits := match s.tt.decided with
      | some d => d.kind.filter (hasKind (s.image slot))
      | none => none
    let kind := if force ≠ 255 then force else waits.getD (activationKind s now)
    let s := if force = 255 && waits.isNone then setCause 5 (activationChoice s now).isNone s else s
    let s := { s with tt := { s.tt with decided := none } }
    takeSwitch oldSlot slot kind m s
  else if changes K.variantForce && force ≠ 255 && timetableActive s && force ≠ s.nat K.variantInEffect then
    if s.tt.switching.isSome then askSwitch none (some force) s.clk.now s
    else takeSwitch slot slot force m s
  else if changes K.variantForce && force ≠ 255 then
    -- it leaves the variant in effect unchanged, and as the latest decision it takes the place of one that waits (R224)
    { s with tt := { s.tt with decided := none } }
  else s

/-- A pending write must wait for the switch in progress: it names the other slot (R224); those behind it wait too, since
writes take effect in CSN order (R348). -/
def heldBySwitch (s : State) (w : ShadowWrite) : Bool :=
  s.tt.switching.isSome && w.values.any fun e => e.1 == K.ttActiveSlot && decide (e.2 ≠ valIn s.dict.store K.ttActiveSlot)

/-- The pending writes that take effect now, in CSN order: at a bell start those serialised at least 1.000 µs before (R57); with
bells stopped all of them (R348). -/
def dueWrites (atBell : Bool) (s : State) : List ShadowWrite :=
  s.dict.shadow.takeWhile fun w => (!atBell || decide (w.at_ + 1000 ≤ s.clk.now)) && !heldBySwitch s w

/-- They take effect together. -/
def applyDue (m : Option Nat) (s : State) : State :=
  let due := dueWrites m.isSome s
  let old := s.dict.store
  let s := due.foldl (fun (s : State) (w : ShadowWrite) =>
      let before := s.dict.store
      let s := applyWrite w s
      oweRenewal m (renewalOf (m.getD 0) before s.dict.store) s)
    { s with dict := { s.dict with shadow := s.dict.shadow.drop due.length } }
  afterCommit old m s

/-- The pending writes take effect with bells stopped (R348). -/
def applyStopped (s : State) : State :=
  let old := s.dict.store
  let due := dueWrites false s
  let s := coefStopped due (applyDue none s)
  lineSettingsApplied old (holdIdle (takeDecision none s))

/-- Number of the last bell that will start, if a stop is pending (R22, R34): none while bells go on. -/
def lastStart (s : State) : Option Nat :=
  if s.bell.acquiring.any BellRec.suppressed then some s.bell.number
  else match s.bell.stopAt, s.bell.due with
    | some t, some d =>
      let next := if s.nat K.bellState = 1 then s.nat K.bellNumberNext else s.bell.number + 1
      some (if t + 1000 ≤ d then next else next + 1)
    | _, _ => none

/-- A stop of the armed generator: no bell starts (R34). -/
def noneStarts (s : State) : Bool :=
  s.nat K.bellState == 1 && match s.bell.stopAt, s.bell.due with
    | some t, some d => decide (t + 1000 ≤ d)
    | _, _ => false

/-- EFFECT_BELL of a write accepted now (R344): the bell at whose start its RWB items take effect, all ones if bells are stopped or
stop before it. `slotChange` says that it names the other slot. -/
def effectBell (slotChange : Bool) (s : State) : Nat :=
  let never := 0xFFFFFFFFFFFFFFFF
  if s.stopped || noneStarts s then never
  else
    let next := if s.nat K.bellState = 1 then s.nat K.bellNumberNext else s.bell.number + 1
    let b := match s.bell.due with
      | some d => if s.clk.now + 1000 ≤ d then next else next + 1
      | none => next
    let b := if slotChange || s.dict.shadow.any (heldBySwitch s) then
        match s.tt.switching with
        | some w => match w.bell with
          | some m => max b (m + w.load + 1)
          | none => b
        | none => b
      else b
    match lastStart s with
    | some l => if l < b then never else b % 2 ^ 48
    | none => b % 2 ^ 48

end Sys2Proof.Machine
end

