-- ==== Sys2Proof/Machine/FlashOps.lean ====
section
/-!
DEFINITION. Machine/FlashOps.lean: the flash's image slots and their boot checks (R406 to R408), saved profiles (R356), and staged
operations as they start, run and end (R351 to R355).
-/

namespace Sys2Proof.Machine

/-! ### Firmware images -/

/-- The fields of a firmware image (Table 16-5). -/
def fwTarget (img : List Byte) : Nat := fieldAt 6 1 img
def fwSigned (img : List Byte) : Bool := bitOf (fieldAt 7 1 img) 0
def fwBytes (img : List Byte) : Nat := fieldAt 8 4 img
def fwVersion (img : List Byte) : Nat := fieldAt 16 4 img
def fwLoad (img : List Byte) : Nat := fieldAt 20 4 img
def fwEntry (img : List Byte) : Nat := fieldAt 24 4 img

/-- MAGIC of a firmware image. -/
def isFirmware (img : List Byte) : Bool := slice 0 4 img == [0x43, 0x57, 0x46, 0x57]

/-- MAGIC of a timetable image. -/
def isTimetable (img : List Byte) : Bool := slice 0 4 img == [0x43, 0x57, 0x54, 0x54]

/-- The signature block of a control image verifies against the key in the boot ROM (R408). -/
def romVerifies (img : List Byte) : Bool :=
  let n := img.length
  let blk := slice (n - 192) 192 img
  slice 0 4 blk == [0x53, 0x49, 0x47, 0x31]
    && keyVerifies Config.calweyrKeyHash blk (img.take (n - 192))

/-- The checks of Table 16-6, in order, on the IMAGE_BYTES bytes of an image: the code that fails, 0 if none. What stands in reserved
bits and bytes has no effect (R7). -/
def firmwareCheck (s : State) (raw : List Byte) : Nat :=
  let n := fwBytes raw
  let img := slice 0 (min n 1048576) raw
  let end_ := n - (if fwSigned raw then 192 else 0)
  if !isFirmware raw || fieldAt 4 2 raw != 0x0100
      || fieldAt 12 4 raw != crc32 (slice 0 12 raw ++ zeros 4 ++ slice 16 112 raw) then 0x21
  else if 1 < fwTarget raw || n % 64 != 0 || 1048576 < n || fwLoad raw = 0 || 524288 < fwLoad raw
      || end_ < 128 + fwLoad raw || fwEntry raw % 2 != 0 || fwLoad raw ≤ fwEntry raw then 0x22
  else if fieldAt 28 4 raw != crc32 (slice 128 (fwLoad raw) raw) then 0x23
  else if fwTarget raw = 0 then (if fwSigned raw && romVerifies img then 0 else 0x24)
  else if fwSigned raw then (if signatureVerifies s img then 0 else 0x24)
  else if s.nat K.lifecycle = 2 then 0x24 else 0

/-- The boot checks of an image slot's content (R408): the code that fails, 0 if none. -/
def slotCheck (s : State) (img : List Byte) : Nat :=
  if isFirmware img then firmwareCheck s img
  else if isTimetable img then
    match checkImage s img with
    | some e => e.code
    | none => 0
  else 2

/-- A valid image as a copy (R409). -/
def firmwareOf (img : List Byte) : Firmware :=
  { version := fwVersion img, entry := fwEntry img, load := slice 128 (fwLoad img) img, image := slice 0 (fwBytes img) img }

/-! ### Profiles -/

/-- An entry that a profile excludes (R356). -/
def profileExcludes (k : Key) : Bool :=
  let i := k / 256
  decide (0x6000 ≤ i ∧ i ≤ 0x61FF) || decide (0x7000 ≤ i ∧ i ≤ 0x70FF) || decide (K.ttSource ≤ k ∧ k ≤ K.fitCode)
    || decide (K.bellRun ≤ k ∧ k ≤ K.bellNumberNext) || k == K.deviceTime || k == K.ppsNextSecond || k == K.driveEnable

/-- Every row of the entry tables. -/
def allRows : List EntryRow :=
  entries10 ++ entries11 ++ entries20 ++ entries21 ++ entries22 ++ entries24 ++ entries25 ++ entries28 ++ entries29 ++ entries30
    ++ entries38 ++ entries39 ++ entries3A ++ entries48 ++ entries54 ++ entries58 ++ entries60 ++ entries61 ++ entries64
    ++ entries68 ++ entries6C ++ entries70 ++ entries74 ++ entries75 ++ entries78

/-- The keys of a row. -/
def EntryRow.keys (r : EntryRow) : List Key :=
  (List.range r.indices).flatMap fun a => (List.range r.subs).map fun b => (r.index + a) * 256 + (r.sub + b)

/-- The keys that a profile holds (R356): access RW or RWB, the active timetable's parameters among them. -/
def profileKeys (s : State) : List Key :=
  ((allRows.filter fun r => r.access == .rw || r.access == .rwb).flatMap EntryRow.keys
    ++ (paramDefs (activeImage s)).map ParamRec.key).filter fun k => !profileExcludes k

/-- TIMETABLE_ID of the active timetable, 0 if none is active. -/
def activeId (s : State) : Nat := if timetableActive s then imgId (activeImage s) else 0

/-- PROFILE_DIRECTORY (R360). -/
def profileDirectory (s : State) : List Byte :=
  s.dict.profiles.toList.flatMap fun (p : Option Profile) =>
    match p with
    | some p => leBytes 1 1 ++ zeros 3 ++ leBytes 4 p.values.length ++ leBytes 8 p.timetableId ++ leBytes 8 p.savedAt
        ++ leBytes 8 p.csn
    | none => zeros 32

/-! ### Staged operations -/

/-- Change the record of operation 7010 + `k`. -/
def State.onOp (s : State) (k : Fin 8) (f : StagedOp → StagedOp) : State :=
  { s with dict := { s.dict with ops := vmod s.dict.ops k f } }

/-- The place of an OP_ID (R360). -/
def opPlace (id : Nat) : Fin 8 := ⟨id % 8, Nat.mod_lt _ (by decide)⟩

/-- Every staged operation that runs (R351). -/
def runningOps (s : State) : List StagedOp := (s.dict.displaced ++ s.dict.ops.toList).filter fun o => o.state == 1

/-- Operation `o` takes its entry, and that of a later one with the same OP_ID mod 8 stands aside while `f` acts on it: an operation goes on
running (R352) though 7010 + k describes a later one. -/
def onDisplaced (o : StagedOp) (f : State → State) (s : State) : State :=
  let k := opPlace o.id
  let shown := s.dict.ops[k]
  let t := f { s with dict := { s.dict with ops := s.dict.ops.set k o, displaced := s.dict.displaced.erase o } }
  let o' := t.dict.ops[k]
  { t with dict := { t.dict with ops := t.dict.ops.set k shown,
                                 displaced := if o'.state = 1 then o' :: t.dict.displaced else t.dict.displaced } }

/-- An operation of kind `kind` no longer runs. -/
def opEnds (kind : Nat) (s : State) : State :=
  s.setNum K.opsRunning (bitsOf (fun i => i + 1 != kind && bitOf (s.nat K.opsRunning) i) 8 : Nat)

/-- The bytes that an operation works on, taken as it starts: the upload buffer, or the image slot of TT_SOURCE. -/
def opImage (s : State) (kind : Nat) : List Byte :=
  let up := readBarn s (areaBase s 3) s.dict.uploaded
  if kind = 1 then
    (if s.nat K.ttSource = 0 then up else s.dict.imageSlots.toList.getD (s.nat K.ttSource - 1) [])
  else if kind = 4 then up else []

/-- Slot `i` of the barn takes an image: all its words are good again (R321). -/
def putImage (i : Nat) (img : List Byte) (s : State) : State :=
  let s := fillBarn (areaBase s (4 + i)) (4 * mib) s
  if h : i < 2 then { s with tt := { s.tt with slots := s.tt.slots.set i { image := img } } } else s

/-- An accepted start (R351): the number of its steps is not stated by the manual; it is free. -/
def startOp (kind arg : Nat) (i : Initiator) (level : Nat) (s : State) : State :=
  let id := s.nat K.opLastId + 1
  let o : StagedOp := { id, kind, state := 1, arg, stepsTotal := 1 + s.free (2 ^ 32 - 1), startCsn := s.nat K.csnLast, starter := i,
                        level, image := opImage s kind, stalled := s.nat K.supplyState = 1 && (kind == 2 || kind == 4) }
  let old := s.dict.ops[opPlace id]
  let s := { s with dict := { s.dict with displaced := if old.state = 1 then old :: s.dict.displaced else s.dict.displaced } }
  let s := (s.draw.setNum K.opLastId id).onOp (opPlace id) fun _ => o
  let s := s.setNum K.opsRunning (bitsOf (fun j => j + 1 == kind || bitOf (s.nat K.opsRunning) j) 8 : Nat)
  -- a load empties the standby slot before it writes (R200)
  if kind = 1 then (putImage (standbySlot s) [] s).setNum K.ttLoadState 1 else s

/-- What an operation that does not reach its commit point leaves (Table 13-10): a started erase has emptied the slot. -/
def opLeaves (o : StagedOp) (s : State) : State :=
  if o.kind = 1 then (putImage (standbySlot s) [] s).setNum K.ttLoadState 0 else s

/-- Operation `k` ends in `state` before or without its commit point. -/
def opStops (k : Fin 8) (state result endCsn : Nat) (s : State) : State :=
  let o := s.dict.ops[k]
  let s := opEnds o.kind (s.onOp k fun o => { o with state, result, endCsn, reportReady := false, image := [] })
  raise 43 (opLeaves o s)

/-- The operation is complete, under CSN `c` (R353). -/
def opCompletes (k : Fin 8) (c : Nat) (s : State) : State :=
  let o := s.dict.ops[k]
  raise 43 (opEnds o.kind (s.onOp k fun o => { o with state := 2, result := 0, endCsn := c, reportReady := false, image := [] }))

/-- The image slot of a FLASH_PROGRAM is empty once the first erase step has run (Table 13-10). -/
def eraseSlot (i : Nat) (s : State) : State :=
  if h : i < 8 then { s with dict := { s.dict with imageSlots := s.dict.imageSlots.set i [] } } else s

/-- Commit of a load (R215, R225): the slot holds the checked image, with its private regions filled with 0, or is empty with TT_ERROR. -/
def commitLoad (o : StagedOp) (s : State) : State :=
  match checkImage s o.image with
  | some e => ((putImage (standbySlot s) [] s).setBlock K.ttError e.bytes).setNum K.ttLoadState 3
  | none => clearPrivate (standbySlot s) ((putImage (standbySlot s) o.image s).setNum K.ttLoadState 2)

/-- Commit of a flash program (R351). -/
def commitFlash (o : StagedOp) (s : State) : State :=
  if h : o.arg < 8 then { s with dict := { s.dict with imageSlots := s.dict.imageSlots.set o.arg o.image } } else s

/-- Operation `o` ends as if aborted, with one record (R355) and source 43 (Table 16-7). No write aborts it: it takes no CSN, and END_CSN
stays 0 (DESIGN CHOICE, log entry 112). -/
def opEndsAborted (s : State) (o : StagedOp) : State :=
  raise 43 (opLeaves o (opEnds o.kind
    (record 3 0x7000 0x0801 (leBytes 4 o.id ++ leBytes 1 o.kind ++ zeros 3 ++ leBytes 4 o.stepsDone) s)))

/-- Every running operation ends so (R355). -/
def endOps (s : State) : State :=
  let s := (runningOps s).foldl opEndsAborted s
  { s with dict := { s.dict with displaced := [],
                                 ops := s.dict.ops.map fun (o : StagedOp) =>
                                   if o.state = 1 then { o with state := 3, reportReady := false, image := [] } else o } }

end Sys2Proof.Machine
end

