-- ==== Sys2Proof/Machine/HkCommands.lean ====
section
/-!
DEFINITION. Machine/HkCommands.lean: starts of housekeeping runs (R280, R282), sample instants (R281), the end of a
self-calibration (R291) and the block's W1C write (R295).
-/

namespace Sys2Proof.Machine

/-- The start settings in force: those of the run in progress, else the entries (R283). -/
def startSettings (s : State) : Sparse DVal := if s.hk.running then s.hk.settings else s.dict.store

/-- HK_TIMER_START (R280). -/
def execHkTimerStart (s : State) : Host.Outcome State Fault Refusal :=
  match s.hk.nextTimer with
  | some t =>
    if natIn (startSettings s) K.hkMode = 1 then
      finish (atInstant t (fun s =>
        let p := natIn (startSettings s) K.timerPeriod * 1000
        tryStart (s.onHk fun h => { h with nextTimer := some (t + p) })) s)
    else finish s
  | none => finish s

/-- HK_PWM_EDGE_START (R280): the first SUPCLK edge at or after an on-time start plus PWM_DELAY. -/
def execHkPwmEdgeStart (s : State) : Host.Outcome State Fault Refusal :=
  match s.hk.edges with
  | e :: rest =>
    if natIn (startSettings s) K.hkMode ≠ 2 then finish s
    else finish (atInstant (ceilTo 4 (e + 10 * natIn (startSettings s) K.pwmDelay)) (fun s =>
      tryStart (s.onHk fun h => { h with edges := rest })) s)
  | [] => finish s

/-- HK_START_REGISTER (R282, R295): the control core only reads the block (Table 16-2). -/
def execHkStartRegister (core : Fin 2) (value : BitVec 32) (dt : Nat) (s : State) : Host.Outcome State Fault Refusal :=
  finish (coreAccess core (core == 1) 1 (hkBase + 4) dt (fun s => if value.getLsbD 0 then tryStart s else s) s)

/-- HK_SAMPLE (R281): the next sample instant of the slot in progress. -/
def execHkSample (rawA rawB : BitVec 12) (openA openB : Bool) (s : State) : Host.Outcome State Fault Refusal :=
  let w := runSlot s s.hk.slot
  if s.hk.running ∧ s.hk.raws.length < slotConversions w then
    finish (atInstant (s.hk.slotStart + slotSettle w * 100 + s.hk.raws.length * 1000) (fun s =>
      s.onHk fun h => { h with raws := h.raws ++ [(rawA.toNat, rawB.toNat)], openA := h.openA || openA,
                               openB := h.openB || openB }) s)
  else finish s

/-- HK_SELF_CAL_DONE (R291): 1.6 ms after it began. -/
def execHkSelfCalDone (factors : List Int) (s : State) : Host.Outcome State Fault Refusal :=
  match s.hk.calSince with
  | some t => finish (atInstant (t + 1600000) (endCal factors) s)
  | none => finish s

/-- HK_STATUS_CLEAR (R295): a W1C write by the application core. -/
def execHkStatusClear (core : Fin 2) (value : BitVec 32) (dt : Nat) (s : State) : Host.Outcome State Fault Refusal :=
  finish (coreAccess core (core == 1) 1 hkBase dt (clearSticky (value.extractLsb' 8 4)) s)

end Sys2Proof.Machine
end

