-- ==== Sys2Proof/Machine/Effects.lean ====
section
/-!
DEFINITION. Machine/Effects.lean: what an accepted RW or WO write does at its turn (R56), entry by entry.
-/

namespace Sys2Proof.Machine

/-! ### Bells and drive -/

/-- Due instant of the first bell after an arm now (R33): the device time of BELL_START_TIME, or the first REFCLK edge at least
10.000 µs on. -/
def firstBellAt (s : State) : Nat :=
  let t := s.nat K.bellStartTime
  if t = 0 then (s.clk.now + 10000 + 9) / 10 * 10 else s.clk.now / 10 * 10 + ((t : Int) - s.edgeTime).toNat

/-- BELL_RUN := 1 arms the generator (R33). -/
def armBells (s : State) : State :=
  let s := (s.setNum K.bellRun 1).setNum K.bellState 1
  { s with bell := { s.bell with due := some (firstBellAt s), armedAt := s.clk.now, sinceArm := 0, stopAt := none } }

/-- BELL_RUN := 0 stops the bells at a boundary still to come (R34); a read returns the write at once (R56). -/
def stopBells (s : State) : State :=
  let b := s.nat K.bellState
  let s := s.setNum K.bellRun 0
  if b = 2 then { s.setNum K.bellState 3 with bell := { s.bell with stopAt := some s.clk.now } }
  else if b = 1 && s.bell.stopAt.isNone then { s with bell := { s.bell with stopAt := some s.clk.now } }
  else s

/-- DRIVE_ENABLE (R100). -/
def writeDrive (on : Bool) (s : State) : State :=
  let s := s.setNum K.driveEnable (b2n on : Nat)
  if on then
    (if s.stopped then applyDrive s else { s with drive := { s.drive with restoreAt := some (s.drive.restoreAt.getD s.clk.now) } })
  else removeDrive s

/-- FAULT_CLEAR (R96, R97): a cleared line may be driven again. -/
def clearFaults (v : Nat) (s : State) : State :=
  settleLines (s.onLines fun l x =>
    if bitOf v l then { x with openF := false, shortF := false, darkF := false, overF := false, removed := false } else x)

/-! ### Timetable upload -/

/-- One piece of TT_IMAGE (R347). -/
def uploadPiece (offset : Nat) (data : List Byte) (s : State) : State :=
  let n := offset + data.length
  let received := if offset = 0 then n else max s.dict.uploaded n
  let held := if offset = 0 then [] else s.dict.upload
  let (_, s) := wakeBarn 11 s
  let s := fillBarn (areaBase s 3 + offset) data.length s
  { s with dict := { s.dict with upload := overlay offset data held, uploaded := received } }

/-! ### Protection -/

/-- KEY_PROGRAM (R441). -/
def programKey (b : List Byte) (s : State) : State :=
  let k := fieldAt 0 1 b
  if h : k < 6 then
    record 4 (0x6000 + k) 0x0C04 (leBytes 1 k)
      { s with sec := { s.sec with keys := s.sec.keys.set k (some (slice 8 32 b)) } }
  else s

/-- KEY_REVOKE (R441). -/
def revokeKey (k : Nat) (s : State) : State :=
  record 4 (0x6000 + k) 0x0C05 (leBytes 1 k) { s with sec := { s.sec with revoked := s.sec.revoked ||| (1#4 <<< k) } }

/-- LIFECYCLE_ADVANCE (R438, R439): an advance into Retired revokes every signing slot. -/
def advanceLifecycle (v : Nat) (s : State) : State :=
  let old := s.nat K.lifecycle
  let s := s.setNum K.lifecyclePending v
  let s := { s with sec := { s.sec with fuseLifecycle := v, revoked := if v = 3 then 0xF else s.sec.revoked } }
  record 4 0x6000 0x0C03 (leBytes 1 old ++ leBytes 1 v) s

/-- A key register after the zeroing of R449: one that is stuck keeps what it held. -/
def afterZeroing (stuck : Bool) (r : Option (List Byte)) : Option (List Byte) := if stuck then r else none

/-- Zero into every key register (R449). -/
def zeroKeys (stuck : BitVec 2) (s : State) : State :=
  { s with sec := { s.sec with
    keyRegs := #v[afterZeroing (stuck.getLsbD 0) s.sec.keyRegs[0], afterZeroing (stuck.getLsbD 1) s.sec.keyRegs[1]] } }

/-- A commit that the 8320 makes by itself takes the next CSN. -/
def ownCommit (s : State) : State :=
  let c := s.nat K.csnLast + 1
  csnInEffect c (s.setNum K.csnLast (c : Nat))

/-- Entry into Scan (R449): the drive goes; cores, engines and classrooms are held in reset; the key registers are zeroed and read back. -/
def enterScan (stuck : BitVec 2) (s : State) : State :=
  let s := holdAppCore (writeDrive false (ownCommit s))
  let s := zeroKeys stuck (loseEngines (resetHart 0 0 { s with cores := { s.cores with controlAlive := false } }))
  let s := { s with sec := { s.sec with scanEnabled := stuck == 0#2 } }
  if stuck = 0#2 then s.setNum K.debugState 3
  else record 4 0x6000 0x0C02 (leBytes 1 stuck.toNat) (s.setNum K.debugState 0)

/-- DEBUG_REQUEST (R449). -/
def requestDebug (v : Nat) (stuck : BitVec 2) (s : State) : State :=
  let s := s.setNum K.debugRequest v
  if v = 3 then enterScan stuck s else s.setNum K.debugState v

/-- Initiator of an index from 6020 or 6040 up. -/
def iniOf (base k : Nat) : Fin 3 := ⟨(k / 256 - base) % 3, Nat.mod_lt _ (by decide)⟩

/-- A window write (R447): its change instant, within 2.000 µs, is free. -/
def writeWindow (w : Fin 3) (b : List Byte) (s : State) : State :=
  let c := s.clk.now + s.free 2001
  let s := changeWindow w s
  { s.draw with sec := { s.sec with windowNext := s.sec.windowNext.set w (some (c, b)) } }

/-- HOST_WINDOW_BASE (R397, R447). -/
def writeBase (v : Nat) (s : State) : State :=
  let c := s.clk.now + s.free 2001
  { s.draw.setNum K.hostWindowBase v with sec := { s.sec with baseNext := some (c, v) } }

/-! ### Power -/

/-- STREAM_TXDIS (R399): high in Standby and while STREAM_PORT_ENABLE is 0; Hold, Off and reset leave it at its reset level. -/
def refreshTx (s : State) : State :=
  { s with port := { s.port with txDisable := s.nat K.streamPortEnable == 0 || s.nat K.powerState == 2 } }

/-- A request to change the power state starts its transition (R452, R495). A shut-down writes the staging queue, which Table 20-5 has done by
0.6 ms from its turn, at the turn itself (log entry 123). -/
def startPower (v : Nat) (s : State) : State :=
  let was := s.nat K.powerState
  if v = 3 then
    let s := sealAll false (removeDrive (endOps (s.setNum K.powerState 3)))
    { s with power := { s.power with shutdownAt := some s.clk.now, transition := some (was, 3, s.clk.now) } }
  else
    settleLines { s.setNum K.powerState 3 with power := { s.power with transition := some (was, v, s.clk.now) } }

/-- POWER_REQUEST (R452): during Brace it waits. -/
def requestPower (v : Nat) (s : State) : State :=
  let s := s.setNum K.powerRequest v
  if s.nat K.supplyState = 1 then { s with power := { s.power with waiting := some v } } else startPower v s

/-- OP_ABORT (R354): the operation of that OP_ID ends, under the CSN of the abort. -/
def abortOp (id : Nat) (s : State) : State :=
  let stop (s : State) : State := opStops (opPlace id) 3 0 (s.nat K.csnLast) s
  match s.dict.displaced.find? fun o => o.id == id with
  | some o => onDisplaced o stop s
  | none => stop s

/-! ### Every entry -/

/-- Number of an index from `base` up, below `n`. -/
def idxOf (base n k : Nat) (h : 0 < n) : Fin n := ⟨(k / 256 - base) % n, Nat.mod_lt _ h⟩

/-- HK start settings apply from now on, or at the end of the run or self-calibration in progress (R283). -/
def hkSettings (s : State) : State :=
  if s.hk.running then s else if s.hk.calBusy then s.onHk fun h => { h with renewWaits := true } else renewStarts s

/-- A number written to entry `k` acts at its turn. `i` and `level` are the request's; `stuck` is what R449's read-back finds. -/
def numEffect (i : Initiator) (level : Nat) (stuck : BitVec 2) (k : Key) (v : Int) (s : State) : State :=
  let x := v.toNat
  let idx := k / 256
  let plain := s.setNum k v
  if k = K.latchClear then { s with dict := { s.dict with latch := s.dict.latch &&& ~~~(BitVec.ofNat 32 x) } }
  else if k = K.bellRun then (if x = 1 then armBells s else stopBells s)
  else if k = K.timeSource then selectSource x s
  else if k = K.deviceTime then { s with clk := { s.clk with devNext := some x } }
  else if 0x2210 ≤ idx && idx ≤ 0x2217 && k % 256 = 3 then setOwner (idxOf 0x2210 8 k (by decide)) x s
  else if k = K.driveEnable then writeDrive (x == 1) s
  else if k = K.faultClear then clearFaults x s
  else if k = K.calRun then
    (if x = 1 then { s.setNum K.calState 1 with chain := { s.chain with calSince := some s.clk.now } } else s)
  else if k = K.capArm then (if x = 1 then armCapture s else s)
  else if k = K.calReset then (if x = 1 then { s with profiler := { s.profiler with discard := true } } else s)
  else if k = K.traceEndLearn then
    (if x = 1 then s.onFibre fun f => { f with learnLeft := 65, learnMax := 0 } else s)
  else if k = K.faultInject then
    s.onEng ⟨x % 32, Nat.mod_lt _ (by decide)⟩ fun e =>
      { e with inject := x / 256, injectAt := s.bell.number + 1 }
  else if k = K.ttLoad then (if x = 1 then startOp 1 0 i level s else s)
  else if k = K.manualTrigger then onZone x (fun z => { z with manualAt := z.manualAt ++ [s.clk.now] }) s
  else if k = K.harvestRelease then releaseHarvests x s
  else if k = K.harvestAreaBytes then
    (if x = s.nat k then s
     else { plain with granary := { s.granary with harvests := s.granary.harvests.filter fun h => !h.complete } })
  else if k = K.hkStart then (if x = 1 then tryStart s else s)
  else if k = K.hkCalRun then (if x = 1 then requestCal s else s)
  else if k = K.stickyClear then clearSticky (BitVec.ofNat 4 x) s
  else if hkStartKeys.contains k then (if v = s.num k then plain else hkSettings plain)
  else if k = K.logClear then
    (List.finRange 2).foldl (fun (s : State) (c : Fin 2) =>
      if bitOf x c.val then writeBarn (logPlace s + 512 * c.val) (zeros 512) (s.onChan c fun y => { y with log := [] }) else s) s
  else if k = K.targetDisable then writeTargetDisable x s
  else if k = K.appCoreRun then
    (if s.nat K.powerState = 2 then plain else if x = 0 then holdAppCore plain else loadAppCore plain)
  else if k = K.lifecycleAdvance then advanceLifecycle x s
  else if k = K.keyRevoke then revokeKey x s
  else if k = K.debugRequest then requestDebug x stuck s
  else if 0x6020 ≤ idx && idx ≤ 0x6022 && k % 256 = 4 then (if x = 1 then endSession (iniOf 0x6020 k) s else s)
  else if k = K.powerRequest then requestPower x s
  else if k = K.powerLine then restartPower plain
  else if k = K.hostWindowBase then writeBase x s
  else if 0x7410 ≤ idx && idx ≤ 0x7411 && k % 256 = 3 then plain.setNum (K.delayValid (idx - 0x7410)) 1
  else if k = K.streamPortEnable then
    refreshTx plain
  else if k = K.opAbort then abortOp x s
  else if k = K.levelReturn then s
  else plain

/-- A byte block written to entry `k` acts at its turn. -/
def blockEffect (i : Initiator) (level : Nat) (k : Key) (offset : Nat) (b : List Byte) (s : State) : State :=
  let idx := k / 256
  if k = K.ttImage then uploadPiece offset b s
  else if k = K.pendingClear then clearPendingBlock (i == 2) b s
  else if k = K.routes then writeRoutes b s
  else if k = K.keyProgram then programKey b s
  else if 0x6020 ≤ idx && idx ≤ 0x6022 && k % 256 = 2 then openSession (iniOf 0x6020 k) (fieldAt 0 1 b) s
  else if 0x6040 ≤ idx && idx ≤ 0x6042 then writeWindow (iniOf 0x6040 k) b s
  else if k = K.opStart then startOp (fieldAt 0 1 b) (fieldAt 1 1 b) i level s
  else s.setBlock k b

/-- What an accepted write item of access RW or WO does at its turn (R56). -/
def writeEffect (i : Initiator) (level : Nat) (stuck : BitVec 2) (k : Key) (offset : Nat) (v : DVal) (s : State) : State :=
  match v with
  | .num x => numEffect i level stuck k x s
  | .bytes b => blockEffect i level k offset b s

/-- Writes that their chapters declare actions take no CSN (R282, R341). -/
def isAction (k : Key) : Bool := k == K.hkStart

end Sys2Proof.Machine
end

