-- ==== Sys2Proof/Machine/DictRead.lean ====
section
/-!
DEFINITION. Machine/DictRead.lean: what a read of each entry returns (R342): the entries that follow the state of their unit, the byte
blocks, and every other entry as it is held.
-/

namespace Sys2Proof.Machine

/-! ### Scalars that follow their unit -/

/-- The figures of the granary region in effect (R260). -/
def granaryBytes (s : State) : Nat :=
  match granaryRegion (activeImage s) with
  | some (_, r) => r.length
  | none => 0

/-- GRANARY_BYTES, GRANARY_SLOTS and SLOT_BYTES: 0 without a timetable. -/
def granaryFigure (s : State) (sub : Nat) : Nat :=
  if !timetableActive s then 0
  else if sub = 1 then granaryBytes s
  else if granaryBytes s = 0 then 0
  else if sub = 2 then granarySlotsOf (activeImage s)
  else granarySlotBytes (imgPoints (activeImage s))

/-- RING_STATE (R382): 0 while both links are down, 3 and 4 while one is; a link that is up again while its loop lasts (R375) shows as its
loop does, and with a loop at both ports as if there were none (DESIGN CHOICE, log entry 48). -/
def ringState (s : State) : Nat :=
  let up (p : Fin 2) : Bool := s.nat (K.linkState p) != 0
  let addressed := if s.nat K.ringAddress = 0 then 1 else 2
  match up 0, up 1 with
  | false, false => 0
  | false, true => 3
  | true, false => 4
  | true, true =>
    match s.node.ports[0].looped, s.node.ports[1].looped with
    | true, false => 3
    | false, true => 4
    | _, _ => addressed

/-- A field of staged operation 7010 + k (R360). -/
def opField (o : StagedOp) (sub : Nat) : Nat :=
  match sub with
  | 1 => o.id
  | 2 => o.kind
  | 3 => o.state
  | 4 => o.stepsDone
  | 5 => o.stepsTotal
  | 6 => o.startCsn
  | 7 => o.endCsn
  | _ => o.result

/-- Bells left in the fade of tag `t` (R137). -/
def coefFadeLeft (s : State) (t : Nat) : Nat :=
  match s.chain.fades.toList.getD t none with
  | some f => f.length - f.bell
  | none => 0

/-- Numbers of the 0x1000 to 0x24FF ranges. -/
def numDerivedA (s : State) (k : Key) : Option Int :=
  let idx := k / 256
  if k = K.siliconStep then some Config.siliconStep.toNat
  else if k = K.unitId then some Config.unitId.toNat
  else if k = K.bootRomVersion then some Config.bootRomVersion.toNat
  else if k = K.statusNow then some (statusNow s)
  else if k = K.statusLatch then some s.dict.latch.toNat
  else if k = K.minBellPeriod then some (minBellPeriod (s.nat K.spatialMode) (s.nat K.phasePoints))
  else if k = K.deviceTime then some s.clk.devTime
  else if k = K.dacClipCount then some (min (advanceDac s).exc.clipCount (2 ^ 32 - 1) : Nat)
  else if k = K.interlockState then some (b2n s.drive.interlockLow)
  else if k = K.faultSummary then some (faultSummary s)
  else if 0x2510 ≤ idx && idx ≤ 0x2517 && k % 256 = 0x0E then some (lineStatus s (idxOf 0x2510 8 k (by decide)))
  else if 0x2810 ≤ idx && idx ≤ 0x281F && k % 256 = 2 then some (coefFadeLeft s (idx - 0x2810))
  else if k = K.avgState then some (avgState s)
  else if k = K.profileState then some (profileState s)
  else none

/-- Numbers of the 0x3000 to 0x3AFF ranges. -/
def numDerivedB (s : State) (k : Key) : Option Int :=
  let idx := k / 256
  let sub := k % 256
  if k = K.arrayState then some (arrayState s)
  else if k = K.ttSlot0Id then some (slotId s 0)
  else if k = K.ttSlot1Id then some (slotId s 1)
  else if k = K.budgetCycles then some (budgetCycles s)
  else if 0x3040 ≤ idx && idx ≤ 0x3043 then some (variantEntry s (idx - 0x3040) sub)
  else if k = K.triggerQueued then some s.detect.queue.length
  else if k = K.zonesSuspended then some (zonesSuspended s.dict.store)
  else if k = K.granaryBytes || k = K.granarySlots || k = K.slotBytes then some (granaryFigure s sub)
  else if k = K.harvestsHeld then some (harvestsHeld s)
  else if k = K.harvestForming then some (formingCount s)
  else if k = K.streamsServed then some (if timetableActive s then streamsServed s else 0 : Nat)
  else if 0x3A10 ≤ idx && idx ≤ 0x3A17 && sub = 8 then
    some (if timetableActive s then streamState s (idx - 0x3A10) else min 1 (s.nat (K.streamEnable (idx - 0x3A10))) : Nat)
  else if 0x3A10 ≤ idx && idx ≤ 0x3A17 && sub = 9 then
    -- its default is 0: R256's figure is read of a stream that is enabled
    some (if s.nat (K.streamEnable (idx - 0x3A10)) = 1 then recordBytesOf s.dict.store (idx - 0x3A10) else 0 : Nat)
  else none

/-- Numbers of the 0x5400 to 0x78FF ranges. -/
def numDerivedC (s : State) (k : Key) : Option Int :=
  let idx := k / 256
  let sub := k % 256
  if k = K.barnState then some (barnState s)
  else if k = K.ringAreaBytes then some (ringAreaBytes s)
  else if k = K.targetDisable then some (targetDisable s)
  else if k = K.presented then some (bitsOf (fun t => s.ic.presented.toList.getD t false) 4 : Nat)
  else if k = K.keyState then some (keyState s)
  else if k = K.overrideCount then some ((s.block K.rightsOverrides).length / 8 : Nat)
  else if 0x6110 ≤ idx && idx ≤ 0x6113 && sub = 2 then some (levelOf' s ⟨(idx - 0x6110) % 5, Nat.mod_lt _ (by decide)⟩)
  else if k = K.bbState then some (bbState s)
  else if k = K.sealedHeld then some (heldSlots s 0 1024)
  else if k = K.circularHeld then some (heldSlots s 1024 16384)
  else if k = K.circularNext then some (circularNext s)
  else if k = K.queued then some s.bb.queue.length
  else if k = K.cardState then some (cardStateOf s)
  else if k = K.repairs then some (min s.bb.repairs.length 65535 : Nat)
  else if 0x7010 ≤ idx && idx ≤ 0x7017 then some (opField s.dict.ops[(idx - 0x7010) % 8] sub)
  else if k = K.ringState then some (ringState s)
  else if k = K.alarmOut then some (b2n s.ic.presented[3])
  else if k = K.streamMac then some (streamMac s)
  else if portsOn s then none
  -- a shut-down has taken the PCI Express link down (Table 20-5), which counts as R392 says
  else if k = K.hostLink || k = K.linkSpeed || k = K.linkWidth then some 0
  else if k = K.hostResets && s.nat K.hostLink != 0 then some (min (s.nat K.hostResets + 1) 0xFFFFFFFF : Nat)
  else none

/-- The number that a read of a scalar entry returns. -/
def readNum (s : State) (k : Key) : Int :=
  match numDerivedA s k with
  | some v => v
  | none => match numDerivedB s k with
    | some v => v
    | none => match numDerivedC s k with
      | some v => v
      | none => s.num k

/-! ### Byte blocks -/

/-- Stated sizes of blocks that read 0 until their unit writes them (log entry 2). -/
def blankSize (k : Key) : Nat :=
  let i := k / 256
  if k = K.lastRefusal then 24
  else if k = K.lastBreak || k = K.lastMark || k = K.lastDecision then 32
  else if (0x3020 ≤ i && i ≤ 0x303F) || k = K.lastSrWake || k = K.lastDip || (0x6040 ≤ i && i ≤ 0x6042) then 16
  else if k = K.ttError then 12
  else if 0x3810 ≤ i && i < 0x3850 then 2048
  else if 0x3850 ≤ i && i < 0x3890 then 4096
  else if k = K.startTimes then 32
  else if k = K.dropTotal then 24
  else 0

/-- The counters of the 192 interrupt sources (R421). -/
def countBytes (s : State) : List Byte := (List.range 192).map fun i => BitVec.ofNat 8 (sparseGet (fun _ => 0) s.ic.counts i)

/-- The bytes of a Unicode text in the manual's own letters. -/
def asciiBytes (t : List Nat) : List Byte := t.map fun c => BitVec.ofNat 8 c

/-- A window as it reads: the written one, in force or still to come (R460). -/
def windowRead (s : State) (w : Fin 3) : List Byte :=
  let b := match s.sec.windowNext[w] with
    | some (_, b) => b
    | none => s.sec.windows[w]
  if b.isEmpty then windowBytes (defaultWindow w) else b

/-- Where in the barn a dictionary block stands, and its size (R307). -/
def barnBlock (s : State) (k : Key) : Option (Nat × Nat) := ((barnBlocks s).find? fun x => x.1 == k).map Prod.snd

/-- Blocks that follow their unit. -/
def blockDerived (s : State) (k : Key) : Option (List Byte) :=
  let idx := k / 256
  let sub := k % 256
  if k = K.vendor then some (asciiBytes [67, 97, 108, 119, 101, 121, 114])
  else if k = K.product then some (asciiBytes [80, 121, 100, 111, 110, 32, 56, 51, 50, 48])
  else if k = K.bellMark then some (leBytes 8 s.bell.number ++ leBytes 8 s.bell.startDev)
  else if 0x2810 ≤ idx && idx ≤ 0x281F && sub = 1 then some (setOrImpulse (s.nat K.spatialMode) (s.block k))
  else if let some (a, n) := barnBlock s k then some (readBarn s a n)
  else if k = K.lastHeader then some (slice 0 256 (match s.bell.lastReleased with
      | some h => headerBytes h
      | none => []))
  else if k = K.harvestNext then some []
  else if k = K.layout then some (layoutBlock s)
  else if k = K.pending then some (leBytes 24 s.ic.pending.toNat)
  else if k = K.counts then some (countBytes s)
  else if k = K.routes then some (routesBlock s)
  else if 0x6040 ≤ idx && idx ≤ 0x6042 && sub = 1 then some (windowRead s (iniOf 0x6040 k))
  else if k = K.dropState then some (dropStateBytes s)
  else if k = K.lastRecord then some (match s.bb.lastSealed with
      | some r => r.bytes
      | none => [])
  else if idx = 0x6880 then some (pageBytes s (64 * (sub - 1)))
  else if idx = 0x6881 then some (pageBytes s (1024 + 64 * (sub - 1)))
  else if k = K.card then some (match newestCard s with
      | some c => c.bytes
      | none => [])
  else if k = K.mbistLog then some (slice 0 1024 (s.bb.bistLog.flatMap CellLog.bytes))
  else if k = K.lastSlice then some (match s.bb.lastSlice with
      | some c => c.bytes
      | none => zeros 16)
  else if k = K.profileDirectory then some (profileDirectory s)
  else if k = K.aerCounts then some (s.host.aer.toList.flatMap (leBytes 4))
  else none

/-- The bytes that a read of a byte block returns, whole. -/
def readBlock (s : State) (k : Key) : List Byte :=
  match blockDerived s k with
  | some b => b
  | none =>
    let b := s.block k
    if b.isEmpty then zeros (blankSize k) else b

/-- The value of an entry as a read returns it (R342). -/
def readVal (s : State) (row : EntryRow) (k : Key) : DVal :=
  if row.ty.isBlock then .bytes (readBlock s k) else if k % 256 = 0 then .num row.dflt else .num (readNum s k)

/-! ### Answers to reads -/

/-- Reads refused in the present state (R130, R253, R268, R444, R483, R484). -/
def readBars (s : State) (i : Initiator) (k : Key) : Bool :=
  let idx := k / 256
  (0x6020 ≤ idx && idx ≤ 0x6022 && idx != 0x6020 + i.val)
    || (k == K.capData && (s.nat K.capState == 1 || s.nat K.capState == 2))
    || (k == K.harvestNext && (harvestNext s).isNone)
    || (k == K.lastProfile && (s.block K.lastProfile).isEmpty)
    || (k == K.lastRecord && s.bb.lastSealed.isNone)
    || (k == K.card && (newestCard s).isNone)

/-- A derived block's GENERATION follows its content: it is brought up to date as a read looks (R346); a change and its undoing between two
reads are not counted (DESIGN CHOICE, log entry 113). -/
def refreshBlock (k : Key) (s : State) : State :=
  if 0x2810 ≤ k / 256 && k / 256 ≤ 0x281F then s
  else match blockDerived s k with
    | some b => s.setBlock k b
    | none => s

/-- OFFSET and LENGTH of a read of a block of `n` bytes fit it (R343, R346): whole up to 4,096 bytes, else in pieces. -/
def pieceOk (n offset length : Nat) : Bool :=
  if n ≤ 4096 then offset == 0 && length == n else decide (0 < length ∧ length ≤ 4096 ∧ offset + length ≤ n)

/-! ### Saved profiles -/

/-- The values of a profile saved now (R356). -/
def profileValues (s : State) : List (Key × DVal) :=
  (profileKeys s).map fun k => (k, match entryOf s k with
    | some row => readVal s row k
    | none => valIn s.dict.store k)

/-- Commit of a profile save (R356). -/
def commitSave (o : StagedOp) (csn : Nat) (s : State) : State :=
  if h : o.arg < 8 then
    let p : Profile := { values := profileValues s, timetableId := activeId s, savedAt := s.clk.devTime, csn }
    { s with dict := { s.dict with profiles := s.dict.profiles.set o.arg (some p) } }
  else s

end Sys2Proof.Machine
end

