-- ==== Sys2Proof/Machine/Accept.lean ====
section
/-!
DEFINITION. Machine/Accept.lean: one request at its turn: a read (R342, R346), a write or a group of writes checked in two passes and
accepted or refused whole (R341, R345, R349), and its answer (R344).
-/

namespace Sys2Proof.Machine

/-! ### Items -/

/-- The key that an item names. -/
def itemKey (it : Item) : Key := it.index.toNat * 256 + it.sub.toNat

/-- The bytes of an answer: 40 of header, then the data (R344). -/
def Answer.bytes (a : Answer) : List Byte :=
  leBytes 1 a.status ++ leBytes 1 a.item ++ zeros 2 ++ leBytes 4 a.tag.toNat ++ leBytes 8 a.csn ++ leBytes 8 a.effectBell
    ++ leBytes 4 a.generation ++ leBytes 4 a.detail ++ leBytes 4 a.data.length ++ zeros 4 ++ a.data

/-- A request breaks R343. -/
def malformed (r : Request) : Bool :=
  let n := r.items.length
  r.broken || n == 0 || decide (32 < n) || (decide (1 < n) && (!r.group || r.items.any fun it => it.op != 2))
    || r.items.any fun it => it.op != 1 && it.op != 2 && it.op != 3

/-- `n` fresh free bytes. -/
def freeBytes : Nat → State → List Byte × State
  | 0, s => ([], s)
  | n + 1, s =>
    let b := BitVec.ofNat 8 (s.free 256)
    let (bs, s) := freeBytes n s.draw
    (b :: bs, s)

/-! ### Reads -/

/-- Size of a byte block that a read must ask for, before the state of its unit is looked at (R343, R345). -/
def statedSize (s : State) (k : Key) : Nat :=
  let i := k / 256
  if 0x6020 ≤ i && i ≤ 0x6022 then 16
  else if k = K.triggerNext then 32
  else if k = K.card then 128
  else if k = K.lastRecord then 64
  else (readBlock s k).length

/-- The block has no content to measure yet. -/
def unformed (s : State) (k : Key) : Bool :=
  (k == K.capData || k == K.harvestNext || k == K.lastProfile) && readBars s 4 k

/-- A byte block that can exceed 4,096 bytes, which is then read in pieces (R346). -/
def pieced (k : Key) : Bool := k == K.capData || k == K.harvestNext || k == K.lastBlock || k == K.lastProfile

/-- A later piece whose block has changed since its first piece was read (R346): with its content its size and its presence may have gone,
so this is judged before them. -/
def pieceChanged (s : State) (k : Key) (it : Item) : Bool :=
  pieced k && it.offset != 0#32 && it.generation.toNat != sparseGet (fun _ => 0) (refreshBlock k s).dict.generations k

/-- A read's own checks (R335, R337, R343, R346): the refusal, or the entry's row. -/
def readChecks (s : State) (i : Initiator) (level : Nat) (it : Item) : Except Refuse EntryRow :=
  let k := itemKey it
  match entryOf s k with
  | none => .error .absent
  | some row =>
    let fits := match row.ty with
      | .dom => unformed s k || pieceOk (statedSize s k) it.offset.toNat it.length.toNat
      | .str => it.offset == 0#32 && (readBlock s k).length ≤ it.length.toNat && it.length.toNat ≤ 64
      | t => it.offset == 0#32 && it.length.toNat == tyBytes t.code
    if !row.access.reads then .error .access
    else if rightOn s row k level == .none then .error .rights
    else if pieceChanged s k it then .error ⟨8, 0, 0, 0⟩
    else if !fits then .error .size
    else if readBars s i k then .error .state
    else .ok row

/-- What a shadow read returns: an RWB entry's value as it would be once every accepted write is in effect (R348). -/
def shadowVal (s : State) (row : EntryRow) (k : Key) : DVal :=
  if row.access = .rwb then
    let m := shadowStore s
    match valIn m k with
    | .bytes b =>
      if 0x2810 ≤ k / 256 && k / 256 ≤ 0x281F then .bytes (setOrImpulse (natIn m K.spatialMode) b)
      else .bytes (if b.isEmpty then zeros (blankSize k) else b)
    | v => v
  else readVal s row k

/-- What a read does beside answering: TRIGGER_NEXT removes the oldest record (R259), NONCE issues a new one (R442). -/
def readEffect (k : Key) (s : State) : List Byte × State :=
  let idx := k / 256
  if k = K.triggerNext then
    match s.detect.queue with
    | r :: rest => (triggerBytes r, { s with detect := { s.detect with queue := rest } })
    | [] => (List.replicate 32 0xFF, s)
  else if 0x6020 ≤ idx && idx ≤ 0x6022 && k % 256 = 1 then
    let (b, s) := freeBytes 16 s
    (b, { s with sec := { s.sec with nonces := s.sec.nonces.set (iniOf 0x6020 k) (some b) } })
  else (readBlock s k, s)

/-- The refused answer. -/
def refusedAnswer (r : Refuse) (item : Nat) : Answer := { status := r.status, item, detail := r.detail }

/-- Bytes `o` to `o` + `n` of a block that stands in the barn hold an uncorrectable word: the read answers "data error" (R321). -/
def readsMarked (s : State) (k : Key) (o n : Nat) : Bool :=
  match barnBlock s k with
  | some (a, _) => (List.range n).any fun i => barnBad 11 s (a + o + i)
  | none => false

/-- A read or shadow read at its turn. -/
def serveRead (i : Initiator) (level : Nat) (it : Item) (s : State) : State × Answer × Option Refuse :=
  let k := itemKey it
  match readChecks s i level it with
  | .error r => (s, refusedAnswer r 0, some r)
  | .ok row =>
    let csn := s.nat K.csnLast
    if row.ty.isBlock && it.op = 3 && row.access = .rwb then
      match shadowVal s row k with
      | .bytes b =>
        (s, { csn, generation := sparseGet (fun _ => 0) s.dict.generations k, data := slice it.offset.toNat it.length.toNat b }, none)
      | .num _ => (s, { csn }, none)
    else if row.ty.isBlock then
      -- a block that stands in the barn is read there: the read cancels or ends self-refresh (R327)
      let s := if (barnBlock s k).isSome then (wakeBarn 11 s).2 else s
      let (b, s') := readEffect k s
      let s' := refreshBlock k s'
      let g := sparseGet (fun _ => 0) s'.dict.generations k
      let o := it.offset.toNat
      let n := if row.ty = .str then b.length else it.length.toNat
      if o ≠ 0 && it.generation.toNat ≠ g then (s', refusedAnswer ⟨8, 0, 0, 0⟩ 0, some ⟨8, 0, 0, 0⟩)
      else if readsMarked s' k o n then
        (match barnBlock s' k with
          | some (a, _) => readMarks 11 (a + o) n s'
          | none => s', refusedAnswer ⟨10, 0, 0, 0⟩ 0, some ⟨10, 0, 0, 0⟩)
      else (s', { csn, generation := if row.ty = .dom then g else 0, data := slice o n b }, none)
    else
      let v := if it.op = 3 then shadowVal s row k else readVal s row k
      (s, { csn, data := encodeVal row.ty v }, none)

/-! ### Writes -/

/-- A write item whose own checks have passed. -/
structure Put where
  key : Key
  row : EntryRow
  offset : Nat
  val : DVal
  deriving DecidableEq, Repr

/-- The row and value of an item. -/
def putOf (s : State) (it : Item) : Option Put :=
  (entryOf s (itemKey it)).map fun row => { key := itemKey it, row, offset := it.offset.toNat, val := entryVal row.ty (itemKey it) it.data }

/-- The first item that fails one of its own checks (R349, pass 1); in a group a byte block is written whole. -/
def firstFailing (level : Nat) (items : List Item) (s : State) : Option (Nat × Refuse) :=
  let grouped := decide (1 < items.length)
  (List.range items.length).findSome? fun j =>
    match items[j]? with
    | some it =>
      match checkWrite s level (itemKey it) it.offset.toNat it.data with
      | some r => some (j, r)
      | none => if grouped && itemKey it == K.ttImage then some (j, Refuse.size) else none
    | none => none

/-- Bytes of data in a request. -/
def dataTotal (items : List Item) : Nat := items.foldl (fun t it => t + it.data.length) 0

/-- The values that RW and RWB items leave in the shadow. -/
def shadowPuts (puts : List Put) : List (Key × DVal) :=
  (puts.filter fun p => p.row.access != .wo && p.key != K.ttImage).map fun p => (p.key, p.val)

/-- The operation kinds that run, and one more. -/
def alsoRuns (kind : Nat) (s : State) : State :=
  let s := s.setNum K.opsRunning (bitsOf (fun j => j + 1 == kind || bitOf (s.nat K.opsRunning) j) 8 : Nat)
  if kind = 1 then s.setNum K.ttLoadState 1 else s

/-- What a write-only item leaves that the checks of other items look at (R349): a key programmed or revoked, an advance pending, an operation
that runs, a capture armed, a self-calibration under way, a harvest released, an attempt made. -/
def startForward (k : Key) (v : DVal) (s : State) : State :=
  match v with
  | .num x =>
    if k = K.keyRevoke then { s with sec := { s.sec with revoked := s.sec.revoked ||| (1#4 <<< x.toNat) } }
    else if k = K.lifecycleAdvance then s.setNum K.lifecyclePending x
    else if k = K.harvestRelease then releaseHarvests x.toNat s
    else if x ≠ 1 then s
    else if k = K.ttLoad then alsoRuns 1 s
    else if k = K.capArm then s.setNum K.capState 1
    else if k = K.hkCalRun then s.setNum K.hkCalState 1
    else s
  | .bytes b =>
    if k = K.keyProgram then
      (if h : fieldAt 0 1 b < 6 then { s with sec := { s.sec with keys := s.sec.keys.set (fieldAt 0 1 b) (some (slice 8 32 b)) } } else s)
    else if k = K.opStart then alsoRuns (fieldAt 0 1 b) s
    else if 0x6020 ≤ k / 256 && k / 256 ≤ 0x6022 then
      { s with sec := { s.sec with nonces := s.sec.nonces.set (iniOf 0x6020 k) none } }
    else s

/-- The state as an accepted item leaves it for the checks of the others (R349): its value in place, the generator armed, the written
device time due. What its entry's effect does beside is no check's concern. -/
def putForward (p : Put) (s : State) : State :=
  if p.row.access == .wo then startForward p.key p.val s
  else if p.row.access != .rw then s
  else if p.key = K.powerRequest then
    (match p.val with
     | .num x => { (s.setNum p.key x).setNum K.powerState 3 with
                   power := { s.power with transition := some (s.nat K.powerState, x.toNat, s.clk.now) } }
     | .bytes _ => s)
  else if p.key = K.debugRequest then
    (match p.val with
     | .num x => (s.setNum p.key x).setNum K.debugState x
     | .bytes _ => s)
  else if p.key = K.bellRun then (if p.val == .num 1 && s.stopped then (s.setNum K.bellRun 1).setNum K.bellState 1 else s)
  else match p.val with
    | .num x => if p.key = K.deviceTime then { s with clk := { s.clk with devNext := some x.toNat } } else s.setNum p.key x
    | .bytes b => if p.key = K.ttImage then s else s.setBlock p.key b

/-- What refuses item `j` of a request in the state that the rest of the request leaves (R349); a request of one item, in the present
state. -/
def itemBars (i : Initiator) (puts : List Put) (j : Nat) (s : State) : Option Refuse :=
  match puts[j]? with
  | some p =>
    let s := (puts.eraseIdx j).foldl (fun (s : State) (q : Put) => putForward q s) s
    match stateBars s i p.key p.val with
    | some r => some r
    | none => match p.key == K.opAbort, p.val with
      | true, .num x => abortBars s x.toNat
      | _, _ => none
  | none => none

/-- Place of a refusal in the order of R345: the start of an operation that runs, a code in a refusal entry, the entry's own limits,
every other case. -/
def Refuse.rank (r : Refuse) : Nat := if r.status = 9 then 0 else if r.status = 7 then 1 else if r.status = 5 then 2 else 3

/-- The refusal that comes first by R345; of one rank, the first found. -/
def firstByRank : List Refuse → Option Refuse
  | [] => none
  | r :: rs => match firstByRank rs with
    | some q => if q.rank < r.rank then some q else some r
    | none => some r

/-- Pass 2 of R349: the refusal that the request meets as a whole. -/
def wholeBars (i : Initiator) (s : State) (puts : List Put) : Option Refuse :=
  let m0 := shadowStore s
  firstByRank (((List.range puts.length).filterMap fun j => itemBars i puts j s)
    ++ (crossBars s (puts.map Put.key) m0 (putAll m0 (shadowPuts puts))).toList)

/-- A request's writes are refused: the item, and why. `limit` is R349's bound on the data of a group. -/
def writeBars (i : Initiator) (level : Nat) (items : List Item) (limit : Bool) (s : State) : Option (Nat × Refuse) :=
  let whole := if 1 < items.length then 0xFF else 0
  -- Scan refuses every write (R450)
  if inScan s then some (whole, Refuse.state)
  else match firstFailing level items s with
  | some (j, r) => some (j, r)
  | none =>
    if limit && decide (1 < items.length) && decide (16384 < dataTotal items) then some (0xFF, Refuse.size)
    else (wholeBars i s (items.filterMap (putOf s))).map fun r => (whole, r)

/-- The refusal entries that a refusal writes (R345). -/
def storeRefusal (r : Refuse) (s : State) : State :=
  let s := if r.exc ≠ 0 then s.setNum K.excRefusal r.exc else s
  let s := if r.fit ≠ 0 then s.setNum K.fitCode r.fit else s
  if r.detect ≠ 0 then s.setNum K.detectRefusal r.detect else s

/-- An initiator of a session. -/
def sessionIni (i : Initiator) : Option (Fin 3) := if h : i.val < 3 then some ⟨i.val, h⟩ else none

/-- A SESSION_OPEN of the initiator's own that its present state refuses is an attempt (R442, R444): it uses up N_d. -/
def noteAttempt (i : Initiator) (puts : List Put) (s : State) : State :=
  match sessionIni i with
  | some d =>
    let tried := (List.range puts.length).any fun j =>
      (puts.map Put.key)[j]? == some (K.sessionOpen d) && (itemBars i puts j s).isSome
    if tried && !inScan s && s.power.shutdownAt.isNone then
      if lockedOut s d then { s with sec := { s.sec with nonces := s.sec.nonces.set d none } } else failSession d s
    else s
  | none => s

/-- A geometry or slot that you write while a coarsening is chosen and not yet in effect, or at level 5, replaces the one the policy would
restore (R423, R430; DESIGN CHOICE, log entry 120). -/
def yoursAgain (i : Initiator) (puts : List Put) (s : State) : State :=
  if i.val ≤ 3 && s.policy.coarseFrom.isSome && puts.any (fun p =>
      p.key == K.spatialMode || p.key == K.phasePoints || p.key == K.gaugeSpacings || p.key == K.ttActiveSlot) then
    { s with policy := { s.policy with coarseFrom := none, levelNext := none } }
  else s

/-- The RWB items of a request enter the shadow under its CSN (R348). -/
def enterShadow (csn : Nat) (puts : List Put) (s : State) : State :=
  let vs := (puts.filter fun p => p.row.access == .rwb).map fun p => (p.key, p.val)
  if vs.isEmpty then csnInEffect csn s
  else { s with dict := { s.dict with shadow := s.dict.shadow ++ [{ csn, at_ := s.clk.now, values := vs }] } }

/-- A put starts a staged operation. -/
def startsOp (p : Put) : Bool := p.key == K.opStart || (p.key == K.ttLoad && p.val == .num 1)

/-- A put whose effect at its turn looks at other entries: a write-only entry starts something, and BELL_RUN arms the generator. -/
def Put.starts (p : Put) : Bool := p.row.access == .wo || p.key == K.bellRun

/-- The puts of a request in the order in which the model carries them out within their one turn: first those that only give an entry its
value, then those that start something under the values so left (DEDUCED from R349's one turn, log entry 99). -/
def turnOrder (puts : List Put) : List Put := puts.filter (!·.starts) ++ puts.filter (·.starts)

/-- An accepted request takes effect at its turn (R341, R348, R349, R351); EFFECT_BELL is that of the generator as the request leaves it
(R505). -/
def acceptPuts (i : Initiator) (level : Nat) (stuck : BitVec 2) (puts : List Put) (s : State) : State × Answer :=
  let action := puts.all fun p => isAction p.key
  let csn := if action then 0 else s.nat K.csnLast + 1
  let slotChange := puts.any fun p => p.key == K.ttActiveSlot && p.val != valIn (shadowStore s) K.ttActiveSlot
  let s := if action then s else yoursAgain i puts (enterShadow csn puts (s.setNum K.csnLast (csn : Nat)))
  let s := (turnOrder puts).foldl (fun (s : State) (p : Put) =>
    if p.row.access == .rwb then s else writeEffect i level stuck p.key p.offset p.val s) s
  let bell := if puts.any fun p => p.row.access == .rwb then effectBell slotChange s else 0xFFFFFFFFFFFFFFFF
  (s, { csn, effectBell := bell, detail := if puts.any startsOp then s.nat K.opLastId else 0 })

/-- A write or group at its turn. -/
def serveWrites (i : Initiator) (level : Nat) (stuck : BitVec 2) (items : List Item) (limit : Bool) (s : State) :
    State × Answer × Option (Nat × Refuse) :=
  match writeBars i level items limit s with
  | some (j, r) =>
    let s' := if (firstFailing level items s).isNone && r.status != 4 then noteAttempt i (items.filterMap (putOf s)) s else s
    (storeRefusal r s', refusedAnswer r (if 1 < items.length then j else 0), some (j, r))
  | none =>
    let (s, a) := acceptPuts i level stuck (items.filterMap (putOf s)) s
    (s, a, none)

/-- REFUSALS and LAST_REFUSAL (R358): the index of a refusal of the group as a whole is not stated; it is free. -/
def noteRefusal (i : Initiator) (it : Option Item) (whole : Bool) (a : Answer) (s : State) : State :=
  let s := s.inc K.refusals
  let (idx, sub, s) := match it with
    | some it => (it.index.toNat, it.sub.toNat, s)
    | none => if whole then (s.free 65536, s.draw.free 256, s.draw.draw) else (0, 0, s)
  s.setBlock K.lastRefusal (leBytes 8 s.clk.devTime ++ leBytes 2 idx ++ leBytes 1 sub ++ leBytes 1 a.status ++ leBytes 1 i.val
    ++ leBytes 1 (a.detail % 256) ++ zeros 2 ++ leBytes 8 (s.nat K.csnLast))

/-- A request at its turn (R338, R342, R349): the state after it, and its answer. -/
def serveRequest (i : Initiator) (stuck : BitVec 2) (req : Request) (s : State) : State × Answer :=
  let level := levelOf' s i
  let (s, a) :=
    if malformed req then
      let a := refusedAnswer .malformed 0
      (noteRefusal i none false a s, a)
    else match req.items with
      | it :: rest =>
        if it.op ≠ 2 then
          let (s, a, r) := serveRead i level it s
          (if r.isSome then noteRefusal i (some it) false a s else s, a)
        else
          let (s, a, r) := serveWrites i level stuck (it :: rest) true s
          match r with
          | some (j, _) => (noteRefusal i ((it :: rest)[j]?) (j == 0xFF) a s, a)
          | none => (s, a)
      | [] => (s, refusedAnswer .malformed 0)
  let s := match sessionIni i with
    | some d => { s with sec := { s.sec with lastRequest := s.sec.lastRequest.set d s.clk.now } }
    | none => s
  (s.incWrap 64 K.requestsServed, { a with tag := req.tag })

/-- A write item of a value for entry `k`. -/
def itemOf (s : State) (k : Key) (v : DVal) : Item :=
  let ty := match entryOf s k with
    | some row => row.ty
    | none => .u8
  let data := encodeVal ty v
  { index := BitVec.ofNat 16 (k / 256), sub := BitVec.ofNat 8 (k % 256), op := 2, length := BitVec.ofNat 32 data.length, data }

/-- The staged values of a profile, serialised as one group without a bound on its items at the level of the request that started the
apply (R356). The refusal, if they are refused. -/
def ownWrites (i : Initiator) (level : Nat) (values : List (Key × DVal)) (s : State) : State × Option Refuse :=
  let (s, _, r) := serveWrites i level 0 (values.map fun e => itemOf s e.1 e.2) false s
  (s, r.map (·.2))

/-- A request of the control core's own, a write or a group (R336, R422, R491), counted as every request is (R358). -/
def ownRequest (values : List (Key × DVal)) (s : State) : State × Option Refuse :=
  let items := values.map fun e => itemOf s e.1 e.2
  let (s, a, r) := serveWrites 4 0 0 items false s
  let s := match r with
    | some (j, _) => noteRefusal 4 items[j]? (j == 0xFF) a s
    | none => s
  (s.incWrap 64 K.requestsServed, r.map (·.2))

end Sys2Proof.Machine
end

