-- ==== Sys2Proof/Machine/Turns.lean ====
section
/-!
DEFINITION. Machine/Turns.lean: requests as bytes (R343), and whose turn it is at the serialiser (R338 to R340).
-/

namespace Sys2Proof.Machine

/-! ### Requests as bytes (R343) -/

/-- The item at the start of `b`, and the bytes it takes; its data follow its header if it is a write. -/
def parseItem (b : List Byte) : Item × Nat :=
  let op := fieldAt 3 1 b
  let len := fieldAt 8 4 b
  let it : Item := { index := BitVec.ofNat 16 (fieldAt 0 2 b), sub := BitVec.ofNat 8 (fieldAt 2 1 b), op := BitVec.ofNat 8 op,
                     offset := BitVec.ofNat 32 (fieldAt 4 4 b), length := BitVec.ofNat 32 len,
                     generation := BitVec.ofNat 32 (fieldAt 12 4 b),
                     data := if op = 2 then (b.drop 16).take len else [] }
  (it, 16 + (if op = 2 then ceilTo 8 len else 0))

/-- `n` items from `b`; none if they run past its end. -/
def parseItems : Nat → List Byte → Option (List Item)
  | 0, _ => some []
  | n + 1, b =>
    let (it, k) := parseItem b
    if b.length < 16 || b.length < k then none else (parseItems n (b.drop k)).map (it :: ·)

/-- The request that bytes spell (R343); reserved bytes are ignored (R7). -/
def parseRequest (b : List Byte) : Request :=
  let n := fieldAt 0 1 b
  let group := bitOf (fieldAt 1 1 b) 0
  let tag := BitVec.ofNat 32 (fieldAt 4 4 b)
  if b.length < 8 || n = 0 || 32 < n then { group, tag, items := [], broken := true }
  else match parseItems n (b.drop 8) with
    | some items => { group, tag, items }
    | none => { group, tag, items := [], broken := true }

/-! ### Turns (R338 to R340) -/

/-- A request is expedited: one item on a scalar entry (R340). -/
def expedited (s : State) (r : Request) : Bool :=
  match r.items with
  | [it] => !malformed r && match entryOf s (itemKey it) with
    | some row => !row.ty.isBlock
    | none => false
  | _ => false

/-- The serialiser runs: not in reset, Hold or Off (R338). -/
def serialiserRuns (s : State) : Bool := !s.power.hold && !s.power.off && !s.power.inReset

/-- A port's mailbox request that has not been answered (R370). -/
def mailRequest (s : State) (p : Fin 2) : Option Request :=
  let m := s.node.ports[p].mailbox
  if m.presented && m.answer.isNone then some (parseRequest m.bytes) else none

/-- Who has a turn. -/
inductive Turn where
  /-- The request in an initiator's place. -/
  | place (i : Initiator)
  /-- The mailbox request of a ring port. -/
  | mail (p : Fin 2)
  /-- A report of a staged-operation step. -/
  | report
  deriving DecidableEq, Repr

/-- The initiator of ring port `p`. -/
def portIni (p : Fin 2) : Initiator := ⟨p.val, by omega⟩

/-- A ring port's expedited request: its turn and its arrival. A mailbox request waits for the port's place (R338, R370). -/
def ringWaiting (s : State) (p : Fin 2) : Option (Turn × Nat) :=
  match s.dict.waiting[portIni p] with
  | some w => if expedited s w.req then some (.place (portIni p), w.arrived) else none
  | none => match mailRequest s p with
    | some r => if expedited s r then some (.mail p, s.node.ports[p].mailbox.at_) else none
    | none => none

/-- The ring's expedited request that goes first: the earlier arrival, port A on a tie. -/
def ringTurn (s : State) : Option Turn :=
  match ringWaiting s 0, ringWaiting s 1 with
  | some (a, t), some (b, u) => some (if t ≤ u then a else b)
  | some (a, _), none => some a
  | none, b => b.map Prod.fst

/-- Initiators from the one after `last`, cyclically, among `n`. -/
def robin (last n : Nat) : List Nat := (List.range n).map fun k => (last + 1 + k) % n

/-- The first of initiators 2 to 4, in round robin, with an expedited request for which `p` holds. -/
def localTurn (p : Waiting → Bool) (s : State) : Option Turn :=
  ((robin s.dict.lastExpedited 5).filterMap fun k =>
    match s.dict.waiting.toList.getD k none with
    | some w => if 2 ≤ k && (k != 4 || s.cores.controlAlive) && expedited s w.req && p w then some (Turn.place ⟨k % 5, Nat.mod_lt _ (by decide)⟩) else none
    | none => none).head?

/-- A report waits, and the firmware that takes it runs (R494). -/
def reportWaits (s : State) : Bool := s.cores.controlAlive && (runningOps s).any fun o => o.reportReady

/-- Initiator `k`'s deferred request; 5 stands for the reports. -/
def deferredTurn (s : State) (k : Nat) : Option Turn :=
  if k = 5 then (if reportWaits s then some .report else none)
  else
    let i : Initiator := ⟨k % 5, Nat.mod_lt _ (by decide)⟩
    match s.dict.waiting[i] with
    | some w => if expedited s w.req then mailTurn i else if k = 4 && !s.cores.controlAlive then none else some (.place i)
    | none => mailTurn i
where
  /-- A deferred mailbox request does not occupy the port's place (R370). -/
  mailTurn (i : Initiator) : Option Turn :=
    if h : i.val < 2 then
      let p : Fin 2 := ⟨i.val, h⟩
      match mailRequest s p with
      | some r => if expedited s r then none else some (.mail p)
      | none => none
    else none

/-- What the serialiser starts next (R339). -/
def serialTurn (s : State) : Option Turn :=
  if !serialiserRuns s then none
  else match localTurn (fun w => 2 ≤ w.ringTurns) s with
    | some t => if (ringTurn s).isSome then some t else (localTurn (fun _ => true) s)
    | none => match ringTurn s with
      | some t => some t
      | none => match localTurn (fun _ => true) s with
        | some t => some t
        | none => ((robin s.dict.lastDeferred 6).filterMap (deferredTurn s)).head?

/-! ### The control core's own writes (R336, R422) -/

/-- The request that writes `values`. -/
def ownWriting (values : List (Key × DVal)) (s : State) : Waiting :=
  { req := { group := decide (1 < values.length), tag := 0, items := values.map fun e => itemOf s e.1 e.2 },
    arrived := s.clk.now, replyTo := .own }

/-- Initiator 4 has no request waiting, its firmware runs, and a request of it that writes `values` would have the next turn (R338, R339,
R494). -/
def ownTurn (values : List (Key × DVal)) (s : State) : Bool :=
  s.cores.controlAlive && s.policy.jobs.isEmpty && (s.dict.waiting[4]).isNone
    && serialTurn { s with dict := { s.dict with waiting := s.dict.waiting.set 4 (some (ownWriting values s)) } } == some (.place 4)

/-- A decision that writes `values` waits for its turn: its request is presented, or stands behind the one that is (R338). -/
def presentOwn (j : OwnJob) (values : List (Key × DVal)) (s : State) : State :=
  let w := if (s.dict.waiting[4]).isNone && !values.isEmpty then some (ownWriting values s) else s.dict.waiting[4]
  { s with policy := { s.policy with jobs := s.policy.jobs ++ [j] }, dict := { s.dict with waiting := s.dict.waiting.set 4 w } }

/-- A decision `f` is made: at once if it writes nothing or its write has the next turn, else when its turn comes. The firmware must run,
but for the response to an engine's loss that was prepared (R422, R494). -/
def ownAct (j : OwnJob) (values : List (Key × DVal)) (f : State → State) (s : State) : State :=
  if (values.isEmpty && (s.cores.controlAlive || j == .choice 6)) || ownTurn values s then f s else presentOwn j values s

end Sys2Proof.Machine
end

