-- ==== Sys2Proof/Machine/Policy.lean ====
section
/-!
DEFINITION. Machine/Policy.lean: the policy on the control core (R422 to R434): its decisions and their records, the measurement
decisions, line loss, the thermal causes, the ladder and the level in effect; an engine's failure as it is declared (R165, R169).
-/

namespace Sys2Proof.Machine

/-! ### Decisions -/

/-- One decision (R422): counted, stored, interrupt 56, one record. `what` is the line, band or kind where one applies and `value`
the value written where there is one; where there is none, the manual gives those bytes no value: they are free. -/
def decideAs (code level : Nat) (what : Option Nat) (csn : Nat) (value : Option Nat) (s : State) : State :=
  let s := s.inc K.decisionCount
  let w := what.getD (s.free 256)
  let v := value.getD (s.draw.free (2 ^ 32))
  let s := s.draw.draw
  let b := leBytes 8 s.clk.devTime ++ leBytes 8 s.bell.number ++ leBytes 1 code ++ leBytes 1 level ++ leBytes 1 w ++ zeros 1
    ++ leBytes 8 csn ++ leBytes 4 v
  record 5 0x7800 0x0B01 (b.take 28) (raise 56 (s.setBlock K.lastDecision b))

/-- A write or group that the policy makes (R422): whether it is accepted, and its CSN, 0 if there is none. -/
def policyWrites (values : List (Key × DVal)) (s : State) : State × Bool × Nat :=
  if values.isEmpty then (s, true, 0)
  else
    let (s, r) := ownRequest values s
    if r.isSome then (s, false, 0) else (s, true, s.nat K.csnLast)

/-- The level of a decision that chooses none. -/
def levelNow (s : State) : Nat := s.nat K.levelInEffect

/-! ### Launch power (R424) -/

/-- The new LINE_SET of line `l` after a full window. -/
def newLineSet (l : Nat) (s : State) : Nat :=
  let set := s.nat (K.lineSet l)
  let step := s.nat K.powerStep
  let up := min (s.nat K.powerSetMax) (set + step)
  let down := max (s.nat K.powerSetMin) (set - step)
  let sum := s.policy.powerSum * 8
  let target := s.nat K.powerTarget * (256 * s.policy.powerDen)
  if s.nat K.clipLimit ≤ s.policy.powerClipped then down
  else if sum < target * 7 then up
  else if target * 9 < sum then down
  else set

/-- An evaluation of the launch power; while another request has the next turn, it waits (R339). -/
def evaluatePower (s : State) : State :=
  let l := s.nat K.powerLine
  let new := newLineSet l s
  if new = s.nat (K.lineSet l) then restartPower s
  else if !ownTurn [(K.lineSet l, .num new)] s then s
  else
    let s := restartPower s
    let (s, _, csn) := policyWrites [(K.lineSet l, .num new)] s
    decideAs 1 (levelNow s) (some l) csn (some new) s

/-! ### Band weights (R425) and lost lines (R427) -/

/-- Bands that the policy has dropped with their lines, in Diverse mode. -/
def droppedBands (s : State) : List Nat :=
  if s.nat K.spatialMode = 2 then
    (List.range 4).filter fun b => (List.range 8).any fun l =>
      s.policy.disabled.getLsbD l && bitOf (s.nat K.lineBands) (8 * l + b)
  else []

/-- Weight of band `b` from the sums of the period; with every sum 0 the quotient is not defined: `d` stands for it. -/
def weightOf (s : State) (dropped : List Nat) (d : Nat) (b : Fin 4) : Nat :=
  let sum (b : Nat) : Nat := if dropped.contains b then 0 else s.policy.weightSums.toList.getD b 0
  let total := sum 0 ^ 2 + sum 1 ^ 2 + sum 2 ^ 2 + sum 3 ^ 2
  if dropped.contains b.val then 0
  else max (s.nat K.weightMin)
    (if total = 0 then d else (roundDiv (32768 * sum b ^ 2 : Nat) total).toNat)

/-- The four weights of an evaluation, from free quotients where the manual defines none. -/
def newWeights (s : State) : List Nat × State :=
  let dropped := droppedBands s
  let w (b : Fin 4) (s : State) : Nat := weightOf s dropped (s.free 32769) b
  let s1 := s.draw
  let s2 := s1.draw
  let s3 := s2.draw
  ([w 0 s, w 1 s1, w 2 s2, w 3 s3], s3.draw)

/-- The group that sets the four weights. -/
def weightPuts (ws : List Nat) : List (Key × DVal) :=
  (List.range 4).map fun b => (K.bandWeight b, .num (ws.getD b 0 : Nat))

/-- The weight period starts afresh. -/
def restartWeights (s : State) : State :=
  { s with policy := { s.policy with weightBells := 0, weightSums := Vector.replicate 4 0 } }

/-- An evaluation of the band weights; while another request has the next turn, it waits (R339). -/
def evaluateWeights (s₀ : State) : State :=
  let (ws, s) := newWeights s₀
  let s := restartWeights s
  let far := (List.range 4).any fun b =>
    let old := s.nat (K.bandWeight b)
    let new := ws.getD b 0
    decide (512 ≤ max old new - min old new)
  if far then
    if !ownTurn (weightPuts ws) s₀ then s₀ else
    let (s, _, csn) := policyWrites (weightPuts ws) s
    decideAs 2 (levelNow s) none csn none s
  else s

/-! ### Pattern choice (R426) -/

/-- Candidate `i` of PATTERN_CANDIDATES. -/
def candidate (s : State) (i : Nat) : Nat := s.nat K.patternCandidates / 256 ^ (i % 4) % 256

/-- The candidates after the pattern in effect, in byte order and cyclically; none if it is no candidate. -/
def nextCandidates (s : State) : Option (List Nat) :=
  let p := s.nat K.patternInEffect
  ((List.range 4).find? fun i => candidate s i == p).map fun i =>
    ((List.range 3).map fun j => candidate s (i + 1 + j)).filter fun c => c != 255

/-- Try candidates in turn until one is accepted: it, and the CSN of its write. -/
def tryCandidates : List Nat → State → State × Option (Nat × Nat)
  | [], s => (s, none)
  | c :: cs, s =>
    let (s, ok, csn) := policyWrites [(K.seqEntry 0, .num c)] s
    if ok then (s, some (c, csn)) else tryCandidates cs s

/-- An evaluation of the faded fraction; while another request has the next turn, its write waits (R339). -/
def evaluateFade (s₀ : State) : State :=
  let s := s₀
  let high := decide ((s.nat K.fadeLimit * 256 : Nat) < s.policy.fadeSum * 1000)
  let s := { s with policy := { s.policy with
    fadeBells := 0, fadeSum := 0, fadeRun := if high then s.policy.fadeRun + 1 else 0 } }
  let rested := match s.policy.sincePattern with
    | some n => decide (s.nat K.patternDwell ≤ n)
    | none => true
  match nextCandidates s with
  | some cs =>
    if s.nat K.fadeEvals ≤ s.policy.fadeRun && rested then
      if !(cs.take 1).all fun c => ownTurn [(K.seqEntry 0, .num (c : Nat))] s₀ then s₀ else
      match tryCandidates cs s with
      | (s, some (c, csn)) =>
        decideAs 3 (levelNow s) none csn (some c) { s with policy := { s.policy with sincePattern := some 0 } }
      | (s, none) => decideAs 3 (levelNow s) none 0 none s
    else s
  | none => s

/-! ### The level in effect (R434) -/

/-- The level becomes `v`; a change raises source 55. -/
def setLevel (v : Nat) (s : State) : State :=
  if s.nat K.levelInEffect = v then s else raise 55 (s.setNum K.levelInEffect v)

/-- The level of the option in effect. -/
def levelOfOption (s : State) : Nat := optLevel s (activeImage s) (optInEffect s)

/-- A chosen level whose bell this is comes into effect: the bell of its switch, at least 1.000 µs after the decision (R224), or for spare
mapping the first that starts after that instant (R434). A switch that took effect without the ladder (an activation, a forced
variant) brings its own level (R430); `switches` is SWITCH_COUNT before. -/
def levelBell (switches : Nat) (s : State) : State :=
  if s.nat K.levelInEffect = 5 then s
  else match s.policy.levelNext with
    | some (v, t) =>
      if t + 1000 + b2n (v == 1) ≤ s.clk.now && s.tt.decided.isNone && !s.dict.shadow.any (heldBySwitch s) then
        setLevel v { s with policy := { s.policy with levelNext := none } }
      else s
    | none => if s.nat K.switchCount = switches then s else setLevel (levelOfOption s) s

/-- The same with bells stopped, once every write has taken effect; level 1 waits for the bell of R434. -/
def levelStopped (switches : Nat) (s : State) : State :=
  if s.nat K.levelInEffect = 5 || !s.stopped || !s.dict.shadow.isEmpty || s.tt.decided.isSome then s
  else match s.policy.levelNext with
    | some (v, _) =>
      if v = 1 then s else setLevel v { s with policy := { s.policy with levelNext := none } }
    | none => if s.nat K.switchCount = switches then s else setLevel (levelOfOption s) s

/-! ### The ladder (R430, R431, R433) -/

/-- The writes that lead from the settings `m` to the settings `t` of an option: geometry and slot in one group, and the bell
period. -/
def geometryPuts (m t : Sparse DVal) : List (Key × DVal) :=
  let ks := [K.spatialMode, K.phasePoints, K.gaugeSpacings, K.ttActiveSlot]
  if ks.any fun k => valIn m k != valIn t k then ks.map fun k => (k, valIn t k) else []

/-- The write of a doubled, or no longer doubled, bell period. -/
def periodPuts (m t : Sparse DVal) : List (Key × DVal) :=
  if valIn m K.bellPeriod == valIn t K.bellPeriod then [] else [(K.bellPeriod, valIn t K.bellPeriod)]

/-- What the policy holds of your settings once option `o` is chosen. -/
def holdYours (o : Opt) (m : Sparse DVal) (s : State) : State :=
  let yours := yourStore s m
  { s with policy := { s.policy with
    doubledFrom := if o.doubled then some (natIn yours K.bellPeriod) else none,
    coarseFrom := if o.coarse then
        some (natIn yours K.spatialMode, natIn yours K.phasePoints, natIn yours K.gaugeSpacings, natIn yours K.ttActiveSlot)
      else none } }

/-- The variant of a chosen option: spare mapping at once where the array runs the full lesson, else a switch under R224. Where the option
moves to the other slot, its kind is the one that slot starts in, whether or not it is the kind in effect (R431). -/
def chooseKind (o : Opt) (moved : Bool) (s : State) : State :=
  if moved then askSwitch none (some o.kind) s.clk.now s
  else match o.kind, lostEngines s, s.array.kind with
  | 1, [e], some k =>
    if k ≤ 1 && !(s.array.engines.toList.any Engine.appendix) && s.array.spareAt.isNone then
      { s with array := { s.array with spareAt := some (⟨e % 32, Nat.mod_lt _ (by decide)⟩, s.clk.now + 1000) } }
    else if s.nat K.variantInEffect = 1 || 1 < k then askSwitch none (some 1) s.clk.now s
    else s
  | k, _, _ =>
    if k = s.nat K.variantInEffect && s.tt.decided.isNone then s else askSwitch none (some k) s.clk.now s

/-- With bells stopped a decided switch takes effect at once (R224). -/
def settleStopped (switches : Nat) (s : State) : State :=
  if s.stopped then
    levelStopped switches (if s.dict.shadow.isEmpty then takeDecision none s else s)
  else s

/-- Option `o` is put into effect: the state, the CSN of its last write, and the value written where one single value is. -/
def putOption (o : Opt) (s : State) : State × Nat × Option Nat :=
  let m := shadowStore s
  match optStore s m o with
  | some t =>
    let level := levelOn s m o
    let (s, ok1, c1) := policyWrites (geometryPuts m t) s
    let (s, ok2, c2) := if ok1 then policyWrites (periodPuts m t) s else (s, false, 0)
    if ok1 && ok2 then
      let switches := s.nat K.switchCount
      let s := chooseKind o (!(geometryPuts m t).isEmpty) (holdYours o m s)
      let s := { s with policy := { s.policy with levelNext := some (level, s.clk.now) } }
      let value := if c1 = 0 && c2 ≠ 0 then some (natIn t K.bellPeriod) else none
      (settleStopped switches s, max c1 c2, value)
    else (s, c1, none)
  | none => (s, 0, none)

/-- Level 5 entered by the policy (R433). -/
def enterQuiet (code : Nat) (s : State) : State :=
  let (s, _, csn) := policyWrites [(K.bellRun, .num 0), (K.driveEnable, .num 0)] s
  let s := if s.nat K.powerState ≤ 1 then s.setNum K.powerState 4 else s
  decideAs code 5 none csn none (setLevel 5 { s with policy := { s.policy with levelNext := none } })

/-- The first write or group that the choice of R431 makes, if it makes one. -/
def choicePuts (s : State) : List (Key × DVal) :=
  let m := shadowStore s
  match chooseOpt s m with
  | some o => match optStore s m o with
    | some t => if (geometryPuts m t).isEmpty then periodPuts m t else geometryPuts m t
    | none => []
  | none => if (causeStands s 3 || causeStands s 4) && bitOf (s.nat K.levelAllow) 5 then [(K.bellRun, .num 0), (K.driveEnable, .num 0)] else []

/-- The choice of R431 at its turn; decision `code`. -/
def reselectNow (code : Nat) (s : State) : State :=
  match chooseOpt s (shadowStore s) with
  | some o =>
    let s := setCause 5 false s
    let level := levelOn s (shadowStore s) o
    let (s, csn, value) := putOption o s
    decideAs code level (some o.kind) csn value s
  | none =>
    if (causeStands s 3 || causeStands s 4) && bitOf (s.nat K.levelAllow) 5 then enterQuiet code s
    else decideAs 9 (levelNow s) none 0 none (setCause 5 true s)

/-- The choice of R431 after a cause arose or a return is due; decision `code`. -/
def reselect (code : Nat) (s : State) : State := ownAct (.choice code) (choicePuts s) (reselectNow code) s

/-- A cause arose: R431 acts unless the policy is at level 5, which only LEVEL_RETURN leaves (R433). -/
def causeArose (code : Nat) (s : State) : State :=
  let s := { s with policy := { s.policy with lastCleared := none } }
  if s.nat K.levelInEffect = 5 then s else reselect code s

/-- A cause cleared (R434). -/
def causeCleared (s : State) : State := { s with policy := { s.policy with lastCleared := some s.clk.now } }

/-- LEVEL_RETURN := 1 (R433, R434): reselects; leaves level 5 only when neither shut-down nor "no light" stands, and not the Quiet
state of a failed self-test. -/
def levelReturn (s : State) : State :=
  if s.nat K.levelInEffect = 5 then
    (if s.nat K.quietCause ≠ 0 || causeStands s 3 || causeStands s 4 then s
     else
      -- Quiet counts as Watch (R451)
      let s := if s.nat K.powerState = 4 then s.setNum K.powerState 1 else s
      reselect 8 (setLevel (levelOfOption s) s))
  else reselect 8 s

/-! ### Line loss (R427) -/

/-- Bands that the pattern in effect uses. -/
def usedBands (s : State) : List Nat :=
  if s.nat (K.bands (s.nat K.patternInEffect)) = 4 then [0, 1, 2, 3] else [0]

/-- No band in use is carried by an enabled line, once the accepted writes are in effect. -/
def noLight (s : State) : Bool :=
  let m := shadowStore s
  (usedBands s).all fun b => (List.range 8).all fun l =>
    natIn m (K.mode l) == 0 || !bitOf (s.nat K.lineBands) (8 * l + b)

/-- Line `l` counts as disabled by the policy. -/
def disableLine (l : Fin 8) (s : State) : State :=
  { s with policy := { s.policy with disabled := s.policy.disabled ||| (1#8 <<< l.val) } }

/-- The writes that answer the loss of line `l`. -/
def lossPuts (l : Fin 8) (s : State) : List (Key × DVal) :=
  (K.mode l, .num 0) :: (droppedBands (disableLine l s)).map fun b => (K.bandWeight b, DVal.num 0)

/-- The loss of line `l` is answered, at its turn. -/
def lineLostNow (l : Fin 8) (s : State) : State :=
  if s.nat K.lineDisable ≠ 1 || s.policy.disabled.getLsbD l then s
  else
    let (s, _, csn) := policyWrites (lossPuts l s) (disableLine l s)
    let s := decideAs 4 (levelNow s) (some l) csn (some 0) s
    if noLight s && !causeStands s 4 then causeArose 4 (setCause 4 true s) else s

/-- Line `l` declared "open" or "dark launch". -/
def lineLost (l : Fin 8) (s : State) : State :=
  if s.nat K.lineDisable ≠ 1 || s.policy.disabled.getLsbD l then s
  else ownAct (.line l) (lossPuts l s) (lineLostNow l) s

/-- The first write or group of a decision that has waited. -/
def OwnJob.puts (j : OwnJob) (s : State) : List (Key × DVal) :=
  match j with
  | .line l => if s.nat K.lineDisable ≠ 1 || s.policy.disabled.getLsbD l then [] else lossPuts l s
  | .choice _ => if s.nat K.levelInEffect = 5 then [] else choicePuts s

/-- A decision that has waited is made. -/
def OwnJob.run (j : OwnJob) (s : State) : State :=
  match j with
  | .line l => lineLostNow l s
  | .choice c => if s.nat K.levelInEffect = 5 then s else reselectNow c s

/-- The faults of a judgement on line `l`, declared in turn; "open" and "dark launch" may lose the line. -/
def lineFaults (l : Fin 8) (fs : List LineFault) (s : State) : State :=
  fs.foldl (fun (s : State) (f : LineFault) =>
    let was := f.isLatched s.drive.lines[l]
    let s := declareFault f l s
    if !was && (f == .openLine || f == .dark) then lineLost l s else s) s

/-- Lines that you have restored by FAULT_CLEAR and MODE are no longer disabled; with light back its cause clears (R427). -/
def refreshLight (s : State) : State :=
  let m := shadowStore s
  let still := BitVec.ofNat 8 (bitsOf (fun l =>
    s.policy.disabled.getLsbD l && (natIn m (K.mode l) == 0 || (match s.drive.lines[l]? with
      | some x => x.openF || x.darkF
      | none => true))) 8)
  let s := { s with policy := { s.policy with disabled := still } }
  if causeStands s 4 && !noLight s then causeCleared (setCause 4 false s) else s

/-! ### Thermal (R428) -/

/-- A result of housekeeping source 0x23, in mK. -/
def thermalResult (mk : Nat) (high : Bool) (s : State) : State :=
  if high then s
  else
    let p := s.policy
    let s := { s with policy := { p with
      hotRun := if s.nat K.thermalHigh < mk then p.hotRun + 1 else 0,
      shutRun := if s.nat K.thermalShut < mk then p.shutRun + 1 else 0,
      belowSince := if mk < s.nat K.thermalLow then some (p.belowSince.getD s.clk.now) else none } }
    let n := s.nat K.thermalConsec
    let hot := decide (n ≤ s.policy.hotRun) && !causeStands s 2
    let shut := decide (n ≤ s.policy.shutRun) && !causeStands s 3
    let s := if hot then setCause 2 true s else s
    let s := if shut then setCause 3 true s else s
    if hot || shut then causeArose 5 s else s

/-- The thermal and shut-down causes clear. -/
def thermalClears (s : State) : State :=
  if causeStands s 2 || causeStands s 3 then causeCleared (setCause 3 false (setCause 2 false s)) else s

/-! ### Failed engines (R165, R169) -/

/-- Engine `e` is declared failed (R165), with cause `why` of record 0x0402: 0 no safe point, 1 hard location, 2 memory BIST,
3 classroom fault. `loc` and `addr` go into LAST_FAULT (R174). -/
def failEngine (why loc addr : Nat) (e : Fin 32) (s : State) : State :=
  if !bitOf (s.nat K.enginesInService) e then s
  else
    let b := leBytes 8 s.bell.number ++ leBytes 4 addr ++ leBytes 1 loc ++ leBytes 1 4 ++ leBytes 2 (s.eng e).segment
    let s := discardWrites e (s.setBlock (K.lastFault e) b)
    let s := s.onEng e fun x => { x with failedAt := some s.clk.now, flight := [], branch := none, reps := [] }
    let s := s.setNum K.enginesInService
      (bitsOf (fun i => i != e.val && bitOf (s.nat K.enginesInService) i) 32 : Nat)
    let s := setCause (if why = 3 then 1 else 0) true (s.setNum (K.engineState e) 4)
    raise (96 + e) (raise 25 (record 1 (0x3000 + e) 0x0402 (b ++ leBytes 1 why) s))

/-- One engine fails in a running device: the decision is made at the declaration instant (R422). -/
def engineFails (why loc addr : Nat) (e : Fin 32) (s : State) : State :=
  if !bitOf (s.nat K.enginesInService) e then s else causeArose 6 (failEngine why loc addr e s)

/-- A classroom fault (R169, R432): its eight engines fail, and one decision answers them. -/
def classroomFails (c : Fin 4) (s : State) : State :=
  if (s.room c).failed then s
  else
    let s := s.onRoom c fun r => { r with failed := true }
    let s := (List.range 8).foldl (fun (s : State) (k : Nat) =>
      let e : Fin 32 := ⟨(8 * c.val + k) % 32, Nat.mod_lt _ (by decide)⟩
      let loc := s.free 7
      failEngine 3 loc (s.draw.free (2 ^ 32)) e s.draw.draw) s
    causeArose 6 s

end Sys2Proof.Machine
end

