-- ==== Sys2Proof/Machine/BellPipeline.lean ====
section
/-!
DEFINITION. Machine/BellPipeline.lean: the stages of a bell (R20): its start and everything that takes effect there (R21 to R24, R31 to
R37, R57), its launch (R52, R53), its trace (R107 to R137, R270), its processing, its release, and the stop of the bells (R22, R34).
-/

namespace Sys2Proof.Machine

/-! ### Release -/

/-- The bell in processing is released now (R20): detection, header, granary table, harvests, streams; `next` is the bell processed
after it, none where bells stop. -/
def releaseBell (next : Option BellRec) (s : State) : State :=
  match s.bell.processing with
  | some b =>
    let (s, n) := evaluateBell b s
    let b := b.onHeader fun h => { h with triggers := n, releaseTime := s.clk.devTime }
    let s := keepHeader b.header { s with bell := { s.bell with lastReleased := some b.header, processing := none } }
    let s := startFormations (keepHeads b.header s)
    allStreams.foldl (streamBell b next) s
  | none => s

/-! ### Launch (R52, R53, R77) -/

/-- Settling of the bell being acquired, as the events so far leave it. -/
def markSettling (s : State) : State :=
  match s.bell.acquiring with
  | some b =>
    let left := settlingLeft s b.header.number
    (s.setNum K.settlingRemain (min left 255 : Nat)).onAcquiring fun b =>
      (b.flagIf (0 < left) .settling).onHeader fun h => { h with settlingRemain := min left 255 }
  | none => s

/-- The previous bell's product is a basis for a blend (R77): same geometry, and not flagged "switching". -/
def blendBasis (b : BellRec) (s : State) : Bool :=
  match s.bell.processing with
  | some p => !p.header.has .switching && p.header.mode == b.header.mode && p.header.points == b.header.points
      && p.header.gauge == b.header.gauge
  | none => false

/-- The dark run of line `l` after a launch window without or with an edge (R95). R95 says of a bell in which the line did not fire
that it does not break the run, and of a bell with a launch edge that it ends it: of a bell with both, the model ends the run (DESIGN
CHOICE, log entry 67). -/
def darkStep (b : BellRec) (l : Fin 8) (s : State) : State :=
  if b.launchEdge.isSome then s.onLine l fun x => { x with darkRun := 0 }
  else if lineMode s l = 3 && natIn b.settings (K.darkCheck l) = 1 && (s.drive.lines[l]).fired
      && natIn b.settings K.dacEnable = 1 then
    let s := s.onLine l fun x => { x with darkRun := x.darkRun + 1 }
    if 3 ≤ (s.drive.lines[l]).darkRun then lineFaults l [.dark] s else s
  else s

/-- The launch window has closed: the launch offset, the choice of sample zero and its residual are fixed. -/
def fixLaunch (s : State) : State :=
  match s.bell.acquiring with
  | some b =>
    if b.launchFixed || b.suppressed then s
    else
      let h := b.header
      let (off, missing) := launchOffset b s
      let (zero, resid, moved) := sampleZero b off s
      -- the header's field is unsigned: the manual gives no word for a launch before the bell start
      let word := if off < 0 then s.free (2 ^ 32) else (wholePs off).toNat
      let s := s.draw.onAcquiring fun b =>
        (b.flagIf missing .noLaunch).onHeader fun h => { h with launchOffset := off, launchWord := word, residual := resid }
      let s := s.onAcquiring fun b => { b with launchFixed := true }
      let s := { s with launch := { s.launch with offset := some off, held := some zero, heldMode := h.mode } }
      let s := allLines.foldl (fun (s : State) (l : Fin 8) => darkStep b l s) s
      if moved then
        markSettling (reseed h.number (natIn b.settings K.crossfadeBells) (blendBasis b s) s)
      else s
  | none => s

/-! ### The trace -/

/-- Converter samples of bell `n`, if they have arrived. -/
def samplesFor (s : State) (n : Nat) : List Sample := if s.chain.samplesBell = n then s.chain.samples else []

/-- The acquisition window closes (R16, R107, R111, R133): samples, clip map, clip counts, the Raman trace. -/
def closeWindow (xs : List Sample) (raman : List RamanSample) (phase : Nat) (s : State) : State :=
  let s := fixLaunch s
  match s.bell.acquiring with
  | some b =>
    let h := b.header
    let xs := xs.take (windowLength h)
    let s := { s with chain := { s.chain with samples := xs, samplesBell := h.number } }
    let counts := (List.range 4).map fun c => clipCountOf b.settings c xs
    let map := clipMapOf b.settings h.mode h.points h.gauge (zeroIndex b) 0 xs
    let s := counts.zipIdx.foldl (fun (s : State) (x : Nat × Nat) => s.addSat 32 (K.clipCount x.2) x.1) s
    let clipped := counts.any (0 < ·)
    let s := s.onAcquiring fun b =>
      { (b.flagIf clipped .rxClipped).truncateLate with windowClosed := true }
    let s := s.onAcquiring fun b => b.onHeader fun h => { h with clipMap := BitVec.ofNat 256 map }
    ramanTrace raman phase h (match s.bell.acquiring with
      | some b => keepCaptured b xs s
      | none => s)
  | none => s

/-- Sum of MAG over streams and the points of trace-end block `k`, and how many values that is (R424). -/
def blockSum (g : BellSignal) (k : Nat) : Nat × Nat :=
  let w := endBlock g.mode
  let pts := (List.range w).filter fun x => k * w + x < g.points
  (pts.foldl (fun t x => (List.range (streamsOf g.mode)).foldl (fun t q => t + (g.point q (k * w + x)).2) t) 0,
   pts.length * streamsOf g.mode)

/-- Sum of MAG of band `b` over both polarisations and every point (R425). -/
def bandSum (g : BellSignal) (b : Nat) : Nat :=
  (List.range g.points).foldl (fun t i => t + (g.point (2 * b) i).2 + (g.point (2 * b + 1) i).2) 0

/-- The faded fraction of a bell with trace end `e` (R426); with no block below the trace end the manual gives no share: free. -/
def fadedFraction (s : State) (g : BellSignal) (e : Nat) : Rat :=
  let n := (e + endBlock g.mode - 1) / endBlock g.mode
  if n = 0 then (s.free 257 : Rat) / 256
  else ((List.range n).countP fun k => !g.blockReaches (s.nat K.fadeLevel) k : Nat) / (n : Rat)

/-- What the policy measures of a counting bell (R424 to R426). -/
def measureBell (h : Header) (g : BellSignal) (e : Nat) (s : State) : State :=
  let p := s.policy
  let p := if s.nat K.powerLine ≠ 255 && p.powerBells < 256 then
      let (sum, den) := blockSum g (s.nat K.powerRefPoint / endBlock h.mode)
      { p with powerBells := p.powerBells + 1, powerClipped := p.powerClipped + b2n (h.has .rxClipped),
               powerSum := p.powerSum + sum, powerDen := max 1 den }
    else p
  let p := if s.nat K.weightEnable = 1 && h.mode = 2 && p.weightBells < s.nat K.weightPeriod then
      { p with weightBells := p.weightBells + 1,
               weightSums := Vector.ofFn fun (b : Fin 4) => p.weightSums[b] + bandSum g b }
    else p
  let p := if s.nat K.patternEnable = 1 && p.fadeBells < 256 then
      { p with fadeBells := p.fadeBells + 1, fadeSum := p.fadeSum + fadedFraction s g e }
    else p
  { s.draw with policy := p }

/-- The trace end of the bell is known (R270, R272 to R276): entries, break rules, learning, what the policy measures. -/
def takeTraceEnd (b : BellRec) (g : BellSignal) (s : State) : State :=
  if natIn b.settings K.traceEndEnable ≠ 1 then s
  else
    let h := b.header
    let e := g.traceEnd (natIn b.settings K.endLevel)
    let s := (s.setNum K.traceEnd (millimetres (positionOf h.mode e) : Nat)).setNum K.traceEndPoint e
    if countsForBreak b then measureBell h g e (learnEnd h e (judgeEnd h e s)) else s

/-- The fabric delivers no data of the bell at which a switch took effect (R223). -/
def undelivered (n : Nat) (s : State) : Bool :=
  match s.tt.switching with
  | some w => w.bell == some n
  | none => false

/-- The last point data of the bell leave the phase unit (R20, R27, R117, R126, R156, R234). -/
def endTrace (s : State) : State :=
  let s := fixLaunch (advanceDac s)
  match s.bell.acquiring with
  | some b =>
    let n := b.header.number
    let g := bellSignal b (zeroIndex b) (samplesFor s n)
    let sats := g.saturations
    let s := s.addSat 32 K.mfSatCount sats
    let clipped := bitsOf (fun c => decide (0 < clipCountOf b.settings c (samplesFor s n))) 4
    let s := s.setNum K.satSummary (clipped + 16 * b2n (decide (0 < sats)) + 32 * b2n g.fullScale : Nat)
    let s := { s with chain := { s.chain with lastClipped := decide (0 < clipped) } }
    let s := s.onAcquiring fun b => { b.flagIf (0 < sats) .filterSat with endKnown := true }
    let before := s
    let s := takeTraceEnd { b with header := b.header.flagIf (0 < sats) .filterSat } g s
    let s := s.onAcquiring fun b =>
      -- a break that clears here clears from the next bell on (R274)
      let d := darkFromOf (if s.fibre.darkPoint.isNone then before else s) b.header
      (b.onHeader fun h => { h with darkFrom := d }).flagIf (d < b.header.points) .dark
    match s.bell.acquiring with
    | some b =>
      let s := ramanDark b.header s
      if undelivered n s then s else deliverBell b g s
    | none => s
  | none => s

/-- OFFSET_c moved by its mean residual over 3,000 samples (R109). -/
def newOffset (old sum : Int) (tc : Nat) : Int :=
  clampInt (-8191) 8191 (old + roundDiv (sum * 16 - 3000 * old) (3000 * 2 ^ tc))

/-- New converter offsets from the window's sums (R109), for the next bell. -/
def estimateOffsets (sums : Vector Int 4) (s : State) : State :=
  match s.bell.acquiring with
  | some b =>
    let tc := natIn b.settings K.offsetTc
    let s := s.onAcquiring fun b => { b with offsetDone := true }
    if natIn b.settings K.offsetTrack = 1 then
      { s with chain := { s.chain with offsetNext := Vector.ofFn fun (c : Fin 4) => some (newOffset (s.num (K.offsetEst c)) sums[c] tc) } }
    else s
  | none => s

/-- Offsets that wait take effect (R109). -/
def takeOffsets (s : State) : State :=
  let s' := (List.finRange 4).foldl (fun (s : State) (c : Fin 4) => match s.chain.offsetNext[c] with
    | some v => s.setNum (K.offsetEst c) v
    | none => s) s
  { s' with chain := { s'.chain with offsetNext := Vector.replicate 4 none } }

/-! ### The start of a bell -/

/-- The bell that starts at the boundary `d` is suppressed, or does not start at all (R22, R34). -/
def stopBefore (d : Nat) (s : State) : Bool :=
  match s.bell.stopAt with
  | some t => decide (t + 1000 ≤ d)
  | none => false

/-- What of the bell in progress must be over at the boundary is over: its launch window, its lessons' start and deadline. -/
def endOfBell (s : State) : State :=
  match s.bell.acquiring with
  | some b =>
    let s := fixLaunch (advanceDac s)
    let s := if b.lessonStarted then s else startLessons s
    ramanHoldover b.header (if b.deadlineDone then s else passDeadline s)
  | none => s

/-- The bell just acquired goes to the lessons (R20, R21); in a bell in which no lessons run its products are invalid, with
"switching" (R223). -/
def toLessons (lessons : Bool) (s : State) : State :=
  let capped := s.drive.cappedBell
  match s.bell.acquiring with
  | some a =>
    let s := if a.windowClosed then s else keepCaptured a [] s
    let a := (a.flagIf capped .driveCapped).flagIf (!lessons) .switching
    let a := if lessons then a else a.onHeader fun h => { h with invalidPoints := h.points }
    let s := { s with bell := { s.bell with acquiring := none, processing := if a.suppressed then none else some a } }
    if lessons && !a.suppressed then allStreams.foldl (reuseSlot (slotsWritten a s)) s else s
  | none => s

/-- Sequence position and pattern of the bell that starts (R70, R71). -/
def nextPosition (first : Bool) (s : State) : State :=
  let len := max 1 (s.nat K.seqLength)
  let pos := if first || s.exc.restart then 0 else (s.nat K.seqPosition + 1) % len
  let s := (s.setNum K.seqPosition pos).setNum K.patternInEffect (patternAt s.dict.store pos)
  { s with exc := { s.exc with restart := false } }

/-- The excitation unit plays pattern `p` under the settings `m` (R66). -/
def playsPattern (m : Sparse DVal) (p : Nat) (suppressed : Bool) (s : State) : Bool :=
  !suppressed && natIn m K.dacEnable == 1 && !s.drive.interlockLow && !(pulsesOn m p).isEmpty

/-- Sub-pulses and gates of the bell in progress, as INTERLOCK_N now allows (R66, R69). -/
def followInterlock (s : State) : State :=
  let s := advanceDac s
  match s.bell.acquiring with
  | some b =>
    let plays := playsPattern b.settings b.header.tag b.suppressed s
    { s with exc := { s.exc with
      playing := plays, gates := if plays then BitVec.ofNat 4 (natIn b.settings (K.gateMask b.header.tag)) else 0,
      before := { s.exc.before with playing := s.exc.before.playing && plays, gates := if plays then s.exc.before.gates else 0 } } }
  | none => { s with exc := { s.exc with playing := false, gates := 0 } }

/-- What the excitation unit played until the bell that starts: the bell just handed to the lessons, or the codes held with bells
stopped (R63, R66). -/
def playBefore (s : State) : BellPlay :=
  match s.bell.processing with
  | some b => playOf b.settings b.header.tag b.startAt s.exc
  | none => { playOf [] 0 0 s.exc with playing := false, gates := 0 }

/-- The excitation of the bell that starts (R63, R66, R69): whether it plays pattern `p`, its words, gates and held codes. -/
def exciteBell (p : Nat) (suppressed : Bool) (s : State) : State :=
  let m := s.dict.store
  let plays := playsPattern m p suppressed s
  let x := { s.exc with
    before := playBefore s, playing := plays, countedTo := 0, idleI := sat12 (numIn m K.offsetI), idleQ := sat12 (numIn m K.offsetQ),
    gates := if plays then BitVec.ofNat 4 (natIn m (K.gateMask p)) else 0,
    gateFrom := startMin m p - natIn m K.gateLead, gateTo := endMax m p + natIn m K.gateLag }
  if plays then
    let x := { x with
      ph := Vector.ofFn fun (j : Fin 4) => if pulseOn m p j then (pulseWords m p j 0).1 else x.ph[j],
      fw := Vector.ofFn fun (j : Fin 4) => if pulseOn m p j then (pulseWords m p j 0).2 else x.fw[j] }
    { s with exc := x }
  else { s with exc := x }

/-- The filter chain restarts (R112, R113). -/
def restartChain (p : Nat) (s : State) : State :=
  let s := (List.range 4).foldl (fun (s : State) (b : Nat) => s.setNum (K.ncoWord b) (ncoWord s.dict.store p b : Nat)) s
  { s with chain := { s.chain with nco := Vector.replicate 4 0, integrators := [] } }

/-- The commits and decisions whose bell this is take effect (R57, R73, R121 to R124, R224, R434); answers whether the commit adjusts
the excitation. -/
def commitBell (n : Nat) (first : Bool) (s : State) : Bool × State :=
  let old := s.dict.store
  let due := dueWrites true s
  let switches := s.nat K.switchCount
  let s := applyDue (some n) s
  let now := s.dict.store
  let s := coefBell due old now (!first) (patternChanged old now) (geometry old != geometry now) s
  let s := if first then
      let s := restartGranary n (clearDetectors n (takeAllRenewals s))
      reseed n (s.nat K.crossfadeBells) false s
    else s
  (excAdjusted old now, refreshLight (levelBell switches (takeDecision (some n) s)))

/-- The variant kind that processes the bell that starts (R234): the N−1 lessons under spare mapping (R166), else VARIANT_IN_EFFECT. -/
def processingKind (s : State) : Nat :=
  if s.nat K.variantInEffect = 0 && (spared s).isSome && s.tt.switching.isNone then 1 else s.nat K.variantInEffect

/-- The header of the bell that starts (R37, R234). -/
def startHeader (n : Nat) (adjusted : Bool) (s : State) : Header :=
  let m := s.dict.store
  let tag := s.nat K.patternInEffect
  let pts := natIn m K.phasePoints
  let trunc := pts - longPatternPoints m tag
  let left := settlingLeft s n
  let fading := (s.chain.fades.toList.getD tag none).isSome
  let r := s.nat K.refState
  let h : Header := {
    number := n, time := s.clk.devTime, csn := s.nat K.csnInEffect, mode := natIn m K.spatialMode, gauge := natIn m K.gaugeSpacings,
    tag, seqPos := s.nat K.seqPosition, points := pts, variant := processingKind s, level := s.nat K.levelInEffect,
    settlingRemain := min left 255, truncFrom := trunc, darkFrom := pts }
  let h := ((h.flagIf (r == 3 || r == 4) .holdover).flagIf (s.nat K.timeSource != 0 && s.nat K.timeState != 2) .unsynchronised)
  let h := ((h.flagIf (trunc < pts) .truncated).flagIf adjusted .excAdjusted).flagIf fading .coefFade
  ((h.flagIf s.drive.cappedBell .driveCapped).flagIf (s.nat K.supplyState = 1) .supplyDip).flagIf (0 < left) .settling

/-- The bell generator's own state as bell `n` starts at `start` (R31 to R36). -/
def openBell (n start : Nat) (first : Bool) (h : Header) (suppressed : Bool) (s : State) : State :=
  let period := 10 * s.nat K.bellPeriod
  let rec_ : BellRec := {
    header := h, startAt := start, period, suppressed, settings := s.dict.store,
    fade := s.chain.fades.toList.getD h.tag none, timetableId := slotId s (s.nat K.ttActiveSlot),
    switches := s.nat K.switchCount }
  let s := s.setNum K.bellState (if s.bell.stopAt.isSome then 3 else 2)
  { s with bell := { s.bell with
    number := n, everStarted := true, startAt := start, startDev := s.clk.devTime, due := some (start + period),
    sinceArm := s.bell.sinceArm + 1, pointBuffer := !s.bell.pointBuffer, outUntil := start + 1000,
    firstBell := if first then n else s.bell.firstBell, acquiring := some rec_ } }

/-- Place `i` of START_TIMES takes the present instant (R493). -/
def noteTime (i : Nat) (s : State) : State :=
  s.setBlock K.startTimes (overlay (4 * i) (leBytes 4 ((s.clk.now - s.start.at_) / 1000)) (slice 0 32 (s.block K.startTimes)))

/-- The first bell of a start with START_BELLS = 1 ends the start (R493). -/
def noteFirstBell (s : State) : State :=
  if s.start.next = 15 then { (noteTime 6 s).setNum K.startState 2 with start := { s.start with next := 0 } } else s

/-- Bell `n` starts now (R31). -/
def startBell (s : State) : State :=
  let start := s.clk.now
  let first := s.nat K.bellState == 1
  let n := if first then s.nat K.bellNumberNext else (s.bell.number + 1) % 2 ^ 48
  let suppressed := !first && stopBefore start s
  -- the bell before: lessons over, its predecessor released, itself handed to the lessons
  let s := endOfBell s
  let s := idleEngines (releaseBell s.bell.acquiring s)
  let loading := s.tt.switching.isSome
  let (lessons, s) := switchBell n s
  let s := toLessons lessons s
  let s := match loading && lessons, s.bell.processing with
    | true, some p => prepareLessons p s
    | _, _ => s
  -- what takes effect at this boundary
  let s := if blockFull s then closeBlock false s else s
  let s := if first then { s with launch := {} } else s
  let old := s.dict.store
  let (adjusted, s) := commitBell n first (takeOffsets s)
  let s := countLoadBells (10 * s.nat K.bellPeriod) s
  let s := if lastLoadBell n (10 * s.nat K.bellPeriod) s then reseed n (s.nat K.crossfadeBells) false s else s
  let s := { s with tdc := { s.tdc with calTable := s.tdc.calPending.getD s.tdc.calTable, calPending := none } }
  let s := driveBellStart start suppressed old (nextPosition first s)
  -- the bell itself
  let h := startHeader n adjusted s
  let s := openBell n start first h suppressed s
  let p := s.nat K.patternInEffect
  let s := restartChain p (exciteBell p suppressed (markSettling s))
  let s := ramanBellStart h suppressed s
  let s := if suppressed then s else captureBellStart n start s
  -- the bell that is over was the last load bell of a switch (R223)
  let s := raiseIf (loading && lessons && !first) 27 s
  raise 17 (noteFirstBell { s with
    bb := { s.bb with sliceBells := s.bb.sliceBells + 1 }, policy := { s.policy with sincePattern := s.policy.sincePattern.map (· + 1) } })

/-! ### The stop of the bells -/

/-- BELL_STATE returns to 0; what waits takes effect: commits, a restored drive, temperature factors and CAP_SCALE (R34, R348, R505).
SEQ_POSITION, PATTERN_IN_EFFECT and SETTLING_REMAIN go on reading what they read for the last bell: R81 gives them for the current bell
only (DESIGN CHOICE, log entry 71). A capture that waits for its bell goes on waiting where an armed generator is stopped before any bell:
R130 speaks of bells that stop (DESIGN CHOICE, log entry 102). -/
def bellsOver (s : State) : State :=
  let s := (s.setNum K.bellState 0).setNum K.bellRun 0
  -- a run of bells is over, unless the generator was armed only
  let runs := if s.bell.acquiring.isSome then (s.bell.firstBell, s.bell.number) :: s.bell.runs else s.bell.runs
  let s := takeAllRenewals { s with bell := { s.bell with due := none, stopAt := none, acquiring := none, processing := none, runs } }
  -- what waits for a lesson of the run is gone (R173, R230)
  let s := { s with array := { s.array with darkPrev := none, engines := s.array.engines.map fun (x : Engine) => { x with inject := 0 } } }
  let switches := s.nat K.switchCount
  refreshLight (levelStopped switches (takeStaged (fun _ => true) (applyStopped s)))

/-- Bells stop at the end of the suppressed bell (R22, R34). -/
def stopNow (s : State) : State :=
  let s := releaseBell none (endOfBell s)
  let s := idleEngines (closeBlock true (cancelCapture (endRunInward s)))
  let s := stopDuringSwitch (cutHarvests s)
  let s := s.setNum K.bellNumberNext ((s.bell.number + 1) % 2 ^ 48 : Nat)
  let s := { s with exc := { s.exc with playing := false, gates := 0 } }
  raise 18 (bellsOver s)

end Sys2Proof.Machine
end

