-- ==== Sys2Proof/Machine/BellCommands.lean ====
section
/-!
DEFINITION. Machine/BellCommands.lean: the events of a bell (R16, R20 to R37, R52, R109, R155, R223, R228, R270).
-/

namespace Sys2Proof.Machine

/-- An event of the bell being acquired, `off` ns after its start, if `p` holds of it. -/
def inBell (p : BellRec → Bool) (off : BellRec → Nat) (k : State → State) (s : State) : Host.Outcome State Fault Refusal :=
  match s.bell.acquiring with
  | some b => if p b then finish (atInstant (b.startAt + off b) k s) else finish s
  | none => finish s

/-- N × Ts of a bell, ns. -/
def traceNs (b : BellRec) : Nat := b.header.points * tsOf b.header.mode

/-- BELL_START (R31); with a stop that reaches the first boundary no bell starts (R34); after the suppressed bell the bells stop
instead (R22). -/
def execBellStart (s : State) : Host.Outcome State Fault Refusal :=
  match s.bell.due with
  | some d =>
    let t := s.passTo d
    if s.nat K.bellState = 1 then finish (if stopBefore d s then bellsOver t else startBell t)
    else if s.running && !s.bell.acquiring.any BellRec.suppressed then finish (startBell t)
    else finish s
  | none => finish s

/-- BELLS_STOPPED (R22, R34): the bells stop at the end of the suppressed bell, or an armed generator whose stop reaches its first
boundary returns to stopped there. -/
def execBellsStopped (s : State) : Host.Outcome State Fault Refusal :=
  match s.bell.due with
  | some d =>
    if s.running && s.bell.acquiring.any BellRec.suppressed then finish (stopNow (s.passTo d))
    else if s.nat K.bellState = 1 && stopBefore d s then finish (bellsOver (s.passTo d))
    else finish s
  | none => finish s

/-- ACQUISITION_WINDOW_CLOSE (R16). -/
def execAcquisitionWindowClose (samples : List Sample) (raman : List RamanSample) (ramanPhase : Fin 4) (s : State) :
    Host.Outcome State Fault Refusal :=
  inBell (fun b => !b.suppressed && !b.windowClosed) (fun b => traceNs b + 3024) (closeWindow samples raman ramanPhase) s

/-- LAUNCH_WINDOW_CLOSE (R52). -/
def execLaunchWindowClose (s : State) : Host.Outcome State Fault Refusal :=
  inBell (fun b => !b.suppressed && !b.launchFixed) (fun _ => 2000) fixLaunch s

/-- TRACE_END_KNOWN (R270). -/
def execTraceEndKnown (s : State) : Host.Outcome State Fault Refusal :=
  inBell (fun b => !b.suppressed && !b.endKnown) (fun b => traceNs b + 5024) endTrace s

/-- OFFSET_ESTIMATE (R109): at the end of the estimation window. -/
def execOffsetEstimate (sums : Vector Int 4) (s : State) : Host.Outcome State Fault Refusal :=
  inBell (fun b => !b.offsetDone) (fun b => traceNs b + 7000) (estimateOffsets sums) s

/-- LESSON_START (R155). -/
def execLessonStart (s : State) : Host.Outcome State Fault Refusal :=
  inBell (fun b => !b.lessonStarted) (fun _ => cyclesNs s 1000) startLessons s

/-- LESSON_DEADLINE (R208, R228). -/
def execLessonDeadline (s : State) : Host.Outcome State Fault Refusal :=
  inBell (fun b => b.lessonStarted && !b.deadlineDone) (fun b => cyclesNs s (deadlineCycle s b.period)) passDeadline s

/-- BELL_SWITCH_LOAD_DONE (R223): with bells stopped the switch is then complete, and what waited for it takes effect (R224). -/
def execBellSwitchLoadDone (s : State) : Host.Outcome State Fault Refusal :=
  match s.tt.switching with
  | some w =>
    if w.started && !w.done then
      finish (atInstant w.endsAt (fun s =>
        if s.stopped then
          let switches := s.nat K.switchCount
          levelStopped switches (applyStopped (completeSwitch s))
        else endLoad s) s)
    else finish s
  | none => finish s

end Sys2Proof.Machine
end

