-- ==== Sys2Proof/Machine/CoreCommands.lean ====
section
/-!
DEFINITION. Machine/CoreCommands.lean: what the supervisor cores do to the interrupt controller and the machine timer (R405,
R411 to R418), and the end of the application core's load (R410).
-/

namespace Sys2Proof.Machine

/-- IC_PENDING_CLEAR (R412, R418). -/
def execIcPendingClear (core : Fin 2) (word : Fin 6) (value : BitVec 32) (dt : Nat) (s : State) :
    Host.Outcome State Fault Refusal :=
  finish (coreAccess core true 1 (icBase + 4 * word) dt (clearPending core word value) s)

/-- IC_ROUTE_WRITE (R416, R418). -/
def execIcRouteWrite (core : Fin 2) (word : Fin 24) (value : BitVec 32) (dt : Nat) (s : State) :
    Host.Outcome State Fault Refusal :=
  finish (coreAccess core true 1 (icBase + 0x40 + 4 * word) dt (writeRoute core word value) s)

/-- IC_TARGET_WRITE (R413, R418). -/
def execIcTargetWrite (core : Fin 2) (target : Fin 4) (value : BitVec 32) (dt : Nat) (s : State) :
    Host.Outcome State Fault Refusal :=
  finish (coreAccess core true 1 (icBase + 0x200 + 4 * target) dt (writeTarget core target value) s)

/-- IC_TAKE (R417). -/
def execIcTake (core : Fin 2) (target : Fin 2) (dt : Nat) (s : State) : Host.Outcome State Fault Refusal :=
  finish (coreAccess core true 0 (icBase + 0x210 + 4 * target) dt (takeSource core target) s)

/-- IC_SOFT (R411). -/
def execIcSoft (core : Fin 2) (value : BitVec 32) (dt : Nat) (s : State) : Host.Outcome State Fault Refusal :=
  finish (coreAccess core true 1 (icBase + 0x220) dt (raiseSoft value) s)

/-- MTIME_LO_READ (R405): latches the high word. -/
def execMtimeLoRead (core : Fin 2) (dt : Nat) (s : State) : Host.Outcome State Fault Refusal :=
  finish (coreAccess core true 0 timerBase dt latchMtime s)

/-- MTIME_COMPARE (R405): MTIME reaches the core's compare. -/
def execMtimeCompare (core : Fin 2) (s : State) : Host.Outcome State Fault Refusal :=
  if s.mtip core then finish s
  else finish (atInstant (1000 * s.timer.cmp[core].toNat) (wakeTimer core) s)

/-- APP_CORE_LOAD_DONE (R410). -/
def execAppCoreLoadDone (dt : Nat) (s : State) : Host.Outcome State Fault Refusal :=
  if s.cores.appLoading then finish (startAppCore (s.elapse dt)) else finish s

end Sys2Proof.Machine
end

