-- ==== Sys2Proof/Machine/Serve.lean ====
section
/-!
DEFINITION. Machine/Serve.lean: the serialiser's turns (R338 to R340): what a turn does and where its answer goes, and the turns of
staged-operation reports (R352, R353).
-/

namespace Sys2Proof.Machine

/-! ### What a turn does -/

/-- A served request's answer leaves: to the dictionary port, the ring frame or the host (R350, R367, R387). -/
def deliver (i : Initiator) (reply : ReplyTo) (a : Answer) (s : State) : State :=
  let s := { s with dict := { s.dict with answers := s.dict.answers.set i (some a) } }
  match reply with
  | .port =>
    if i = 3 then
      raise 42 { s with dict := { s.dict with portAnswer := a.bytes, portBusy := false, portDone := true,
                                              portBytes := 40 + a.data.length, portStatus := a.status } }
    else s
  | .carriage r q c =>
    let done (x : FirstCopy) : FirstCopy :=
      if x.ringId = r && x.seq = q && x.carriage = c then { x with answer := some a.bytes } else x
    let s := s.incWrap 64 K.expeditedServed
    { s with node := { s.node with latest := some (q, a.bytes), copies := s.node.copies.map done } }
  | .host _ _ _ => answerHost a.bytes a.csn s
  | .own => s

/-- What follows the acceptance of a write beside its entry's own effect: a reselection by the policy (R433, R434). -/
def afterAccept (req : Request) (a : Answer) (s : State) : State :=
  let s := if a.status = 0 && req.items.any fun it => it.op == 2 && itemKey it == K.levelReturn && leNat it.data == 1 then
      levelReturn s else s
  refreshLight s

/-- A ring turn is over: expedited requests of initiators 2 to 4 have waited through it (R339). -/
def countRingTurn (s : State) : State :=
  let older (w : Waiting) : Waiting := { w with ringTurns := w.ringTurns + 1 }
  { s with dict := { s.dict with waiting := s.dict.waiting.map fun w => w.map older } }

/-- The turn of a request of initiator `i` is noted for the next choice. -/
def noteTurn (i : Initiator) (quick : Bool) (s : State) : State :=
  if quick then
    (if i.val < 2 then countRingTurn s else { s with dict := { s.dict with lastExpedited := i.val } })
  else { s with dict := { s.dict with lastDeferred := i.val } }

/-- The policy's decisions that wait are made as their turns come (R339, R422); `n` bounds their number. -/
def ownTurns : Nat → State → State
  | 0, s => s
  | n + 1, s =>
    match s.policy.jobs with
    | [] => s
    | j :: js =>
      let waits := s.dict.waiting[4]
      if !s.cores.controlAlive || waits.any fun w => w.replyTo != .own then s
      else
        let v := j.puts s
        let w := { ownWriting v s with ringTurns := (waits.map Waiting.ringTurns).getD 0, arrived := (waits.map Waiting.arrived).getD s.clk.now }
        let asks := { s with dict := { s.dict with waiting := s.dict.waiting.set 4 (some w) } }
        let gone := { s with dict := { s.dict with waiting := s.dict.waiting.set 4 none }, policy := { s.policy with jobs := js } }
        if v.isEmpty then ownTurns n (j.run gone)
        else if serialTurn asks == some (.place 4) then ownTurns n (j.run (noteTurn 4 (expedited s w.req) gone))
        else asks

/-- The turn of the request in initiator `i`'s place. -/
def servePlace (i : Initiator) (stuck : BitVec 2) (s : State) : State :=
  match s.dict.waiting[i] with
  | some w =>
    if w.replyTo = .own then s else
    let s := noteTurn i (expedited s w.req) { s with dict := { s.dict with waiting := s.dict.waiting.set i none } }
    let (s, a) := serveRequest i stuck w.req s
    deliver i w.replyTo a (afterAccept w.req a s)
  | none => s

/-- The turn of port `p`'s mailbox request: its answer waits for a POLL (R370). -/
def serveMail (p : Fin 2) (stuck : BitVec 2) (s : State) : State :=
  match mailRequest s p with
  | some r =>
    let i := portIni p
    let (s, a) := serveRequest i stuck r (noteTurn i (expedited s r) s)
    let s := (afterAccept r a s).inc K.mailboxServed
    let s := { s with node := { s.node with ports := vmod s.node.ports p fun x =>
      { x with mailbox := { x.mailbox with answer := some a.bytes } } } }
    { s with dict := { s.dict with answers := s.dict.answers.set i (some a) } }
  | none => s

/-- Turns that no command names: decisions of the policy that wait (R422), and requests that break R343, which are answered 0x0D when their
turns come (DESIGN CHOICE, log entry 124). `n` bounds their number. -/
def selfTurns : Nat → State → State
  | 0, s => s
  | n + 1, s =>
    let s := ownTurns 16 s
    match serialTurn s with
    | some (.place i) => if s.dict.waiting[i].any fun w => w.replyTo != .own && malformed w.req then selfTurns n (servePlace i 0 s) else s
    | some (.mail p) => if (mailRequest s p).any malformed then selfTurns n (serveMail p 0 s) else s
    | _ => s

/-- Something waits in `s` whose turn no command names. -/
def unnamedWaits (s : State) : Bool :=
  !s.policy.jobs.isEmpty || s.dict.waiting.toList.any (fun o => o.any fun w => w.replyTo != .own && malformed w.req)
    || (List.finRange 2).any fun (p : Fin 2) => (mailRequest s p).any malformed

/-- What waited in `s` has its turns after a request that was served, in `t`. -/
def catchUp (s t : State) : State := if unnamedWaits s then selfTurns 16 t else t

/-- The next turn is served if it is initiator `i`'s; otherwise its request goes on waiting. -/
def serveNext (i : Initiator) (stuck : BitVec 2) (s : State) : State :=
  match serialTurn s with
  | some (.place j) => if j = i then servePlace i stuck s else s
  | some (.mail p) => if portIni p = i then serveMail p stuck s else s
  | _ => s

/-- The request that initiator `i` would have served next: the one in its place, or its mailbox request. -/
def waitingRequest (s : State) (i : Initiator) : Option Request :=
  match serialTurn s with
  | some (.place j) => if j = i then (s.dict.waiting[i]).map Waiting.req else none
  | some (.mail p) => if portIni p = i then mailRequest s p else none
  | _ => none

/-- Two requests ask the same, whatever their TAG. -/
def sameRequest (a b : Request) : Bool := decide (a.items = b.items) && a.group == b.group && a.broken == b.broken

/-- A request that a command names runs: presented as the command runs and served if its turn comes, or taken from where it waits.
Nothing happens if the initiator's place is taken, or it waits with another request. -/
def runRequest (src : Src) (group : Bool) (items : List Item) (stuck : BitVec 2) (s : State) : State :=
  match src with
  | .direct i tag dt =>
    let s' := s.elapse dt
    if (s.dict.waiting[i]).isSome || (i == 3 && s.dict.portBusy) || !serialiserRuns s' then s
    else
      let s' := if i = 3 then { s' with dict := { s'.dict with portBusy := true } } else s'
      catchUp s (serveNext i stuck (presentRequest i { group, tag, items } .port s'))
  | .queued i =>
    match waitingRequest s i with
    | some r => if sameRequest r { group, items } then catchUp s (serveNext i stuck s) else s
    | none => s

/-- A single write of bytes to entry `k`, at an offset of a byte block. -/
def writeItem (k : Key) (offset : Nat) (data : List Byte) : Item :=
  { index := BitVec.ofNat 16 (k / 256), sub := BitVec.ofNat 8 (k % 256), op := 2, offset := BitVec.ofNat 32 offset,
    length := BitVec.ofNat 32 data.length, data }

/-- A command whose row is a write of one entry. -/
def runWrite (src : Src) (k : Key) (data : List Byte) (s : State) : State := runRequest src false [writeItem k 0 data] 0 s

/-- A command whose row is a write of `n` bytes to a scalar entry. -/
def runScalar (src : Src) (k : Key) (n v : Nat) (s : State) : State := runWrite src k (leBytes n v) s

/-- A command whose row is a read of `n` bytes of one entry. -/
def runRead (src : Src) (k : Key) (n : Nat) (s : State) : State :=
  runRequest src false [{ index := BitVec.ofNat 16 (k / 256), sub := BitVec.ofNat 8 (k % 256), op := 1,
                          length := BitVec.ofNat 32 n }] 0 s

/-! ### Staged operations (R352, R353) -/

/-- OP_RESULT of a refusal: the status, and the stored code of 0x07 (R360). -/
def opResult (status code : Nat) : Nat := status * 256 + (if status = 7 then code % 256 else 0)

/-- The commit point of a profile save. -/
def commitKind2 (k : Fin 8) (s : State) : State :=
  let csn := s.nat K.csnLast + 1
  let s := csnInEffect csn (s.setNum K.csnLast (csn : Nat))
  opCompletes k csn (commitSave s.dict.ops[k] csn s)

/-- The staged values that an apply writes. A POWER_REQUEST saved in the power state that the device is in asks for no transition and is
left out: R452 would refuse it, and with it every apply, which Example 20-1 shows accepted in Watch (DEDUCED, log entry 95). -/
def stagedValues (p : Profile) (s : State) : List (Key × DVal) :=
  p.values.filter fun e => !(e.1 == K.powerRequest && e.2 == .num (s.nat K.powerState : Nat))

/-- The commit point of a profile apply (R356): the values, and the standby slot if it alone holds the saved timetable. -/
def commitKind3 (k : Fin 8) (s : State) : State :=
  let o := s.dict.ops[k]
  let i := o.starter
  let level := if i.val ≤ 3 then max o.level (s.nat (K.levelCap i)) else o.level
  match s.dict.profiles.toList.getD o.arg none with
  | some p =>
    let active := s.nat K.ttActiveSlot
    let held (n : Nat) : Bool := slotId s n == p.timetableId
    if !held active && !held (1 - active) then opStops k 4 (opResult 6 0) 0 s
    else
      let slot := if held active then [] else [(K.ttActiveSlot, DVal.num (1 - active : Nat))]
      match ownWrites i level (stagedValues p s ++ slot) s with
      | (s, none) => opCompletes k (s.nat K.csnLast) s
      | (s, some r) => opStops k 4 (opResult r.status (if r.exc ≠ 0 then r.exc else if r.fit ≠ 0 then r.fit else r.detect)) 0 s
  | none => opStops k 4 (opResult 6 0) 0 s

/-- The commit point of a timetable load (R225). -/
def commitKind1 (k : Fin 8) (s : State) : State :=
  let s := raise 28 s
  let o := s.dict.ops[k]
  match checkImage s o.image with
  | some e => commitLoad o (opStops k 4 (opResult 7 e.code) 0 s)
  | none =>
    let csn := s.nat K.csnLast + 1
    let s := csnInEffect csn (s.setNum K.csnLast (csn : Nat))
    opCompletes k csn (commitLoad o s)

/-- The commit point of a flash program. -/
def commitKind4 (k : Fin 8) (s : State) : State :=
  let o := s.dict.ops[k]
  let c := slotCheck s o.image
  if c ≠ 0 then opStops k 4 (opResult 7 c) 0 s
  else
    let csn := s.nat K.csnLast + 1
    let s := csnInEffect csn (s.setNum K.csnLast (csn : Nat))
    opCompletes k csn (commitFlash o s)

/-- The work of the step in progress has ended: its report waits as deferred work. The first step of a flash program erases the
slot (Table 13-10). -/
def stepDoneAt (k : Fin 8) (s : State) : State :=
  let o := s.dict.ops[k]
  if o.state = 1 && !o.reportReady && !o.stalled && s.cores.controlAlive then
    let s := if o.kind = 4 && o.stepsDone = 0 then eraseSlot o.arg s else s
    s.onOp k fun o => { o with reportReady := true }
  else s

/-- The operation with OP_ID mod 8 = `k` that still runs though a later one has taken its entry. -/
def displacedAt (k : Fin 8) (s : State) : Option StagedOp := s.dict.displaced.find? fun o => opPlace o.id == k

/-- A step of the operations with OP_ID mod 8 = `k` ends its work: of the older one, while its report does not wait. -/
def stepDone (k : Fin 8) (s : State) : State :=
  match (displacedAt k s).filter fun o => !o.reportReady && !o.stalled with
  | some o => onDisplaced o (stepDoneAt k) s
  | none => stepDoneAt k s

/-- The turn of a step's report; the report of the last step is the commit point. -/
def stepReportAt (k : Fin 8) (s : State) : State :=
  let o := s.dict.ops[k]
  if o.state = 1 && o.reportReady then
    let braced := s.nat K.supplyState = 1 && (o.kind == 2 || o.kind == 4)
    let s := s.onOp k fun o => { o with stepsDone := o.stepsDone + 1, reportReady := false, stalled := braced }
    let s := { s with dict := { s.dict with lastDeferred := 5 } }
    if o.stepsDone + 1 < o.stepsTotal then s
    else if o.kind = 1 then commitKind1 k s
    else if o.kind = 2 then commitKind2 k s
    else if o.kind = 3 then commitKind3 k s
    else commitKind4 k s
  else s

/-- The report of an operation with OP_ID mod 8 = `k` has its turn, the older one first (R339, R353). -/
def stepReport (k : Fin 8) (s : State) : State :=
  if serialTurn s == some .report then
    selfTurns 16 (match (displacedAt k s).filter fun o => o.reportReady with
      | some o => onDisplaced o (stepReportAt k) s
      | none => stepReportAt k s)
  else s

/-- The pending writes take effect with bells stopped (R348), and the level with them (R434). -/
def applyPending (s : State) : State :=
  let n := s.nat K.switchCount
  refreshLight (levelStopped n (applyStopped s))

end Sys2Proof.Machine
end

