-- ==== Sys2Proof/Machine/DictCommands.lean ====
section
/-!
DEFINITION. Machine/DictCommands.lean: the commands that reach the part as dictionary requests, one per entry that has a row of its own,
the general ones (R335, R342, R348, R349), the dictionary port (R350) and staged operations (R351 to R354).  What an accepted
write does is in Effects.lean.
-/

namespace Sys2Proof.Machine

/-! ### General requests -/

/-- DICT_READ (R342). -/
def execDictRead (src : Src) (args : ReadArgs) (s : State) : Host.Outcome State Fault Refusal :=
  finish (runRequest src false [{ index := args.index, sub := args.sub, op := 1, offset := args.offset, length := args.length,
                                  generation := args.generation }] 0 s)

/-- DICT_SHADOW_READ (R348). -/
def execDictShadowRead (src : Src) (args : ReadArgs) (s : State) : Host.Outcome State Fault Refusal :=
  finish (runRequest src false [{ index := args.index, sub := args.sub, op := 3, offset := args.offset, length := args.length,
                                  generation := args.generation }] 0 s)

/-- DICT_WRITE (R335). -/
def execDictWrite (src : Src) (args : WriteArgs) (s : State) : Host.Outcome State Fault Refusal :=
  finish (runRequest src false [{ index := args.index, sub := args.sub, op := 2, length := BitVec.ofNat 32 args.data.length,
                                  data := args.data }] 0 s)

/-- DICT_GROUP_WRITE (R349). -/
def execDictGroupWrite (src : Src) (items : List Item) (s : State) : Host.Outcome State Fault Refusal :=
  finish (runRequest src true items 0 s)

/-- DP_CONTROL (R350): GO submits the request buffer. -/
def portGo (v : BitVec 32) (s : State) : State :=
  if !v.getLsbD 0 then s
  else if s.dict.portBusy || (s.dict.waiting[3]).isSome then { s with dict := { s.dict with portGoLost := true } }
  else
    let bytes := (List.range 20480).map fun k => sparseGet (fun _ => 0) s.dict.portRequest k
    selfTurns 4 (presentRequest 3 (parseRequest bytes) .port { s with dict := { s.dict with portBusy := true } })

/-- DP_STATUS (R350): W1C of DONE and GO_LOST. -/
def portClear (v : BitVec 32) (s : State) : State :=
  { s with dict := { s.dict with portDone := s.dict.portDone && !v.getLsbD 30,
                                 portGoLost := s.dict.portGoLost && !v.getLsbD 29 } }

/-- DP_GO (R350): a write of DP_CONTROL by the application core. -/
def execDpGo (value : BitVec 32) (dt : Nat) (s : State) : Host.Outcome State Fault Refusal :=
  finish (coreAccess 1 true 1 (portBase + 0xF000) dt (portGo value) s)

/-- DP_STATUS_CLEAR (R350): W1C of DONE and GO_LOST. -/
def execDpStatusClear (value : BitVec 32) (dt : Nat) (s : State) : Host.Outcome State Fault Refusal :=
  finish (coreAccess 1 true 1 (portBase + 0xF004) dt (portClear value) s)

/-- SHADOW_APPLY_STOPPED (R348): pending writes take effect with bells stopped. -/
def execShadowApplyStopped (s : State) : Host.Outcome State Fault Refusal :=
  finish (if s.stopped then applyPending s else s)

/-! ### Bells, time and the edge time-stampers -/

/-- BELL_RUN_ARM: 2000.04 := 1 (R33). -/
def execBellRunArm (src : Src) (s : State) : Host.Outcome State Fault Refusal := finish (runScalar src K.bellRun 1 1 s)

/-- BELL_RUN_STOP: 2000.04 := 0 (R34). -/
def execBellRunStop (src : Src) (s : State) : Host.Outcome State Fault Refusal := finish (runScalar src K.bellRun 1 0 s)

/-- DEVICE_TIME_WRITE: 2100.02 (R61). -/
def execDeviceTimeWrite (src : Src) (value : BitVec 64) (s : State) : Host.Outcome State Fault Refusal :=
  finish (runScalar src K.deviceTime 8 value.toNat s)

/-- TIME_SOURCE_SELECT: 2100.01 (R42). -/
def execTimeSourceSelect (src : Src) (value : BitVec 8) (s : State) : Host.Outcome State Fault Refusal :=
  finish (runScalar src K.timeSource 1 value.toNat s)

/-- TDC_OWNER_CHANGE: 2210+c.03 (R44). -/
def execTdcOwnerChange (src : Src) (chan : Fin 8) (value : BitVec 8) (s : State) : Host.Outcome State Fault Refusal :=
  finish (runScalar src (K.owner chan) 1 value.toNat s)

/-! ### Source drive and receiver -/

/-- FAULT_CLEAR: 2500.09 (R96). -/
def execFaultClear (src : Src) (value : BitVec 8) (s : State) : Host.Outcome State Fault Refusal :=
  finish (runScalar src K.faultClear 1 value.toNat s)

/-- DRIVE_RESTORE: 2500.01 := 1 (R100). -/
def execDriveRestore (src : Src) (s : State) : Host.Outcome State Fault Refusal := finish (runScalar src K.driveEnable 1 1 s)

/-- DRIVE_REMOVE: 2500.01 := 0 (R100). -/
def execDriveRemove (src : Src) (s : State) : Host.Outcome State Fault Refusal := finish (runScalar src K.driveEnable 1 0 s)

/-- CAL_RUN: 2800.05 := 1 (R110). -/
def execCalRun (src : Src) (s : State) : Host.Outcome State Fault Refusal := finish (runScalar src K.calRun 1 1 s)

/-- CAPTURE_ARM: 2820.06 := 1 (R130). -/
def execCaptureArm (src : Src) (s : State) : Host.Outcome State Fault Refusal := finish (runScalar src K.capArm 1 1 s)

/-- CAL_RESET: 2900.1A := 1 (R267). -/
def execCalReset (src : Src) (s : State) : Host.Outcome State Fault Refusal := finish (runScalar src K.calReset 1 1 s)

/-- TRACE_END_LEARN: 2900.33 := 1 (R276). -/
def execTraceEndLearn (src : Src) (s : State) : Host.Outcome State Fault Refusal :=
  finish (runScalar src K.traceEndLearn 1 1 s)

/-! ### Engines and timetables -/

/-- FAULT_INJECT: 3000.08 (R173). -/
def execFaultInject (src : Src) (value : BitVec 16) (s : State) : Host.Outcome State Fault Refusal :=
  finish (runScalar src K.faultInject 2 value.toNat s)

/-- TT_LOAD: 3000.12 := 1 (R225). -/
def execTtLoad (src : Src) (s : State) : Host.Outcome State Fault Refusal := finish (runScalar src K.ttLoad 1 1 s)

/-- TT_IMAGE_PIECE: a piece of 3000.11 (R347). -/
def execTtImagePiece (src : Src) (offset : BitVec 32) (data : List Byte) (s : State) : Host.Outcome State Fault Refusal :=
  finish (runRequest src false [writeItem K.ttImage offset.toNat data] 0 s)

/-! ### Detection and harvests -/

/-- MANUAL_TRIGGER: 3800.09 (R247). -/
def execManualTrigger (src : Src) (value : BitVec 16) (s : State) : Host.Outcome State Fault Refusal :=
  finish (runScalar src K.manualTrigger 2 value.toNat s)

/-- TRIGGER_NEXT: a read of 3800.04 (R259). -/
def execTriggerNext (src : Src) (s : State) : Host.Outcome State Fault Refusal := finish (runRead src K.triggerNext 32 s)

/-- HARVEST_RELEASE: 3900.09 (R253). -/
def execHarvestRelease (src : Src) (value : BitVec 32) (s : State) : Host.Outcome State Fault Refusal :=
  finish (runScalar src K.harvestRelease 4 value.toNat s)

/-- HARVEST_AREA_RESIZE: 3900.06 (R253). -/
def execHarvestAreaResize (src : Src) (value : BitVec 64) (s : State) : Host.Outcome State Fault Refusal :=
  finish (runScalar src K.harvestAreaBytes 8 value.toNat s)

/-! ### Housekeeping and barn -/

/-- HK_START_ENTRY: 4800.06 := 1 (R282). -/
def execHkStartEntry (src : Src) (s : State) : Host.Outcome State Fault Refusal := finish (runScalar src K.hkStart 1 1 s)

/-- HK_CAL_RUN: 4800.0A := 1 (R291). -/
def execHkCalRun (src : Src) (s : State) : Host.Outcome State Fault Refusal := finish (runScalar src K.hkCalRun 1 1 s)

/-- STICKY_CLEAR: 4800.0D (R297). -/
def execStickyClear (src : Src) (value : BitVec 8) (s : State) : Host.Outcome State Fault Refusal :=
  finish (runScalar src K.stickyClear 1 value.toNat s)

/-- LOG_CLEAR: 5400.10 (R330). -/
def execLogClear (src : Src) (value : BitVec 8) (s : State) : Host.Outcome State Fault Refusal :=
  finish (runScalar src K.logClear 1 value.toNat s)

/-! ### Staged operations -/

/-- OP_START of a kind: 7000.01 (R351). -/
def opStartBytes (kind : Nat) (arg : BitVec 8) : List Byte := [BitVec.ofNat 8 kind, arg] ++ zeros 14

/-- OP_START_TIMETABLE_LOAD (R351). -/
def execOpStartTimetableLoad (src : Src) (arg : BitVec 8) (s : State) : Host.Outcome State Fault Refusal :=
  finish (runWrite src K.opStart (opStartBytes 1 arg) s)

/-- OP_START_PROFILE_SAVE (R351). -/
def execOpStartProfileSave (src : Src) (arg : BitVec 8) (s : State) : Host.Outcome State Fault Refusal :=
  finish (runWrite src K.opStart (opStartBytes 2 arg) s)

/-- OP_START_PROFILE_APPLY (R356). -/
def execOpStartProfileApply (src : Src) (arg : BitVec 8) (s : State) : Host.Outcome State Fault Refusal :=
  finish (runWrite src K.opStart (opStartBytes 3 arg) s)

/-- OP_START_FLASH_PROGRAM (R351). -/
def execOpStartFlashProgram (src : Src) (arg : BitVec 8) (s : State) : Host.Outcome State Fault Refusal :=
  finish (runWrite src K.opStart (opStartBytes 4 arg) s)

/-- STAGED_OP_STEP_DONE (R352). -/
def execStagedOpStepDone (k : Fin 8) (dt : Nat) (s : State) : Host.Outcome State Fault Refusal :=
  finish (stepDone k (s.elapse dt))

/-- STAGED_OP_STEP_REPORT (R352). -/
def execStagedOpStepReport (k : Fin 8) (dt : Nat) (s : State) : Host.Outcome State Fault Refusal :=
  finish (stepReport k (s.elapse dt))

/-- OP_ABORT: 7000.02 (R354). -/
def execOpAbort (src : Src) (value : BitVec 32) (s : State) : Host.Outcome State Fault Refusal :=
  finish (runScalar src K.opAbort 4 value.toNat s)

/-- LATCH_CLEAR: 1100.03 (R358). -/
def execLatchClear (src : Src) (value : BitVec 32) (s : State) : Host.Outcome State Fault Refusal :=
  finish (runScalar src K.latchClear 4 value.toNat s)

/-! ### Ring, interrupts and the application core -/

/-- LINK_DELAY_WRITE: 7410+p.03 (R378). -/
def execLinkDelayWrite (src : Src) (port : Fin 2) (value : BitVec 32) (s : State) : Host.Outcome State Fault Refusal :=
  finish (runScalar src (K.linkDelay port) 4 value.toNat s)

/-- PENDING_CLEAR: 5800.03 (R412). -/
def execPendingClear (src : Src) (data : List Byte) (s : State) : Host.Outcome State Fault Refusal :=
  finish (runWrite src K.pendingClear data s)

/-- ROUTES_WRITE: 5800.04 (R416). -/
def execRoutesWrite (src : Src) (data : List Byte) (s : State) : Host.Outcome State Fault Refusal :=
  finish (runWrite src K.routes data s)

/-- TARGET_DISABLE: 5800.05 (R413). -/
def execTargetDisable (src : Src) (value : BitVec 8) (s : State) : Host.Outcome State Fault Refusal :=
  finish (runScalar src K.targetDisable 1 value.toNat s)

/-- APP_CORE_HOLD: 5880.01 := 0 (R410). -/
def execAppCoreHold (src : Src) (s : State) : Host.Outcome State Fault Refusal := finish (runScalar src K.appCoreRun 1 0 s)

/-- APP_CORE_RELEASE: 5880.01 := 1 (R410). -/
def execAppCoreRelease (src : Src) (s : State) : Host.Outcome State Fault Refusal :=
  finish (runScalar src K.appCoreRun 1 1 s)

/-! ### Policy, protection and power -/

/-- LEVEL_RETURN: 7800.04 := 1 (R433). -/
def execLevelReturn (src : Src) (s : State) : Host.Outcome State Fault Refusal := finish (runScalar src K.levelReturn 1 1 s)

/-- LIFECYCLE_ADVANCE: 6000.01 (R438). -/
def execLifecycleAdvance (src : Src) (value : BitVec 8) (s : State) : Host.Outcome State Fault Refusal :=
  finish (runScalar src K.lifecycleAdvance 1 value.toNat s)

/-- KEY_PROGRAM: 6000.03 (R441). -/
def execKeyProgram (src : Src) (data : List Byte) (s : State) : Host.Outcome State Fault Refusal :=
  finish (runWrite src K.keyProgram data s)

/-- KEY_REVOKE: 6000.04 (R441). -/
def execKeyRevoke (src : Src) (value : BitVec 8) (s : State) : Host.Outcome State Fault Refusal :=
  finish (runScalar src K.keyRevoke 1 value.toNat s)

/-- NONCE: a read of 6020+ini.01 (R442). -/
def execNonce (src : Src) (ini : Fin 3) (s : State) : Host.Outcome State Fault Refusal :=
  finish (runRead src (K.nonce ini) 16 s)

/-- SESSION_OPEN: 6020+ini.02 (R442). -/
def execSessionOpen (src : Src) (ini : Fin 3) (data : List Byte) (s : State) : Host.Outcome State Fault Refusal :=
  finish (runWrite src (K.sessionOpen ini) data s)

/-- SESSION_CLOSE: 6020+ini.04 := 1 (R443). -/
def execSessionClose (src : Src) (ini : Fin 3) (s : State) : Host.Outcome State Fault Refusal :=
  finish (runScalar src (K.sessionClose ini) 1 1 s)

/-- WINDOW_WRITE: 6040+w.01 (R447). -/
def execWindowWrite (src : Src) (window : Fin 3) (data : List Byte) (s : State) : Host.Outcome State Fault Refusal :=
  finish (runWrite src (K.window window) data s)

/-- DEBUG_REQUEST: 6000.06 (R449). -/
def execDebugRequest (src : Src) (value : BitVec 8) (stuck : BitVec 2) (s : State) : Host.Outcome State Fault Refusal :=
  finish (runRequest src false [writeItem K.debugRequest 0 [value]] stuck s)

/-- POWER_REQUEST_RUN: 6400.01 := 0 (R452). -/
def execPowerRequestRun (src : Src) (s : State) : Host.Outcome State Fault Refusal := finish (runScalar src K.powerRequest 1 0 s)

/-- POWER_REQUEST_WATCH: 6400.01 := 1 (R452). -/
def execPowerRequestWatch (src : Src) (s : State) : Host.Outcome State Fault Refusal :=
  finish (runScalar src K.powerRequest 1 1 s)

/-- POWER_REQUEST_STANDBY: 6400.01 := 2 (R452). -/
def execPowerRequestStandby (src : Src) (s : State) : Host.Outcome State Fault Refusal :=
  finish (runScalar src K.powerRequest 1 2 s)

/-- POWER_REQUEST_SHUTDOWN: 6400.01 := 3 (R495). -/
def execPowerRequestShutdown (src : Src) (s : State) : Host.Outcome State Fault Refusal :=
  finish (runScalar src K.powerRequest 1 3 s)

end Sys2Proof.Machine
end

