-- ==== Sys2Proof/Machine/DriveCommands.lean ====
section
/-!
DEFINITION. Machine/DriveCommands.lean: the events of the source-drive lines, INTERLOCK_N and the dissipation cap (R88 to R102).
-/

namespace Sys2Proof.Machine

/-! ### Conduction -/

/-- PWM_PERIOD_START (R88, R89): at the end of the period in progress; a line without one starts now. -/
def execPwmPeriodStart (line : Fin 8) (s : State) : Host.Outcome State Fault Refusal :=
  if pwmCounts s line then
    match (s.drive.lines[line]).pwmFrom with
    | some t => finish (atInstant (t + 4 * pwmTicks s line) (startPwm line) s)
    | none => finish (startPwm line s)
  else finish s

/-- A gate-mode line fires: it conducts for GATE_WIDTH; a line that R98 flags gives its bell "no-launch". -/
def fireLine (l : Fin 8) (s : State) : State :=
  let t := s.clk.now
  let flagged := (s.drive.lines[l]).flagNoLaunch
  let s := s.onLine l fun x => { (x.conduct 3 t (some (t + s.nat (K.gateWidth l)))) with fired := true }
  s.onAcquiring fun b => b.flagIf flagged .noLaunch

/-- GATE_LINE_FIRE (R88, R90, R101): GATE_DELAY after the bell start on the excitation unit's scale, 24.0 ns later at the pin. -/
def execGateLineFire (line : Fin 8) (s : State) : Host.Outcome State Fault Refusal :=
  match s.bell.acquiring with
  | some b =>
    if !b.suppressed && driven s line && !inWatch s && lineMode s line == 3 && !(s.drive.lines[line]).fired then
      finish (atInstant (b.startAt + s.nat (K.gateDelay line) + 24) (fireLine line) s)
    else finish s
  | none => finish s

/-- GATE_LINE_END (R88). -/
def execGateLineEnd (line : Fin 8) (s : State) : Host.Outcome State Fault Refusal :=
  let x := s.drive.lines[line]
  match x.conductFrom, x.conductUntil with
  | some _, some u =>
    if lineMode s line = 3 then
      finish (atInstant u (fun s => s.onLine line Line.rest) s)
    else finish s
  | _, _ => finish s

/-! ### Judgements -/

/-- The measured current and pin voltage (R104). -/
def measured (l : Fin 8) (current pinMv : Nat) (s : State) : State :=
  (s.setNum (K.lineCurrent l) (min current 65535 : Nat)).setNum (K.pinVoltage l) (min pinMv 65535 : Nat)

/-- When the next judgement of a conduction interval is due (R93). -/
def judgementDue (x : Line) : Option Nat :=
  match x.conductFrom with
  | some t =>
    let u := match x.judgedAt with
      | some j => j + 10000
      | none => t + 1500
    match x.conductUntil with
    | some e => if u ≤ e then some u else none
    | none => some u
  | none => none

/-- COMPLIANCE_JUDGEMENT (R93, R96). -/
def execComplianceJudgement (line : Fin 8) (current pinMv : Nat) (gateLimit : Bool) (s : State) :
    Host.Outcome State Fault Refusal :=
  match judgementDue s.drive.lines[line] with
  | some u =>
    finish (atInstant u (fun s =>
      let s := (measured line current pinMv s).onLine line fun x => { x with judgedAt := some u }
      lineFaults line (judge s line (onCurrent s line) (current * 100) pinMv gateLimit) s) s)
  | none => finish s

/-- An on-chip line that needs proving pulses (R94): in gate mode, or in PWM with an on-time shorter than 1.5 µs, with drive. -/
def needsProof (s : State) (l : Fin 8) : Bool :=
  driven s l && !external s l && !inWatch s && (lineMode s l == 3 || (runsPwm s l && decide (onTicks s l * 4 < 1500)))

/-- The instant of the next proving pulse of a line (R94): in a bell whose number is a multiple of P, unless that instant has passed
without a pulse, or every P × 1 ms while no bell is in progress. No pulse runs while drive is removed; R94 does not say when the first one
comes after it returns: at once, if the last pulse lies P × 1 ms back or more (DESIGN CHOICE, log entry 103). -/
def proofDue (s : State) (l : Fin 8) : Option Nat :=
  let x := s.drive.lines[l]
  let p := max 1 (s.nat K.provePeriod)
  match s.bell.acquiring with
  | some b =>
    let t := b.startAt + b.header.points * tsOf b.header.mode + 4000
    if b.header.number % p = 0 && decide (x.lastProve < t) && decide (s.clk.now ≤ t) then some t else none
  | none => some (max s.clk.now (x.lastProve + p * 1000000))

/-- What a proving pulse from `t` leaves of the line's own interval: the part after the pulse, as an interval of its own (R93, R94). -/
def Line.cut (x : Line) (t : Nat) : Line :=
  match x.conductFrom, x.conductUntil with
  | some a, some u =>
    if u ≤ t then x
    else if u ≤ t + 2000 then { x.rest with way := x.way } else x.conduct x.way (max a (t + 2000)) (some u)
  | some a, none => x.conduct x.way (max a (t + 2000)) none
  | none, _ => x

/-- A proving pulse of line `l` starts at `t` (R94). -/
def startPulse (l : Fin 8) (t : Nat) (s : State) : State :=
  s.onLine l fun x => { x.cut t with proving := some t, lastProve := t, pulseUntil := t + 2000 }

/-- PROVING_PULSE_START (R94): 1 mA for 2 µs in place of the line's normal conduction. -/
def execProvingPulseStart (line : Fin 8) (s : State) : Host.Outcome State Fault Refusal :=
  match needsProof s line, proofDue s line with
  | true, some t =>
    finish (atInstant t (startPulse line t) s)
  | _, _ => finish s

/-- The verdict of a proving pulse: LINE_STATUS[3], declarations, and the flagging of R98. -/
def provingVerdict (l : Fin 8) (current pinMv : Nat) (s : State) : State :=
  let s := measured l current pinMv s
  let fs := judge s l 1000 (current * 100) pinMv false
  let isOpen := fs.contains .openLine
  let flags := isOpen && s.nat (K.darkCheck l) == 1
  let s := s.onLine l fun x => { x with
    proving := none, proveOpen := isOpen,
    flagNoLaunch := if flags then true else if fs.isEmpty then false else x.flagNoLaunch }
  lineFaults l fs (s.onAcquiring fun b => b.flagIf flags .noLaunch)

/-- PROVING_VERDICT (R94, R96, R98): 1.5 µs into the pulse. -/
def execProvingVerdict (line : Fin 8) (current pinMv : Nat) (s : State) : Host.Outcome State Fault Refusal :=
  match (s.drive.lines[line]).proving with
  | some t => finish (atInstant (t + 1500) (provingVerdict line current pinMv) s)
  | none => finish s

/-! ### INTERLOCK_N -/

/-- INTERLOCK_ASSERT (R66, R99, R100). -/
def execInterlockAssert (dt : Nat) (s : State) : Host.Outcome State Fault Refusal :=
  let s := s.elapse dt
  if s.drive.interlockLow then finish s
  else
    let s := { s with drive := { s.drive with interlockLow := true, holdOff := false } }
    let s := followInterlock (removeDrive ((s.setNum K.driveEnable 0).inc K.interlockCount))
    finish (raise 16 (record 3 0x2500 0x0202 (leBytes 4 (s.nat K.interlockCount)) s))

/-- INTERLOCK_RELEASE (R66, R100). -/
def execInterlockRelease (dt : Nat) (s : State) : Host.Outcome State Fault Refusal :=
  let s := s.elapse dt
  if s.drive.interlockLow then
    finish (followInterlock { s with drive := { s.drive with interlockLow := false, roseAt := s.clk.now, holdOff := true } })
  else finish s

/-- DRIVE_ENABLE_HOLDOFF_END (R100). -/
def execDriveEnableHoldoffEnd (s : State) : Host.Outcome State Fault Refusal :=
  if s.drive.holdOff then
    finish (atInstant (s.drive.roseAt + 10000000) (fun s => { s with drive := { s.drive with holdOff := false } }) s)
  else finish s

/-! ### The dissipation cap (R102) -/

/-- CAP_SCALE that brings a dissipation of `mw` to 1.40 W; the manual does not say how the quotient is rounded: a free choice. -/
def loweredCap (mw : Nat) (s : State) : Nat :=
  let x := s.nat K.capScale * 1400
  x / mw + (if x % mw = 0 then 0 else s.free 2)

/-- A 100 µs average. -/
def takeAverage (mw : Nat) (s : State) : State :=
  let t := s.clk.now
  let v := loweredCap mw s
  let d := { s.drive with
    lastAverage := t,
    capNext := if 1500 < mw then s.drive.capNext ++ [(v, t)] else s.drive.capNext,
    below135 := if mw < 1350 then some (s.drive.below135.getD t) else none }
  { s.draw.setNum K.sinkPower (min mw 65535 : Nat) with drive := d }

/-- DISSIPATION_AVERAGE (R102). -/
def execDissipationAverage (milliwatts : Nat) (s : State) : Host.Outcome State Fault Refusal :=
  finish (atInstant (s.drive.lastAverage + 100000) (takeAverage milliwatts) s)

/-- CAP_SCALE_APPLY (R102): 500 µs after the measurement. -/
def execCapScaleApply (s : State) : Host.Outcome State Fault Refusal :=
  match s.drive.capNext with
  | (v, t) :: w => finish (atInstant (t + 500000) (fun s => setCap v { s with drive := { s.drive with capNext := w } }) s)
  | [] => finish s

/-- CAP_SCALE_RAISE (R102, R505): every 1.000 ms while no bell runs, once the average has stayed low for 10 ms. -/
def execCapScaleRaise (s : State) : Host.Outcome State Fault Refusal :=
  match s.drive.below135 with
  | some t =>
    if !s.running && s.nat K.capScale < 255 then
      finish (atInstant (max (t + 10000000) (s.drive.lastRaise + 1000000)) (fun s =>
        let s := setCap (min 255 (s.nat K.capScale + 16)) s
        { s with drive := { s.drive with lastRaise := s.clk.now } }) s)
    else finish s
  | none => finish s

end Sys2Proof.Machine
end

