-- ==== Sys2Proof/Machine/EngineAlu.lean ====
section
/-!
DEFINITION. Machine/EngineAlu.lean: the A slot: ALU, compares, predicates, poison tests and register moves (R186 to R188).
-/

namespace Sys2Proof.Machine

/-- ADD: g[D] := s1 + s2, wrap 32 (R187). -/
def execEngAdd (at_ : At) (gd : Guard) (f : RegForm) (s : State) : Host.Outcome State Fault Refusal :=
  finish (aOp at_ gd (f.legal3) (alu2 (· + ·) f) s)

/-- SUB: g[D] := s1 - s2, wrap 32 (R187). -/
def execEngSub (at_ : At) (gd : Guard) (f : RegForm) (s : State) : Host.Outcome State Fault Refusal :=
  finish (aOp at_ gd (f.legal3) (alu2 (· - ·) f) s)

/-- ADDS: g[D] := sat32(s1 + s2) (R187). -/
def execEngAdds (at_ : At) (gd : Guard) (f : RegForm) (s : State) : Host.Outcome State Fault Refusal :=
  finish (aOp at_ gd (f.legal3) (alu2 (fun a b => sat32 (a.toInt + b.toInt)) f) s)

/-- SUBS: g[D] := sat32(s1 - s2) (R187). -/
def execEngSubs (at_ : At) (gd : Guard) (f : RegForm) (s : State) : Host.Outcome State Fault Refusal :=
  finish (aOp at_ gd (f.legal3) (alu2 (fun a b => sat32 (a.toInt - b.toInt)) f) s)

/-- AND (R187). -/
def execEngAnd (at_ : At) (gd : Guard) (f : RegForm) (s : State) : Host.Outcome State Fault Refusal :=
  finish (aOp at_ gd (f.legal3) (alu2 (· &&& ·) f) s)

/-- OR (R187). -/
def execEngOr (at_ : At) (gd : Guard) (f : RegForm) (s : State) : Host.Outcome State Fault Refusal :=
  finish (aOp at_ gd (f.legal3) (alu2 (· ||| ·) f) s)

/-- XOR (R187). -/
def execEngXor (at_ : At) (gd : Guard) (f : RegForm) (s : State) : Host.Outcome State Fault Refusal :=
  finish (aOp at_ gd (f.legal3) (alu2 (· ^^^ ·) f) s)

/-- SHL: s1 << s2[4:0] (R187). -/
def execEngShl (at_ : At) (gd : Guard) (f : RegForm) (s : State) : Host.Outcome State Fault Refusal :=
  finish (aOp at_ gd (f.legal3) (alu2 (fun a b => a <<< shAmt b) f) s)

/-- SHR: s1 >> s2[4:0], logical (R187). -/
def execEngShr (at_ : At) (gd : Guard) (f : RegForm) (s : State) : Host.Outcome State Fault Refusal :=
  finish (aOp at_ gd (f.legal3) (alu2 (fun a b => a >>> shAmt b) f) s)

/-- SAR: s1 >> s2[4:0], arithmetic (R187). -/
def execEngSar (at_ : At) (gd : Guard) (f : RegForm) (s : State) : Host.Outcome State Fault Refusal :=
  finish (aOp at_ gd (f.legal3) (alu2 (fun a b => a.sshiftRight (shAmt b)) f) s)

/-- MIN: signed minimum (R187). -/
def execEngMin (at_ : At) (gd : Guard) (f : RegForm) (s : State) : Host.Outcome State Fault Refusal :=
  finish (aOp at_ gd (f.legal3) (alu2 (fun a b => if a.toInt ≤ b.toInt then a else b) f) s)

/-- MAX: signed maximum (R187). -/
def execEngMax (at_ : At) (gd : Guard) (f : RegForm) (s : State) : Host.Outcome State Fault Refusal :=
  finish (aOp at_ gd (f.legal3) (alu2 (fun a b => if a.toInt ≤ b.toInt then b else a) f) s)

/-- ABS: sat32(abs(s1)) (R187). -/
def execEngAbs (at_ : At) (gd : Guard) (f : RegForm) (s : State) : Host.Outcome State Fault Refusal :=
  finish (aOp at_ gd (f.legal2) (alu1 (fun a => sat32 a.toInt.natAbs) f) s)

/-- ADD2: per half s1 + s2, wrap 16 (R187). -/
def execEngAdd2 (at_ : At) (gd : Guard) (f : RegForm) (s : State) : Host.Outcome State Fault Refusal :=
  finish (aOp at_ gd (f.legal3) (alu2 (perHalf false (· + ·)) f) s)

/-- SUB2: per half s1 - s2, wrap 16 (R187). -/
def execEngSub2 (at_ : At) (gd : Guard) (f : RegForm) (s : State) : Host.Outcome State Fault Refusal :=
  finish (aOp at_ gd (f.legal3) (alu2 (perHalf false (· - ·)) f) s)

/-- ADDS2: per half sat16(s1 + s2) (R187). -/
def execEngAdds2 (at_ : At) (gd : Guard) (f : RegForm) (s : State) : Host.Outcome State Fault Refusal :=
  finish (aOp at_ gd (f.legal3) (alu2 (perHalf true (· + ·)) f) s)

/-- SUBS2: per half sat16(s1 - s2) (R187). -/
def execEngSubs2 (at_ : At) (gd : Guard) (f : RegForm) (s : State) : Host.Outcome State Fault Refusal :=
  finish (aOp at_ gd (f.legal3) (alu2 (perHalf true (· - ·)) f) s)

/-- SXL: sext32(s1[15:0]) (R187). -/
def execEngSxl (at_ : At) (gd : Guard) (f : RegForm) (s : State) : Host.Outcome State Fault Refusal :=
  finish (aOp at_ gd (f.legal2) (alu1 (fun a => (a.extractLsb' 0 16).signExtend 32) f) s)

/-- SXH: sext32(s1[31:16]) (R187). -/
def execEngSxh (at_ : At) (gd : Guard) (f : RegForm) (s : State) : Host.Outcome State Fault Refusal :=
  finish (aOp at_ gd (f.legal2) (alu1 (fun a => (a.extractLsb' 16 16).signExtend 32) f) s)

/-- PACK: s1[15:0] in [31:16], s2[15:0] in [15:0] (R187). -/
def execEngPack (at_ : At) (gd : Guard) (f : RegForm) (s : State) : Host.Outcome State Fault Refusal :=
  finish (aOp at_ gd (f.legal3) (alu2 (fun a b => (a.extractLsb' 0 16).append (b.extractLsb' 0 16)) f) s)

/-- SEL: g[D] := q[QS] ? s1 : s2, reading only the register it selects (R187). -/
def execEngSel (at_ : At) (gd : Guard) (f : RegForm) (s : State) : Host.Outcome State Fault Refusal :=
  finish (aOp at_ gd (f.zero == 0) (fun e s =>
    let (a, ta, s) := readG (if (s.eng e).regs.q[f.qs] then f.s1 else f.s2) e s
    sendG 2 1 f.d a ta e s) s)

/-- MOV: g[D] := s1 (R187). -/
def execEngMov (at_ : At) (gd : Guard) (f : RegForm) (s : State) : Host.Outcome State Fault Refusal :=
  finish (aOp at_ gd (f.legal2) (alu1 (fun a => a) f) s)

/-- CMPEQ: q[QD] := (s1 = s2) (R187). -/
def execEngCmpeq (at_ : At) (gd : Guard) (f : RegForm) (s : State) : Host.Outcome State Fault Refusal :=
  finish (aOp at_ gd (f.legal3 && qdLegal f.d) (cmp2 (· == ·) f) s)

/-- CMPLT: signed (R187). -/
def execEngCmplt (at_ : At) (gd : Guard) (f : RegForm) (s : State) : Host.Outcome State Fault Refusal :=
  finish (aOp at_ gd (f.legal3 && qdLegal f.d) (cmp2 (fun a b => decide (a.toInt < b.toInt)) f) s)

/-- CMPLTU: unsigned (R187). -/
def execEngCmpltu (at_ : At) (gd : Guard) (f : RegForm) (s : State) : Host.Outcome State Fault Refusal :=
  finish (aOp at_ gd (f.legal3 && qdLegal f.d) (cmp2 (fun a b => decide (a.toNat < b.toNat)) f) s)

/-- CMPLE: signed (R187). -/
def execEngCmple (at_ : At) (gd : Guard) (f : RegForm) (s : State) : Host.Outcome State Fault Refusal :=
  finish (aOp at_ gd (f.legal3 && qdLegal f.d) (cmp2 (fun a b => decide (a.toInt ≤ b.toInt)) f) s)

/-- PAND: q[QD] := q[QA] and q[QB] (R187). -/
def execEngPand (at_ : At) (gd : Guard) (f : RegForm) (s : State) : Host.Outcome State Fault Refusal :=
  finish (aOp at_ gd (f.legal3 && qdLegal f.d && qdLegal f.s1 && qdLegal f.s2) (fun e s =>
    let q := (s.eng e).regs.q
    sendQ (qOf f.d) (q[qOf f.s1] && q[qOf f.s2]) false e s) s)

/-- POR: q[QD] := q[QA] or q[QB] (R187). -/
def execEngPor (at_ : At) (gd : Guard) (f : RegForm) (s : State) : Host.Outcome State Fault Refusal :=
  finish (aOp at_ gd (f.legal3 && qdLegal f.d && qdLegal f.s1 && qdLegal f.s2) (fun e s =>
    let q := (s.eng e).regs.q
    sendQ (qOf f.d) (q[qOf f.s1] || q[qOf f.s2]) false e s) s)

/-- PNOT: q[QD] := not q[QA] (R187). -/
def execEngPnot (at_ : At) (gd : Guard) (f : RegForm) (s : State) : Host.Outcome State Fault Refusal :=
  finish (aOp at_ gd (f.legal2 && qdLegal f.d && qdLegal f.s1) (fun e s => sendQ (qOf f.d) (!(s.eng e).regs.q[qOf f.s1]) false e s) s)

/-- PSETI: q[QD] := IMM12[0] (R187). -/
def execEngPseti (at_ : At) (gd : Guard) (f : ImmForm) (s : State) : Host.Outcome State Fault Refusal :=
  finish (aOp at_ gd (qdLegal f.d && f.s1 == 0 && decide (f.imm.toNat < 2)) (fun e s => sendQ (qOf f.d) (f.imm.getLsbD 0) false e s) s)

/-- PTST: q[QD] := the register is poisoned or its parity is bad; no operand read (R188). -/
def execEngPtst (at_ : At) (gd : Guard) (f : RegForm) (s : State) : Host.Outcome State Fault Refusal :=
  finish (aOp at_ gd (f.legal3 && qdLegal f.d && classLegal f.s2 && classReg (f.s2.val / 8) f.s1) (fun e s =>
    let (_, _, tag, bad) := classRead (f.s2.val / 8) f.s1 e s
    sendQ (qOf f.d) (tag || bad) false e s) s)

/-- PCLR: clear the tag, keep the value, write fresh parity (R188). -/
def execEngPclr (at_ : At) (gd : Guard) (f : RegForm) (s : State) : Host.Outcome State Fault Refusal :=
  finish (aOp at_ gd (f.legal3 && f.s1 == 0 && classLegal f.s2 && classReg (f.s2.val / 8) f.d) (retag false f) s)

/-- PSET: set the tag, keep the value (R188). -/
def execEngPset (at_ : At) (gd : Guard) (f : RegForm) (s : State) : Host.Outcome State Fault Refusal :=
  finish (aOp at_ gd (f.legal3 && f.s1 == 0 && classLegal f.s2 && classReg (f.s2.val / 8) f.d) (retag true f) s)

/-- ADDI: g[D] := s1 + imm, wrap 32 (R187). -/
def execEngAddi (at_ : At) (gd : Guard) (f : ImmForm) (s : State) : Host.Outcome State Fault Refusal :=
  finish (aOp at_ gd (true) (aluImm (· + immS f) f) s)

/-- ANDI (R187). -/
def execEngAndi (at_ : At) (gd : Guard) (f : ImmForm) (s : State) : Host.Outcome State Fault Refusal :=
  finish (aOp at_ gd (true) (aluImm (· &&& immZ f) f) s)

/-- ORI (R187). -/
def execEngOri (at_ : At) (gd : Guard) (f : ImmForm) (s : State) : Host.Outcome State Fault Refusal :=
  finish (aOp at_ gd (true) (aluImm (· ||| immZ f) f) s)

/-- XORI (R187). -/
def execEngXori (at_ : At) (gd : Guard) (f : ImmForm) (s : State) : Host.Outcome State Fault Refusal :=
  finish (aOp at_ gd (true) (aluImm (· ^^^ immZ f) f) s)

/-- SHLI: s1 << IMM12[4:0] (R187). -/
def execEngShli (at_ : At) (gd : Guard) (f : ImmForm) (s : State) : Host.Outcome State Fault Refusal :=
  finish (aOp at_ gd (decide (f.imm.toNat < 32)) (aluImm (fun a => a <<< f.imm.toNat) f) s)

/-- SHRI: logical (R187). -/
def execEngShri (at_ : At) (gd : Guard) (f : ImmForm) (s : State) : Host.Outcome State Fault Refusal :=
  finish (aOp at_ gd (decide (f.imm.toNat < 32)) (aluImm (fun a => a >>> f.imm.toNat) f) s)

/-- SARI: arithmetic (R187). -/
def execEngSari (at_ : At) (gd : Guard) (f : ImmForm) (s : State) : Host.Outcome State Fault Refusal :=
  finish (aOp at_ gd (decide (f.imm.toNat < 32)) (aluImm (fun a => a.sshiftRight f.imm.toNat) f) s)

/-- CMPEQI: q[QD] := (s1 = imm) (R187). -/
def execEngCmpeqi (at_ : At) (gd : Guard) (f : ImmForm) (s : State) : Host.Outcome State Fault Refusal :=
  finish (aOp at_ gd (qdLegal f.d) (cmpImm (fun a => a == immS f) f) s)

/-- CMPLTI: signed (R187). -/
def execEngCmplti (at_ : At) (gd : Guard) (f : ImmForm) (s : State) : Host.Outcome State Fault Refusal :=
  finish (aOp at_ gd (qdLegal f.d) (cmpImm (fun a => decide (a.toInt < (immS f).toInt)) f) s)

/-- MOVIL: g[D] := sext32(IMM16) (R187). -/
def execEngMovil (at_ : At) (gd : Guard) (f : LongForm) (s : State) : Host.Outcome State Fault Refusal :=
  finish (aOp at_ gd (!f.zero) (fun e s => sendG 2 1 f.d (f.imm.signExtend 32) false e s) s)

/-- MOVIH: g[D][31:16] := IMM16, reading g[D] (R187). -/
def execEngMovih (at_ : At) (gd : Guard) (f : LongForm) (s : State) : Host.Outcome State Fault Refusal :=
  finish (aOp at_ gd (!f.zero) (fun e s =>
    let (a, ta, s) := readG f.d e s
    sendG 2 1 f.d (f.imm.append (a.extractLsb' 0 16)) ta e s) s)

/-- MOVTP: p[D] := s1[23:0] (R187). -/
def execEngMovtp (at_ : At) (gd : Guard) (f : RegForm) (s : State) : Host.Outcome State Fault Refusal :=
  finish (aOp at_ gd (f.legal2 && addrLegal f.d) (fun e s =>
    let (a, ta, s) := readG f.s1 e s
    send 2 1 (.p (aOf f.d)) ((a.setWidth 24).setWidth 40) ta false e s) s)

/-- MOVTM: m[D] := s1[23:0] (R187). -/
def execEngMovtm (at_ : At) (gd : Guard) (f : RegForm) (s : State) : Host.Outcome State Fault Refusal :=
  finish (aOp at_ gd (f.legal2 && addrLegal f.d) (fun e s =>
    let (a, ta, s) := readG f.s1 e s
    send 2 1 (.m (aOf f.d)) ((a.setWidth 24).setWidth 40) ta false e s) s)

/-- MOVTL: l[D] := s1[23:0] (R187). -/
def execEngMovtl (at_ : At) (gd : Guard) (f : RegForm) (s : State) : Host.Outcome State Fault Refusal :=
  finish (aOp at_ gd (f.legal2 && addrLegal f.d) (fun e s =>
    let (a, ta, s) := readG f.s1 e s
    send 2 1 (.l (aOf f.d)) ((a.setWidth 24).setWidth 40) ta false e s) s)

/-- MOVFP: g[D] := zero-extended p[S1] (R187). -/
def execEngMovfp (at_ : At) (gd : Guard) (f : RegForm) (s : State) : Host.Outcome State Fault Refusal :=
  finish (aOp at_ gd (f.legal2 && addrLegal f.s1) (fun e s =>
    let (a, ta, s) := readP (aOf f.s1) e s
    sendG 2 1 f.d (a.zeroExtend 32) ta e s) s)

/-- MOVFM: g[D] := sign-extended m[S1] (R187). -/
def execEngMovfm (at_ : At) (gd : Guard) (f : RegForm) (s : State) : Host.Outcome State Fault Refusal :=
  finish (aOp at_ gd (f.legal2 && addrLegal f.s1) (fun e s =>
    let (a, ta, s) := readM (aOf f.s1) e s
    sendG 2 1 f.d (a.signExtend 32) ta e s) s)

/-- MOVFL: g[D] := zero-extended l[S1] (R187). -/
def execEngMovfl (at_ : At) (gd : Guard) (f : RegForm) (s : State) : Host.Outcome State Fault Refusal :=
  finish (aOp at_ gd (f.legal2 && addrLegal f.s1) (fun e s =>
    let (a, ta, s) := readL (aOf f.s1) e s
    sendG 2 1 f.d (a.zeroExtend 32) ta e s) s)

end Sys2Proof.Machine
end

