-- ==== Sys2Proof/Machine/EngineCommands.lean ====
section
/-!
DEFINITION. Machine/EngineCommands.lean: replay, halt and time-out at safe points (R159 to R165), spare mapping (R166), classroom faults
(R169), prefetches (R216), and the engine debug commands of the TAP (R170 to R172).
-/

namespace Sys2Proof.Machine

/-- An engine event at a bundle boundary `adv` cycles on, while its lesson runs and before its deadline; otherwise nothing
happens (log entry 12). -/
def atBoundary (at_ : At) (body : Fin 32 → State → State) (s : State) : State :=
  if !engRunning s at_.eng || s.array.deadline ≤ (s.eng at_.eng).cycle + at_.adv then s
  else match ticks at_.eng at_.adv s with
    | some t => body at_.eng t
    | none => s

/-! ### Replay -/

/-- Rewrite the bundle at `a` from the lesson copy (R161), as the barn gives it (R321). -/
def rewriteBundle (a : Nat) (e : Fin 32) (s : State) : State :=
  match (engineWords s (runKind s) (logicalOf s e)).find? fun w => w.1 == a with
  | some w => s.onEng e fun x => { x with imem := sparseSet (fun _ => 0) x.imem a w.2 }
  | none => s

/-- Rewrite a constant word from the timetable copy, with the bound values of the bell processed (R161, R219); a word that the
timetable does not initialise has no copy: its value is free. -/
def rewriteConst (a : Nat) (e : Fin 32) (s : State) : State :=
  let img := runImage s
  let scope := if a < 0x60000 then logicalOf s e else 32 + logicalRoom s (e / 8)
  let (w, s) := match (initWords e s (runKind s) scope).find? fun w => w.1 == a with
    | some w => (w.2, s)
    | none =>
      let (v, s) := freeWord s
      ({ v }, s)
  let s := setWord e a w s
  match s.bell.processing with
  | some b =>
    (paramsOf img).foldl (fun (s : State) (p : ParamRec) =>
      if p.address / 4 * 4 ≤ a && a < p.address + tyBytes p.ty && (paramTargets img (runKind s) p).contains scope then
        writeGood e p.address (paramBytes b p) s
      else s) s
  | none => s

/-- What one detection leads to: whether the segment replays, the cycles of a rewrite, and the state after it (R161). A word that a re-read
finds bad is hard, unless what it holds is a stored poison marker (DEDUCED from R164 and R167, log entry 64). -/
def handleDet (e : Fin 32) (r : Bool × Nat × State) (d : Det) : Bool × Nat × State :=
  let (replays, cycles, s) := r
  let note (action : Nat) (s : State) : State := s.setBlock (K.lastFault e) (lastFaultBlock s e d.addr d.loc action)
  let rewriteTime := s.free (6 * kindMhz (runImage s) (runKind s) + 1)
  if d.loc = 1 then (true, cycles + rewriteTime, note 1 (rewriteBundle d.addr e s.draw))
  else if d.loc = 4 then (true, cycles + rewriteTime, note 1 (rewriteConst d.addr e s.draw))
  else if d.loc = 2 ∨ d.loc = 3 then
    if granulePending e d.addr s then (replays, cycles, note 2 s)
    else if (readMem e d.addr s).bad then
      -- a stored poison marker is no hard word: R164 and R167 have its word read good once a good value is stored
      let s := note (2 + s.free 2) s
      let s := if (s.eng e).hard.contains d.addr || !(getWord e d.addr s).flipped then s
        else (s.addSat 16 (K.hardWords e) 1).onEng e fun x => { x with hard := d.addr :: x.hard }
      (replays, cycles, s.draw)
    else (true, cycles, note 0 s)
  else (true, cycles, note 0 s)

/-- The segment replays: its checkpoint is restored, which takes 16 cycles (Example 6-1), its held writes are discarded
(R157, R162). -/
def replaySegment (cycles : Nat) (e : Fin 32) (s : State) : State :=
  let s := ((discardWrites e s).inc (K.replays e)).inc K.replayTotal
  let s := s.onEng e fun x =>
    let c := x.cycle + 16 + cycles
    { x with regs := x.checkpoint, pc := x.checkPc, posts := 0, cause := x.dets, dets := [], replayAt := none, noStore := false,
             cycle := c, segStart := c, lastSafe := c, lastSafePc := x.checkPc, used := 0, suppressed := false, bank := none,
             delayUntil := none }
  fetchBundle e s

/-- At the safe point after detections (R161 to R163). -/
def handleDetections (e : Fin 32) (s : State) : State :=
  let x := s.eng e
  if !(stopsHere x && replaysNow x) then s
  else match x.dets.find? fun d => (d.loc ≤ 1 || d.loc == 4 || d.loc == 5) && x.cause.contains d with
    | some d => engineFails 1 d.loc d.addr e s
    | none =>
      let (replays, cycles, s) := x.dets.foldl (handleDet e) (false, 0, s)
      if replays then replaySegment cycles e s
      else s.onEng e fun x => { x with dets := [], replayAt := none, noStore := false }

/-- REPLAY (R162). -/
def execReplay (at_ : At) (s : State) : Host.Outcome State Fault Refusal := finish (atBoundary at_ handleDetections s)

/-- Engine `e` is halted, to go on in state `st`: interrupt source 96 + e (R171, Table 16-7). -/
def haltEngine (e : Fin 32) (st : Nat) (s : State) : State :=
  raise (96 + e) ((s.setNum (K.engineState e) 3).onEng e fun x => { x with resumeTo := st })

/-- A debug halt is taken (R159, R172). -/
def takeHalt (e : Fin 32) (s : State) : State :=
  let x := s.eng e
  if x.used == 0 && safeNow x && haltsNow x && !replaysNow x then
    haltEngine e 1 (s.onEng e fun x => { x with haltAt := none })
  else s

/-- ENGINE_HALT_AT_SAFE_POINT (R159). A variant switch is taken by the SEG that ends its segment. -/
def execEngineHaltAtSafePoint (at_ : At) (s : State) : Host.Outcome State Fault Refusal := finish (atBoundary at_ takeHalt s)

/-- Cycles of the requests that wait for a safe point: a replay, a variant switch; a debug halt never fails an engine (R172). -/
def requestsAt (x : Engine) : List Nat := x.replayAt.toList ++ (if x.switchTo then [x.switchAt] else [])

/-- A request has met no safe point within 1,024 cycles (R159). -/
def Engine.timedOut (x : Engine) : Bool := (requestsAt x).any fun c => decide (c + 1024 ≤ x.cycle) && decide (x.lastSafe ≤ c)

/-- No safe point within 1,024 cycles of a request (R159); the manual gives LAST_FAULT no location for it: free. -/
def timeOut (e : Fin 32) (s : State) : State :=
  if (s.eng e).timedOut then engineFails 0 (s.free 7) (s.draw.free (2 ^ 32)) e s.draw.draw else s

/-- SAFE_POINT_TIMEOUT (R159). -/
def execSafePointTimeout (eng : Fin 32) (adv : Nat) (s : State) : Host.Outcome State Fault Refusal :=
  finish (atBoundary ⟨eng, adv⟩ timeOut s)

/-! ### The array -/

/-- SPARE_MAPPING_START (R166). -/
def execSpareMappingStart (s : State) : Host.Outcome State Fault Refusal :=
  match s.array.spareAt with
  | some (e, t) => finish (atInstant t (startSpare e) s)
  | none => finish s

/-- CLASSROOM_FAULT (R169). -/
def execClassroomFault (room : Fin 4) (s : State) : Host.Outcome State Fault Refusal := finish (classroomFails room s)

/-- Remove one copy of every granule of a list from another. -/
def dropGranules (gone : List Nat) (l : List Nat) : List Nat := gone.foldl (fun l g => l.erase g) l

/-- The data of a prefetch arrive: a marked 64-bit word of the barn makes bad words (R216, R318, R321); past the bound of R216 they are
late (R312). -/
def completePrefetch (x : Xfer) (s : State) : State :=
  let a := regionBase s s.array.slot x.region + x.offset
  let s := if decide (16 * (x.at_ + 6000) + 5 * x.length < 16 * s.clk.now) then raise 48 (s.inc K.schedLate) else s
  let ws := (List.range (x.length / 4)).map fun i =>
    ({ v := BitVec.ofNat 32 (leNat (readBarn s (a + 4 * i) 4)), bad := barnBad (x.eng.val / 8) s (a + 4 * i) } : MemWord)
  let s := writeWords x.eng x.loc ws (readMarks (x.eng.val / 8) a x.length s)
  if x.kind = 1 then s.onEng x.eng fun y => { y with granules := dropGranules (granulesOf x) y.granules }
  else s.onRoom (roomIdx x.eng) fun c => { c with granules := dropGranules (granulesOf x) c.granules }

/-- PREFETCH_COMPLETE (R216). -/
def execPrefetchComplete (room : Fin 4) (dt : Nat) (s : State) : Host.Outcome State Fault Refusal :=
  match (s.room room).queue.find? fun x => !x.held with
  | some x =>
    let s := s.elapse dt
    finish (completePrefetch x (s.onRoom room fun c => { c with queue := c.queue.erase x }))
  | none => finish s

/-! ### Engine debug -/

/-- ENG_DEBUG as a capture now gives it: RESULT, ENGINE, ADDRESS, DATA (Table 6-7); busy until the request completes (R170). -/
def engDebug (s : State) : BitVec 72 :=
  let t := s.tap
  BitVec.ofNat 72 ((if s.clk.now < t.busyUntil then 1 else t.result) * 2 ^ 64 + t.engine.val * 2 ^ 59
    + t.address.toNat * 2 ^ 32 + t.data.toNat)

/-- A request accepted now completes within `bound` ns, at an instant that the manual leaves open (R170). -/
def takesUpTo (bound : Nat) (s : State) : State :=
  { s.draw with tap := { s.tap with busyUntil := s.clk.now + s.free (bound + 1) } }

/-- Put the captured result in ENG_DEBUG (Table 6-7). -/
def capture (e : Fin 32) (result : Nat) (addr : BitVec 24) (data : BitVec 32) (s : State) : State :=
  { s with tap := { s.tap with result, engine := e, address := addr, data } }

/-- A debug command that gives no data: what DATA then captures the manual does not say. -/
def captured (e : Fin 32) (result : Nat) (addr : BitVec 24) (s : State) : State :=
  let (v, s) := freeWord s
  capture e result addr v s

/-- The frame of a debug command (R170, R171, R459): the TAP holds ENG_DEBUG, the debug state allows the command (`full` asks for
Full), the part is not in Standby, and the engine has not failed; the request takes up to `bound` ns. -/
def debugCommand (bound : Nat) (full : Bool) (e : Fin 32) (addr : BitVec 24) (dt : Nat) (body : State → State) (s : State) :
    Host.Outcome State Fault Refusal :=
  if tapInstr s ≠ .engDebug then finish s
  else
    let s := takesUpTo bound (s.elapse dt)
    let d := s.nat K.debugState
    if (full && d != 2) || enginesOff s then finish (captured e 2 addr s)
    else if s.nat (K.engineState e) = 4 then finish (captured e 5 addr s)
    else finish (body s)

/-- Engine `e` is halted. -/
def engHalted (s : State) (e : Fin 32) : Bool := s.nat (K.engineState e) == 3

/-- STATUS (R171): also of a failed engine. -/
def execDbgStatus (eng : Fin 32) (dt : Nat) (s : State) : Host.Outcome State Fault Refusal :=
  if tapInstr s ≠ .engDebug then finish s
  else
    let s := takesUpTo 1000 (s.elapse dt)
    if enginesOff s then finish (captured eng 2 0 s)
    else
      let x := s.eng eng
      finish (capture eng 0 0 (BitVec.ofNat 32 (s.nat (K.engineState eng) * 2 ^ 29 + b2n x.breakHit * 2 ^ 28
        + x.lastSafePc.toNat * 4096 + x.segment)) s)

/-- HALT (R171): at the next safe point; an engine without a lesson in progress halts where it stands. -/
def execDbgHalt (eng : Fin 32) (dt : Nat) (s : State) : Host.Outcome State Fault Refusal :=
  debugCommand 1000 true eng 0 dt (fun s =>
    let st := s.nat (K.engineState eng)
    let s := if st = 1 then s.onEng eng fun x => { x with haltAt := some (x.haltAt.getD x.cycle) }
      else if st = 3 then s
      else haltEngine eng st s
    captured eng 0 0 s) s

/-- A halted engine goes on: the bell has gone on without it, so its cycle is that of the present instant, while its counts of segment
cycles and of safe points leave the halt out; a variant switch that waits is taken first (R153, R159, R172). -/
def goOn (s : State) (x : Engine) : Engine :=
  let c := max x.cycle ((s.clk.now - s.bell.startAt) * kindMhz (runImage s) (runKind s) / 1000)
  { x with cycle := c, segStart := x.segStart + (c - x.cycle), lastSafe := c, breakHit := false,
           replayAt := x.replayAt.map fun (t : Nat) => min t (c - 1), appendix := x.appendix || x.switchTo, switchTo := false }

/-- RESUME (R171, R172). -/
def execDbgResume (eng : Fin 32) (dt : Nat) (s : State) : Host.Outcome State Fault Refusal :=
  debugCommand 1000 true eng 0 dt (fun s =>
    if !engHalted s eng then captured eng 3 0 s
    else captured eng 0 0 ((s.setNum (K.engineState eng) (s.eng eng).resumeTo).onEng eng fun x =>
      if x.resumeTo = 1 then goOn s x else { x with breakHit := false })) s

/-- STEP (R171). -/
def execDbgStep (eng : Fin 32) (dt : Nat) (s : State) : Host.Outcome State Fault Refusal :=
  debugCommand 1000 true eng 0 dt (fun s =>
    if !engHalted s eng then captured eng 3 0 s
    else if (s.eng eng).resumeTo = 1 then
      captured eng 0 0 ((s.setNum (K.engineState eng) 1).onEng eng fun x =>
        { goOn s x with haltAt := some ((goOn s x).cycle + 1) })
    else captured eng 0 0 s) s

/-- A register by its debug number (R170): 40 bits; none for a number above 62. -/
def regAt (r : EngRegs) (pc : BitVec 12) (n : Nat) : Option (BitVec 40) :=
  if n < 32 then r.g.toList[n]?.map fun x => x.v.setWidth 40
  else if n < 36 then r.acc.toList[n - 32]?.map Reg.v
  else if n < 44 then r.p.toList[n - 36]?.map fun x => x.v.setWidth 40
  else if n < 52 then r.m.toList[n - 44]?.map fun x => x.v.setWidth 40
  else if n < 60 then r.l.toList[n - 52]?.map fun x => x.v.setWidth 40
  else if n = 60 then some (BitVec.ofNat 40 (bitsOf (fun i => r.q.toList.getD i false) 4))
  else if n = 61 then some (r.rb.setWidth 40)
  else if n = 62 then some (pc.setWidth 40)
  else none

/-- READ_REG (R171): a running engine gives its last checkpoint. -/
def execDbgReadReg (eng : Fin 32) (addr : BitVec 24) (dt : Nat) (s : State) : Host.Outcome State Fault Refusal :=
  debugCommand 1000 false eng addr dt (fun s =>
    let x := s.eng eng
    let run := engRunning s eng
    let n := addr.toNat
    match regAt (if run then x.checkpoint else x.regs) (if run then x.checkPc else x.pc) n with
    | some v =>
      let a := if 32 ≤ n && n < 36 then (addr.extractLsb' 8 16).append (v.extractLsb' 32 8) else addr
      capture eng 0 a (v.setWidth 32) s
    | none => captured eng 4 addr s) s

/-- The destination of a debug register write, but for q, RB and PC. -/
def destAt (n : Nat) : Option Dest :=
  if h : n < 32 then some (.g ⟨n, h⟩)
  else if h : n - 32 < 4 then some (.acc ⟨n - 32, h⟩)
  else if h : n - 36 < 8 then some (.p ⟨n - 36, h⟩)
  else if h : n - 44 < 8 then some (.m ⟨n - 44, h⟩)
  else if h : n - 52 < 8 then some (.l ⟨n - 52, h⟩)
  else none

/-- Write register `n` of engine `e`, good and with a clear tag; the upper byte of an accumulator, which DATA does not reach, is
free. -/
def writeReg (n : Nat) (v : BitVec 32) (top : BitVec 8) (x : Engine) : Engine :=
  match destAt n with
  | some d => { x with regs := x.regs.put d (top.append v) false }
  | none =>
    if n = 60 then { x with regs := { x.regs with q := Vector.ofFn fun i => v.getLsbD i } }
    else if n = 61 then { x with regs := { x.regs with rb := v.setWidth 4, rbTag := false, rbBad := false } }
    else { x with pc := v.setWidth 12, regs := { x.regs with pcTag := false, pcBad := false } }

/-- WRITE_REG (R171): of a halted engine. -/
def execDbgWriteReg (eng : Fin 32) (addr : BitVec 24) (data : BitVec 32) (dt : Nat) (s : State) :
    Host.Outcome State Fault Refusal :=
  debugCommand 1000 true eng addr dt (fun s =>
    if !engHalted s eng then captured eng 3 addr s
    else if 62 < addr.toNat then captured eng 4 addr s
    else
      let top := BitVec.ofNat 8 (s.free 256)
      captured eng 0 addr (s.draw.onEng eng (writeReg addr.toNat data top))) s

/-- READ_MEM (R171): ADDRESS[8] reports bad parity. -/
def execDbgReadMem (eng : Fin 32) (addr : BitVec 24) (dt : Nat) (s : State) : Host.Outcome State Fault Refusal :=
  debugCommand 2000 false eng addr dt (fun s =>
    if !mapped addr.toNat then captured eng 4 addr s
    else
      let w := readMem eng addr.toNat s
      capture eng 0 ((addr &&& ~~~0x100#24) ||| (if w.bad then 0x100#24 else 0)) w.v s) s

/-- WRITE_MEM (R171): of a halted engine, or while bells are stopped. -/
def execDbgWriteMem (eng : Fin 32) (addr : BitVec 24) (data : BitVec 32) (dt : Nat) (s : State) :
    Host.Outcome State Fault Refusal :=
  debugCommand 2000 true eng addr dt (fun s =>
    if !(engHalted s eng || s.stopped) then captured eng 3 addr s
    else if !mapped addr.toNat then captured eng 4 addr s
    else captured eng 0 addr (setWord eng addr.toNat { v := data } s)) s

/-- Set breakpoint `i` of an engine. -/
def putBreak (i : Nat) (v : Option (BitVec 12)) (x : Engine) : Engine :=
  { x with breaks := if h : i < 4 then x.breaks.set i v else x.breaks }

/-- SET_BREAK (R171). -/
def execDbgSetBreak (eng : Fin 32) (addr : BitVec 24) (data : BitVec 32) (dt : Nat) (s : State) :
    Host.Outcome State Fault Refusal :=
  debugCommand 1000 true eng addr dt (fun s =>
    if 4 ≤ addr.toNat then captured eng 4 addr s
    else captured eng 0 addr (s.onEng eng (putBreak addr.toNat (some (data.setWidth 12))))) s

/-- CLEAR_BREAK (R171). -/
def execDbgClearBreak (eng : Fin 32) (addr : BitVec 24) (dt : Nat) (s : State) : Host.Outcome State Fault Refusal :=
  debugCommand 1000 true eng addr dt (fun s =>
    if 4 ≤ addr.toNat then captured eng 4 addr s
    else captured eng 0 addr (s.onEng eng (putBreak addr.toNat none))) s

end Sys2Proof.Machine
end

