-- ==== Sys2Proof/Machine/EngineMem.lean ====
section
/-!
DEFINITION. Machine/EngineMem.lean: the L slots and the C slot: loads, stores, posts, branches, repeats and marks (R189 to R199).
-/

namespace Sys2Proof.Machine

/-- LD: load a word or half, with optional post-modify (R190). -/
def execEngLd (at_ : At) (second : Bool) (gd : LGuard) (f : LForm) (s : State) : Host.Outcome State Fault Refusal :=
  finish (lOp at_ second gd f.memLegal (loadOp f) s)

/-- ST: store a word or half, with optional post-modify (R190, R191). -/
def execEngSt (at_ : At) (second : Bool) (gd : LGuard) (f : LForm) (s : State) : Host.Outcome State Fault Refusal :=
  finish (lOp at_ second gd f.memLegal (storeOp f) s)

/-- PMOD: post-modify without an access (R190). -/
def execEngPmod (at_ : At) (second : Bool) (gd : LGuard) (f : LForm) (s : State) : Host.Outcome State Fault Refusal :=
  finish (lOp at_ second gd f.pmodLegal (pmodOp f) s)

/-- POST: place a transfer descriptor in the classroom's queue (R192). -/
def execEngPost (at_ : At) (second : Bool) (gd : LGuard) (f : LForm) (s : State) : Host.Outcome State Fault Refusal :=
  finish (lOp at_ second gd f.postLegal (postOp f) s)

/-- BR: branch always, after two delay slots (R195). -/
def execEngBr (at_ : At) (target : BitVec 12) (s : State) : Host.Outcome State Fault Refusal :=
  finish (cOp at_ (branchOp true target) s)

/-- BRT: branch if q[QB] = 1 (R195). -/
def execEngBrt (at_ : At) (qb : Fin 4) (target : BitVec 12) (s : State) : Host.Outcome State Fault Refusal :=
  finish (cOp at_ (fun e s => branchOp (s.eng e).regs.q[qb] target e s) s)

/-- BRF: branch if q[QB] = 0 (R195). -/
def execEngBrf (at_ : At) (qb : Fin 4) (target : BitVec 12) (s : State) : Host.Outcome State Fault Refusal :=
  finish (cOp at_ (fun e s => branchOp (!(s.eng e).regs.q[qb]) target e s) s)

/-- REP: set up a repeat of COUNT + 1 iterations over LEN + 1 bundles (R196). -/
def execEngRep (at_ : At) (rot : Bool) (count : BitVec 7) (len : BitVec 6) (s : State) : Host.Outcome State Fault Refusal :=
  finish (cOp at_ (repOp rot count len) s)

/-- SEG: segment boundary (R197). -/
def execEngSeg (at_ : At) (s : State) : Host.Outcome State Fault Refusal := finish (cOp at_ segOp s)

/-- END: lesson end (R198). -/
def execEngEnd (at_ : At) (s : State) : Host.Outcome State Fault Refusal := finish (cOp at_ endOp s)

end Sys2Proof.Machine
end

