-- ==== Sys2Proof/Machine/EngineMul.lean ====
section
/-!
DEFINITION. Machine/EngineMul.lean: the M slot: multiplies and accumulator operations (R182 to R185), and NOP.
-/

namespace Sys2Proof.Machine

/-- MUL: acc[AD] := sext40(prod) (R184). -/
def execEngMul (at_ : At) (gd : Guard) (f : MulForm) (s : State) : Host.Outcome State Fault Refusal :=
  finish (mOp at_ gd f.mulLegal (mulWrite false f) s)

/-- MAC: acc[AD] := lim40(acc[AD] + prod) (R184). -/
def execEngMac (at_ : At) (gd : Guard) (f : MulForm) (s : State) : Host.Outcome State Fault Refusal :=
  finish (mOp at_ gd f.macLegal (mulAcc false f) s)

/-- MSU: acc[AD] := lim40(acc[AD] - prod) (R184). -/
def execEngMsu (at_ : At) (gd : Guard) (f : MulForm) (s : State) : Host.Outcome State Fault Refusal :=
  finish (mOp at_ gd f.macLegal (mulAcc true f) s)

/-- MULN: acc[AD] := sext40(-prod) (R184). -/
def execEngMuln (at_ : At) (gd : Guard) (f : MulForm) (s : State) : Host.Outcome State Fault Refusal :=
  finish (mOp at_ gd f.mulLegal (mulWrite true f) s)

/-- ACLR: acc[AD] := 0, with a clear tag (R185). -/
def execEngAclr (at_ : At) (gd : Guard) (f : AccForm) (s : State) : Host.Outcome State Fault Refusal :=
  finish (mOp at_ gd (MOp.accLegal .aclr f) (fun e s => send 1 2 (.acc f.ad) 0 false false e s) s)

/-- AMOV: acc[AD] := acc[AS], with its tag (R185). -/
def execEngAmov (at_ : At) (gd : Guard) (f : AccForm) (s : State) : Host.Outcome State Fault Refusal :=
  finish (mOp at_ gd (MOp.accLegal .amov f) (fun e s =>
    let (b, tb, s) := readAcc f.as_ e s
    send 1 2 (.acc f.ad) b tb false e s) s)

/-- AADD: acc[AD] := lim(acc[AD] + acc[AS]) (R185). -/
def execEngAadd (at_ : At) (gd : Guard) (f : AccForm) (s : State) : Host.Outcome State Fault Refusal :=
  finish (mOp at_ gd (MOp.accLegal .aadd f) (accAcc (fun a b => lim 40 f.sat (a.toInt + b.toInt)) f) s)

/-- ASUB: acc[AD] := lim(acc[AD] - acc[AS]) (R185). -/
def execEngAsub (at_ : At) (gd : Guard) (f : AccForm) (s : State) : Host.Outcome State Fault Refusal :=
  finish (mOp at_ gd (MOp.accLegal .asub f) (accAcc (fun a b => lim 40 f.sat (a.toInt - b.toInt)) f) s)

/-- ALDG: acc[AD] := lim(sext40(g[GR]) × 2^SH) (R185). -/
def execEngAldg (at_ : At) (gd : Guard) (f : AccForm) (s : State) : Host.Outcome State Fault Refusal :=
  finish (mOp at_ gd (MOp.accLegal .aldg f) (fun e s =>
    let (a, ta, s) := readG f.gr e s
    send 1 2 (.acc f.ad) (lim 40 f.sat (a.toInt * (2 ^ f.sh.val : Nat))) ta false e s) s)

/-- AEXT: g[GR] := lim32(shr(acc[AD], SH)) (R185). -/
def execEngAext (at_ : At) (gd : Guard) (f : AccForm) (s : State) : Host.Outcome State Fault Refusal :=
  finish (mOp at_ gd (MOp.accLegal .aext f) (accExtract (fun a => lim 32 f.sat (shrRnd a.toInt f.sh f.rnd)) f) s)

/-- AEX16: g[GR] := sext32(lim16(shr(acc[AD], SH))) (R185). -/
def execEngAex16 (at_ : At) (gd : Guard) (f : AccForm) (s : State) : Host.Outcome State Fault Refusal :=
  finish (mOp at_ gd (MOp.accLegal .aex16 f) (accExtract (fun a => (lim 16 f.sat (shrRnd a.toInt f.sh f.rnd)).signExtend 32) f) s)

/-- ASHR: acc[AD] := shr(acc[AD], SH) (R185). -/
def execEngAshr (at_ : At) (gd : Guard) (f : AccForm) (s : State) : Host.Outcome State Fault Refusal :=
  finish (mOp at_ gd (MOp.accLegal .ashr f) (fun e s =>
    let (a, ta, s) := readAcc f.ad e s
    send 1 2 (.acc f.ad) (BitVec.ofInt 40 (shrRnd a.toInt f.sh f.rnd)) ta false e s) s)

/-- The number of a slot in the order C, M, A, L0, L1 (R149). -/
def slotNumber (k : Slot) : Nat :=
  match k with
  | .c => 0 | .m => 1 | .a => 2 | .l0 => 3 | .l1 => 4

/-- NOP: the slot performs nothing for its cycle (R175). -/
def execEngNop (at_ : At) (slot : Slot) (s : State) : Host.Outcome State Fault Refusal :=
  finish (issue at_ (slotNumber slot) (fun _ s => s) s)

end Sys2Proof.Machine
end

