-- ==== Sys2Proof/Machine/HostCommands.lean ====
section
/-!
DEFINITION. Machine/HostCommands.lean: the PCI Express endpoint's commands (R386 to R393).
-/

namespace Sys2Proof.Machine

/-- PCI Express is on: not in Hold, Off or reset, and no shut-down has taken the link down (Table 18-4, R495). -/
def hostOn (s : State) : Bool := awake s && portsOn s

/-- The host reaches the endpoint's registers: it no longer answers with CRS (R488; log entry 125). -/
def hostOpen (s : State) : Bool := hostOn s && !s.host.crs

/-- What the host does at the endpoint's registers after `dt`. -/
def fromHost (dt : Nat) (f : State → State) (s : State) : Host.Outcome State Fault Refusal :=
  finish (if hostOpen s then f (hostAccess dt s) else s)

/-- The 8320 fetches an entry (R387): ENABLE, an entry in the ring, DMA running, fewer than 16 unanswered requests. -/
def fetches (s : State) : Bool :=
  s.host.enable && s.host.rqHead != s.host.rqTail && dmaRuns s && decide (s.host.fetched.length < 16)

/-- The entry at RQ_HEAD is taken by a read of host memory. -/
def takeEntry (s : State) : State :=
  tlpSent { s with host := { s.host with rqHead := (s.host.rqHead + 1) % 2 ^ 32 } }

/-- The completion of an entry that failed: TAG, OPCODE and CHANNEL from the entry, in the ring it names. What the entry
does not give, because it was not fetched or names no ring, is free. -/
def failEntry (head : Option EntryHead) (status : Nat) (s : State) : State :=
  match head with
  | some h =>
    if hq : h.cq.toNat < 4 then
      complete ⟨h.cq.toNat, hq⟩ { tag := h.tag.toNat, status, opcode := h.opcode.toNat, channel := h.channel.toNat } s
    else
      complete ⟨s.free 4, Nat.mod_lt _ (by decide)⟩
        { tag := h.tag.toNat, status, opcode := h.opcode.toNat, channel := h.channel.toNat } s.draw
  | none =>
    let s1 := s.draw
    let s2 := s1.draw
    let s3 := s2.draw
    complete ⟨s.free 4, Nat.mod_lt _ (by decide)⟩
      { tag := s1.free (2 ^ 32), status, opcode := s2.free 256, channel := s3.free 65536 } s3.draw

/-- RQ_DOORBELL (R387): a write of RQ_TAIL. -/
def execRqDoorbell (value : BitVec 32) (dt : Nat) (s : State) : Host.Outcome State Fault Refusal :=
  fromHost dt (fun s => { s with host := { s.host with rqTail := value.toNat } }) s

/-- HOST_DICT_REQUEST (R387): a fetched request, presented in its turn. -/
def execHostDictRequest (cq : Fin 4) (tag : BitVec 32) (dst : BitVec 64) (dstLen : BitVec 32) (req : Request) (dt : Nat)
    (s : State) : Host.Outcome State Fault Refusal :=
  if fetches s then
    let s := takeEntry (s.elapse dt)
    finish (selfTurns 16 (presentHost { s with host := { s.host with
      fetched := s.host.fetched ++ [{ tag := tag.toNat, cq, channel := req.channel.toNat, dst := dst.toNat, dstLen := dstLen.toNat,
                                      req }] } }))
  else finish s

/-- HOST_BUFFER_POST (R387): a buffer joins its channel, which holds at most 64; a length that is not a multiple of 64 is a
malformed entry (Table 15-3). -/
def execHostBufferPost (cq : Fin 4) (channel : Fin 16) (tag : BitVec 32) (addr : BitVec 64) (len : BitVec 32) (dt : Nat)
    (s : State) : Host.Outcome State Fault Refusal :=
  if fetches s then
    let s := takeEntry (s.elapse dt)
    let bad : Completion := { tag := tag.toNat, status := 5, opcode := 2, channel := channel.val }
    if len.toNat % 64 ≠ 0 then finish (complete cq bad (aerCount 4 s))
    else if 64 ≤ (s.posted channel).length then finish (complete cq bad s)
    else
      finish (serveHost (s.setPosted channel (s.posted channel
        ++ [{ tag := tag.toNat, cq, channel := channel.val, addr := addr.toNat, len := len.toNat }])))
  else finish s

/-- HOST_ENABLE (R387). -/
def execHostEnable (value : Bool) (dt : Nat) (s : State) : Host.Outcome State Fault Refusal :=
  fromHost dt (fun s => { s with host := { s.host with enable := value } }) s

/-- RESET_QUEUES (R392). -/
def execResetQueues (dt : Nat) (s : State) : Host.Outcome State Fault Refusal :=
  fromHost dt (fun s =>
    let s := dropQueues s
    { s with host := { s.host with resetDone := true } }) s

/-- HOST_STATUS_CLEAR (Table 15-2): W1C. -/
def execHostStatusClear (value : BitVec 32) (dt : Nat) (s : State) : Host.Outcome State Fault Refusal :=
  fromHost dt (fun s => { s with host := { s.host with
    fetchError := s.host.fetchError && !value.getLsbD 2, cqStall := s.host.cqStall && !value.getLsbD 1,
    resetDone := s.host.resetDone && !value.getLsbD 0 } }) s

/-- CQ_HEAD_WRITE (R390): held completions resume. -/
def execCqHeadWrite (ring : Fin 4) (value : BitVec 32) (dt : Nat) (s : State) : Host.Outcome State Fault Refusal :=
  fromHost dt (fun s =>
    let s := s.onRing ring fun r => { r with head := value.toNat }
    flushRing ring (s.ring ring).held.length s) s

/-- MOD_TIMER_EXPIRY (R391). -/
def execModTimerExpiry (ring : Fin 4) (s : State) : Host.Outcome State Fault Refusal :=
  match (s.ring ring).timer with
  | some t =>
    finish (atInstant (t + 1000 * (s.ring ring).modTime) (fun s =>
      messageDue ⟨ring, by omega⟩ (s.onRing ring fun r => { r with timer := none, expired := true })) s)
  | none => finish s

/-- MSIX_UNMASK (R391): pending messages are sent as soon as they may be. -/
def execMsixUnmask (vector : Option (Fin 32)) (dt : Nat) (s : State) : Host.Outcome State Fault Refusal :=
  fromHost dt (fun s => match vector with
    | some v =>
      let s := { s with host := { s.host with maskBits := s.host.maskBits &&& ~~~(1#32 <<< v.val) } }
      if h : v.val < 5 then trySend ⟨v.val, h⟩ s else s
    | none => trySendAll { s with host := { s.host with msixEnable := true, functionMask := false } }) s

/-- ASPM_L1_ENTRY (R392): 10 µs with no TLP. -/
def execAspmL1Entry (s : State) : Host.Outcome State Fault Refusal :=
  if s.host.aspmEnable ∧ s.nat K.hostLink = 2 then
    finish (atInstant (s.host.lastTlp + 10000) (fun s => s.setNum K.hostLink 3) s)
  else finish s

/-- HOST_D3HOT_ENTRY (R392): a write of the host, for which the link leaves L1. -/
def execHostD3hotEntry (dt : Nat) (s : State) : Host.Outcome State Fault Refusal :=
  if 2 ≤ s.nat K.hostLink ∧ s.nat K.hostDState = 0 then fromHost dt (fun s => raise 49 (s.setNum K.hostDState 3)) s
  else finish s

/-- HOST_D0_RETURN (R392): held writes in order, then pending messages. -/
def execHostD0Return (dt : Nat) (s : State) : Host.Outcome State Fault Refusal :=
  if 2 ≤ s.nat K.hostLink ∧ s.nat K.hostDState = 3 then fromHost dt returnToD0 s
  else finish s

/-- HOST_HOT_RESET (R392): a hot reset or FLR, or the link down. -/
def execHostHotReset (linkDown : Bool) (dt : Nat) (s : State) : Host.Outcome State Fault Refusal :=
  let s := hostReset (s.elapse dt)
  finish (if linkDown then ((s.setNum K.hostLink 0).setNum K.linkSpeed 0).setNum K.linkWidth 0 else s)

/-- HOST_LINK_UP (R397): the link trains to L0 at a rate and width of Table 15-1; with rate and width 0 it begins to train. -/
def execHostLinkUp (speed : BitVec 2) (width : BitVec 3) (dt : Nat) (s : State) : Host.Outcome State Fault Refusal :=
  if speed = 0 ∧ width = 0 ∧ s.nat K.hostLink = 0 ∧ hostOn s then finish ((s.elapse dt).setNum K.hostLink 1)
  else if speed ≠ 0 ∧ (width = 1 ∨ width = 2 ∨ width = 4) ∧ s.nat K.hostLink ≤ 1 ∧ hostOn s then
    let s := (s.elapse dt).setNum K.hostLink 2
    let s := (s.setNum K.linkSpeed speed.toNat).setNum K.linkWidth width.toNat
    finish (serveHost { s with host := { s.host with lastTlp := s.clk.now } })
  else finish s

/-- TDC_FLUSH_EXPIRY (R388): TDC_FLUSH after the first stamp of the buffer in use. -/
def execTdcFlushExpiry (chan : Fin 8) (s : State) : Host.Outcome State Fault Refusal :=
  match s.posted (tdcChannel chan) with
  | p :: _ =>
    if p.bytes.isEmpty then finish s
    else finish (atInstant (p.firstAt + 1000 * s.nat K.tdcFlush) (closeStamps chan) s)
  | [] => finish s

/-- A BAR2 access of `n` bytes at window offset `x` (R386, R447): the state in which it is checked, and whether window 1
permits it. -/
def bar2Check (kind x n dt : Nat) (s : State) : State × Bool :=
  let s := tlpSent (awaitBase (awaitWindow 1 (s.elapse dt)))
  (s, windowPermits s 1 kind x n)

/-- BAR2 answers: the function is in D0, the offset lies in the window, and the barn is trained (R386). -/
def bar2Reaches (x n : Nat) (s : State) : Bool :=
  dmaRuns s && decide (x + n ≤ s.host.windowBytes) && decide (s.host.windowBase + x + n ≤ s.nat K.barnBytes)
    && 2 ≤ barnState s && barnState s ≤ 5

/-- A refused access adds one to a row of AER_COUNTS that R386 does not name: a free one. -/
def refuseBar2 (x : Nat) (s : State) : State :=
  let i := s.free 6
  aerCount ⟨i, Nat.mod_lt _ (by decide)⟩ (refuseAccess 1 x s.draw)

/-- BAR2_READ (R386, R393). -/
def execBar2Read (offset : BitVec 32) (len dt : Nat) (s : State) : Host.Outcome State Fault Refusal :=
  if bar2Reaches offset.toNat len s then
    let (s, ok) := bar2Check 0 offset.toNat len dt s
    if ok then
      let a := s.host.windowBase + offset.toNat
      let (_, s) := wakeBarn 7 s
      if (List.range len).any fun i => barnBad 7 s (a + i) then
        let s := aerCount 1 (readMarks 7 a len s)
        finish { s with host := { s.host with lastRead := none } }
      else finish { s with host := { s.host with lastRead := some (readBarn s a len) } }
    else
      let s := refuseBar2 offset.toNat s
      finish { s with host := { s.host with lastRead := none } }
  else finish s

/-- BAR2_WRITE (R386): the bytes join the write queues; a refused write is discarded. -/
def execBar2Write (offset : BitVec 32) (data : List Byte) (dt : Nat) (s : State) : Host.Outcome State Fault Refusal :=
  if bar2Reaches offset.toNat data.length s then
    let (s, ok) := bar2Check 1 offset.toNat data.length dt s
    if ok then
      let a := s.host.windowBase + offset.toNat
      finish (requestWrite 7 a data s)
    else finish (refuseBar2 offset.toNat s)
  else finish s

/-- FETCH_COMPLETION_TIMEOUT (R393). -/
def execFetchCompletionTimeout (head : Option EntryHead) (dt : Nat) (s : State) : Host.Outcome State Fault Refusal :=
  if fetches s then
    let s := aerCount 3 (takeEntry (s.elapse dt))
    finish (failEntry head 4 { s with host := { s.host with fetchError := true } })
  else finish s

/-- FETCH_COMPLETION_ERROR (R393): UR or CA sets FETCH_ERROR; a poisoned completion does not. -/
def execFetchCompletionError (head : Option EntryHead) (poisoned : Bool) (dt : Nat) (s : State) :
    Host.Outcome State Fault Refusal :=
  if fetches s then
    let s := takeEntry (s.elapse dt)
    if poisoned then finish (failEntry head 4 (aerCount 2 s))
    else
      let s := aerCount 3 s
      finish (failEntry head 4 { s with host := { s.host with fetchError := true } })
  else finish s

/-- MALFORMED_REQUEST_ENTRY (R393). -/
def execMalformedRequestEntry (head : EntryHead) (dt : Nat) (s : State) : Host.Outcome State Fault Refusal :=
  if fetches s then finish (failEntry (some head) 5 (aerCount 4 (takeEntry (s.elapse dt)))) else finish s

end Sys2Proof.Machine
end

