-- ==== Sys2Proof/Machine/PolicyCommands.lean ====
section
/-!
DEFINITION. Machine/PolicyCommands.lean: the policy's evaluations and expiries (R424 to R434), and the end of a housekeeping slot,
whose result of source 0x23 the policy watches (R285, R428).
-/

namespace Sys2Proof.Machine

/-- The control firmware runs, and the policy with it (R422, R494). -/
def policyRuns (s : State) : Bool := s.cores.controlAlive

/-- Seconds in ns. -/
def seconds (n : Nat) : Nat := n * 1000000000

/-- POWER_EVALUATION (R424): a window of 256 counting bells is full. -/
def execPowerEvaluation (s : State) : Host.Outcome State Fault Refusal :=
  finish (if policyRuns s && s.nat K.powerLine ≠ 255 && 256 ≤ s.policy.powerBells then evaluatePower s else s)

/-- WEIGHT_EVALUATION (R425): a weight period is full, in Diverse mode. -/
def execWeightEvaluation (s : State) : Host.Outcome State Fault Refusal :=
  finish (if policyRuns s && s.nat K.weightEnable = 1 && s.nat K.spatialMode = 2 && s.nat K.weightPeriod ≤ s.policy.weightBells then
      evaluateWeights s else s)

/-- FADE_EVALUATION (R426): 256 counting bells are measured. -/
def execFadeEvaluation (s : State) : Host.Outcome State Fault Refusal :=
  finish (if policyRuns s && s.nat K.patternEnable = 1 && 256 ≤ s.policy.fadeBells then evaluateFade s else s)

/-- THERMAL_CAUSE_CLEAR (R428): results have stayed below THERMAL_LOW for RETURN_DWELL. -/
def execThermalCauseClear (s : State) : Host.Outcome State Fault Refusal :=
  match s.policy.belowSince with
  | some t =>
    finish (if policyRuns s && (causeStands s 2 || causeStands s 3) then atInstant (t + seconds (s.nat K.returnDwell)) thermalClears s else s)
  | none => finish s

/-- HOLDOVER_LIMIT_EXPIRY (R429). -/
def execHoldoverLimitExpiry (s : State) : Host.Outcome State Fault Refusal :=
  match s.policy.holdoverSince with
  | some t =>
    if policyRuns s && s.nat K.holdoverLimit ≠ 0 && !s.policy.holdoverNoted then
      finish (atInstant (t + seconds (s.nat K.holdoverLimit)) (fun s =>
        decideAs 7 (levelNow s) none 0 none { s with policy := { s.policy with holdoverNoted := true } }) s)
    else finish s
  | none => finish s

/-- LEVEL_DWELL_RETURN (R434): RETURN_DWELL has passed since the last cause cleared. -/
def execLevelDwellReturn (s : State) : Host.Outcome State Fault Refusal :=
  match s.policy.lastCleared with
  | some t =>
    if s.nat K.levelInEffect = 5 || !policyRuns s then finish s
    else finish (atInstant (t + seconds (s.nat K.returnDwell)) (fun s =>
      reselect 8 { s with policy := { s.policy with lastCleared := none } }) s)
  | none => finish s

/-- The results of source 0x23 in the slot that ends, each with OVER_RANGE: a slot may convert it twice (R285, R428). -/
def thermalReadings (s : State) : List (Nat × Bool) :=
  let w := runSlot s s.hk.slot
  let m := s.hk.settings
  let a := inputResult m w (slotA w) false s.hk.openA s
  let one (code : Nat) (s : State) : List (Nat × Bool) :=
    if code = 0x23 && !slotTest w then [(s.nat (K.hkValue 0x23), bitOf (s.nat (K.hkInFlags 0x23)) 3)] else []
  one (slotA w) a ++ one (slotB w) (inputResult m w (slotB w) true s.hk.openB a)

/-- They reach the thermal policy (R428). -/
def watchThermal (rs : List (Nat × Bool)) (s : State) : State :=
  rs.foldl (fun (s : State) (r : Nat × Bool) => thermalResult r.1 r.2 s) s

/-- HK_SLOT_END (R281, R285): every conversion of the slot is done. -/
def execHkSlotEnd (s : State) : Host.Outcome State Fault Refusal :=
  let w := runSlot s s.hk.slot
  if s.hk.running ∧ s.hk.raws.length = slotConversions w then
    finish (atInstant (s.hk.slotStart + slotLength w) (fun s => watchThermal (thermalReadings s) (nextSlot (slotResults s))) s)
  else finish s

end Sys2Proof.Machine
end

