-- ==== Sys2Proof/Machine/SecurityCommands.lean ====
section
/-!
DEFINITION. Machine/SecurityCommands.lean: expiries of sessions and lockouts (R443, R444), window changes (R447), the writing of
black-box records (R467, R470) and in-service slices (R481).
-/

namespace Sys2Proof.Machine

/-- SESSION_IDLE_EXPIRY (R443): SESSION_IDLE seconds without a request from the initiator. -/
def execSessionIdleExpiry (ini : Fin 3) (s : State) : Host.Outcome State Fault Refusal :=
  if s.nat (K.sessionLevel ini) < 2 then
    finish (atInstant (s.sec.lastRequest[ini] + s.nat K.sessionIdle * 1000000000) (endSession ini) s)
  else finish s

/-- LOCKOUT_EXPIRY (R444): 60 s after the fourth failure. -/
def execLockoutExpiry (ini : Fin 3) (s : State) : Host.Outcome State Fault Refusal :=
  match s.sec.lockUntil[ini] with
  | some t => finish (atInstant t (fun s => { s with sec := { s.sec with lockUntil := s.sec.lockUntil.set ini none } }) s)
  | none => finish s

/-- WINDOW_CHANGE (R447): the change instant of a written window. -/
def execWindowChange (window : Fin 3) (s : State) : Host.Outcome State Fault Refusal :=
  match s.sec.windowNext[window] with
  | some (c, _) => finish (atInstant c (changeWindow window) s)
  | none => finish s

/-- BB_RECORD_WRITE (R467, R470): the oldest queued record is written and read back; one that does not read back leaves its slot
free, with what was found in it, and keeps its place. -/
def execBbRecordWrite (readsBack : ReadBack) (dt : Nat) (s : State) : Host.Outcome State Fault Refusal :=
  if bbState s = 1 then
    let s := s.elapse dt
    match s.bb.queue, readsBack with
    | _ :: _, .holds => finish (sealOldest false s)
    | r :: _, .differs found => finish (freeBbSlot (slotFor s r) found (s.inc K.mramRetries))
    | [], _ => finish s
  else finish s

/-- At least 41 µs remain before the lesson deadline (R481). -/
def sliceFits (s : State) : Bool :=
  decide (s.clk.now * activeMhz s + 41000 * activeMhz s ≤ s.bell.startAt * activeMhz s + s.array.deadline * 1000)
where
  /-- ENGCLK in MHz. -/
  activeMhz (s : State) : Nat := 100 * cyclesPerRef (activeImage s) (s.nat K.variantInEffect)

/-- A target of in-service slices (R481): the unused spares of an engine's or a classroom's memories, a classroom bank without owner, the
banks of a failed engine. -/
inductive SliceTarget where
  | engineSpares (e : Fin 32)
  | roomSpares (c : Fin 4)
  | roomBank (c : Fin 4) (b : Fin 16)
  | failedEngine (e : Fin 32)
  deriving DecidableEq, Repr

/-- Bank `b` of physical classroom `c` has no owner in any frame cycle of the active slot table (R214, R481). -/
def unowned (s : State) (c : Fin 4) (b : Fin 16) : Bool :=
  let t := roomSec s 6 c
  t.isEmpty || (List.range 16).all fun f => slotOwner t f b == 15

/-- The targets, in the order in which they are taken (R481; log entry 122). -/
def sliceTargets (s : State) : List SliceTarget :=
  (List.finRange 32).map .engineSpares ++ (List.finRange 4).map .roomSpares
    ++ (List.finRange 4).flatMap (fun c => ((List.finRange 16).filter (unowned s c)).map (.roomBank c))
    ++ ((List.finRange 32).filter fun (e : Fin 32) => !bitOf (s.nat K.enginesInService) e.val).map .failedEngine

/-- The target in turn; there are always spares. -/
def targetNow (s : State) : SliceTarget :=
  (sliceTargets s).getD (s.bb.sliceTarget % (sliceTargets s).length) (.engineSpares 0)

/-- Engine `e` is past its END: no lesson of it is in progress (R481). -/
def pastEnd (s : State) (e : Fin 32) : Bool := s.nat (K.engineState e) != 1 && s.nat (K.engineState e) != 3

/-- The target's engine is in recess, or every engine of its classroom is (R481). -/
def recess (t : SliceTarget) (s : State) : Bool :=
  match t with
  | .engineSpares e | .failedEngine e => pastEnd s e
  | .roomSpares c | .roomBank c _ => (List.finRange 32).all fun (e : Fin 32) => roomIdx e != c || pastEnd s e

/-- A failing cell lies in the target (R479, R481): `outcome` 0 and 1 are a spare row and a spare column, 2 a cell of a bank. -/
def faultIn (t : SliceTarget) (f : CellFault) : Bool :=
  let k := f.kind.toNat
  let u := f.unit.toNat
  let spare := f.outcome.toNat < 2
  match t with
  | .engineSpares e => (k == 1 || k == 2) && u == e.val && spare
  | .roomSpares c => k == 3 && u == c.val && spare
  | .roomBank c b => k == 3 && u == c.val && f.bank.toNat == b.val && !spare
  | .failedEngine e => (k == 1 || k == 2) && u == e.val && !spare

/-- A log entry of a failing cell (R480). -/
def cellLog (f : CellFault) : CellLog :=
  { kind := f.kind.toNat, unit := f.unit.toNat, bank := f.bank.toNat, outcome := f.outcome.toNat, word := f.word.toNat,
    bit := f.bit.toNat }

/-- A failing slice (R481). -/
def sliceFails (f : CellFault) (s : State) : State :=
  let c := cellLog f
  let s := s.inc K.sliceFails
  let s := { s with bb := { s.bb with lastSlice := some c, marks := if s.bb.marks.contains c then s.bb.marks else s.bb.marks ++ [c] } }
  raise 54 (record 1 0x6C00 0x6C05 c.bytes s)

/-- The last slice of a target is over: the next target is in turn, and after the last one the pass is complete (R481, R484). -/
def endTarget (s : State) : State :=
  let n := (sliceTargets s).length
  let i := s.bb.sliceTarget % n + 1
  let s := { s with bb := { s.bb with sliceTarget := i % n } }
  if i = n then s.inc K.slicePasses else s

/-- IN_SERVICE_SLICE (R481): every SLICE_PERIOD bells, in recess. -/
def execInServiceSlice (fault : Option CellFault) (passEnds : Bool) (s : State) : Host.Outcome State Fault Refusal :=
  let t := targetNow s
  if s.nat K.sliceEnable = 1 && s.running && decide (s.nat K.slicePeriod ≤ s.bb.sliceBells) && recess t s && sliceFits s
      && fault.all (faultIn t) then
    let s := { s with bb := { s.bb with sliceBells := 0 } }
    let s := match fault with
      | some f => sliceFails f s
      | none => s
    finish (if passEnds then endTarget s else s)
  else finish s

end Sys2Proof.Machine
end

