-- ==== Sys2Proof/Machine/PowerOps.lean ====
section
/-!
DEFINITION. Machine/PowerOps.lean: power states (R451 to R453), Brace and Hold (R455 to R457), reset (R485, R486), the orderly
shut-down (R495, R496), and what outlives a reset.
-/

namespace Sys2Proof.Machine

/-! ### What outlives a reset -/

/-- Entries held in the configuration store: "kept" or "next start" in their tables (R330, R357, R359, R360, R383, R397, R421,
R460, R484, R493). -/
def keptKeys : List Key :=
  barnStartKeys ++ (List.range 4).map K.levelCap ++ [K.portMode 0, K.portMode 1]
    ++ [K.supAreaBytes, K.deviceName, K.rightsOverrides, K.profileAuto, K.hostWindowBytes, K.appCoreRun, K.debugDefault,
        K.sessionIdle, K.bistOnShutdown, K.startTtSlot, K.startBells, K.startAlign]

/-- Entries that MRAM and the engine array carry over a reset: the start and Hold counts (R461, R463), what the last full start
found and what was found since (R165, R174, R484). -/
def lastingKeys : List Key :=
  [K.startCount, K.holdCount, K.unrepaired, K.enginesInService] ++ (List.range 32).map K.hardWords

/-- Copy the entries `ks` of one store into another. -/
def copyKeys (ks : List Key) (source : Sparse DVal) (m : Sparse DVal) : Sparse DVal :=
  ks.foldl (fun m k => sparseSet defaultVal m k (valIn source k)) m

/-- The dictionary store after a reset. A configuration write made in Brace is lost if Hold follows (R455). -/
def storeAfterReset (s : State) : Sparse DVal :=
  copyKeys lastingKeys s.dict.store (copyKeys keptKeys (s.power.held.getD s.dict.store) [])

/-- The machine in reset: every field at its reset value but for fuses, MRAM, flash, the configuration store, the engines that
stay failed and the words that stay hard until a full start (R161, R165), and the level on the INTERLOCK_N pin. `cause` is what RESET_CAUSE will read. -/
def afterReset (cause : Nat) (s : State) : State :=
  { State.reset with
    dict := { store := storeAfterReset s, profiles := s.dict.profiles, imageSlots := s.dict.imageSlots },
    bb := { slots := s.bb.slots, cards := s.bb.cards, repairs := s.bb.repairs, marks := s.bb.marks, bistLog := s.bb.bistLog,
            training := s.bb.training, torn := s.bb.torn, startCopies := s.bb.startCopies },
    sec := { keys := s.sec.keys, revoked := s.sec.revoked, fuseLifecycle := s.sec.fuseLifecycle },
    cores := { copies := s.cores.copies },
    drive := { interlockLow := s.drive.interlockLow },
    array := bareArray s.array,
    power := { cause },
    pending := s.pending,
    drawn := s.drawn }

/-! ### Power states -/

/-- The application core starts as R410 states: only with APP_CORE_RUN 1, outside Retired, and with a valid copy; an unrepaired
cell of its TCM holds it in reset (Table 19-6). `go` releases it. -/
def releaseApp (go : State → State) (s : State) : State :=
  if s.nat K.appCoreRun ≠ 1 || s.nat K.lifecycle = 3 || s.start.appBad then setAppState 0 s
  else if appValid s then go s
  else setAppState 5 s

/-- Standby is reached (R451): engines, converters, drive and application core off; the barn may enter self-refresh. -/
def enterStandby (s : State) : State :=
  let s := settleLines (loseEngines (s.setNum K.powerState 2))
  let s := resetHart 1 0 s
  let s := setAppState 6 { s with cores := { s.cores with appTcm := [], appLoading := false } }
  refreshTx { s with barn := { s.barn with idleFrom := some s.clk.now } }

/-- Foreground calibration begins (R110). -/
def startConverterCal (s : State) : State :=
  { s.setNum K.calState 1 with chain := { s.chain with calSince := some s.clk.now } }

/-- Watch is reached from Standby (R453): the sections are reloaded from the barn, which that wakes, converters are calibrated, the
application core starts, and the next lessons re-seed everything. -/
def leaveStandby (s : State) : State :=
  let s := settleLines (s.setNum K.powerState 1)
  let s := if timetableActive s then loadSections (wakeBarn 13 s).2 else s
  let s := s.setNum K.barnState (if s.nat K.barnState = 6 then 6 else 2)
  let s := { s with barn := { s.barn with idleFrom := none, exitAt := none }, array := { s.array with reseedAll := true } }
  refreshTx (releaseApp loadAppCore (startConverterCal s))

/-- A transition completes (R452). Quiet counts as Watch and shows as 4 (R451). -/
def transitionDone (was dest : Nat) (s : State) : State :=
  let s := { s with power := { s.power with transition := none } }
  let s := if dest = 2 then enterStandby s
    else if was = 2 then leaveStandby s
    else settleLines (s.setNum K.powerState dest)
  if dest ≠ 2 && quiet s then s.setNum K.powerState 4 else s

/-! ### Brace and Hold -/

/-- The bells being acquired and processed are flagged "supply-dip" (R455). -/
def markDip (s : State) : State :=
  (s.onAcquiring fun b => b.flagIf true .supplyDip).onProcessing fun b => b.flagIf true .supplyDip

/-- A warning crossing of `rail`, 200 ns after it began (R454, R455). -/
def supplyWarning (rail : Fin 3) (s : State) : State :=
  let at_ := (s.clk.now - 200, s.clk.devTime - 200)
  let crossed := if (s.power.crossed[rail]).isSome then s.power.crossed else s.power.crossed.set rail (some at_)
  if s.nat K.supplyState = 1 then { s with power := { s.power with crossed } }
  else
    let s := { s.setNum K.supplyState 1 with power := { s.power with crossed, held := some s.dict.store } }
    raise 51 (markDip (noteBistDip s))
where
  /-- A Brace entered during logic BIST, 5.0 to 43.0 ms after the turn of a shut-down (R496). -/
  noteBistDip (s : State) : State :=
    match s.power.shutdownAt with
    | some t => if t + 5000000 ≤ s.clk.now ∧ s.clk.now < t + 43000000 then { s with power := { s.power with bistDip := true } } else s
    | none => s

/-- A Brace that ends now was in force during logic BIST, though entered before it (R496). -/
def braceOverBist (s : State) : Bool :=
  match s.power.shutdownAt with
  | some t => decide (t + 5000000 ≤ s.clk.now) && s.power.crossed.toList.any fun c => c.any fun x => decide (x.1 < t + 43000000)
  | none => false

/-- The dip record of one rail, which LAST_DIP then shows (R456). -/
def dipRecord (mv : BitVec 16) (ns : BitVec 32) (s : State) (rail : Fin 3) : State :=
  match s.power.crossed[rail] with
  | some (_, t) =>
    let b := leBytes 8 t ++ leBytes 1 rail ++ zeros 1 ++ leBytes 2 mv.toNat ++ leBytes 4 ns.toNat
    record 2 0x6400 0x0D01 b (s.setBlock K.lastDip b)
  | none => s

/-- Brace ends without reset (R456). -/
def endBrace (minima : Vector (BitVec 16) 3) (durations : Vector (BitVec 32) 3) (s : State) : State :=
  let s := (s.setNum K.supplyState 0).inc K.dipCount
  let s := if braceOverBist s then { s with power := { s.power with bistDip := true } } else s
  let s := ([0, 1, 2] : List (Fin 3)).foldl (fun (s : State) (r : Fin 3) => dipRecord minima[r] durations[r] s r) s
  let w := s.power.waiting
  let s := raise 52 { s with
    power := { s.power with crossed := Vector.replicate 3 none, held := none, waiting := none },
    dict := { s.dict with ops := s.dict.ops.map fun (o : StagedOp) => { o with stalled := false },
                          displaced := s.dict.displaced.map fun (o : StagedOp) => { o with stalled := false } } }
  match w with
  -- the request that waited is judged again as it starts; one whose condition is gone is discarded (R452; DESIGN CHOICE, log entry 121)
  | some v => if powerRequestOk s v then startPower v s else s
  | none => s

/-- Drops of every class, saturating at 65,535 (R474). -/
def dropSum (s : State) : Nat := min 65535 (s.bb.drops.toList.foldl (fun t d => t + d.count) 0)

/-- A shut-down that is broken off while its card is written, 43.0 to 43.1 ms after its turn, leaves the card's slot without a valid card
(R496); a card whose CRC was written stays. -/
def loseCard (s : State) : State :=
  match s.power.shutdownAt with
  | some t =>
    if s.nat K.bistOnShutdown = 1 && !s.power.cardDone && decide (t + 43000000 ≤ s.clk.now ∧ s.clk.now < t + 43100000) then
      { s with bb := { s.bb with cards := s.bb.cards.set (cardSlot s) none } }
    else s
  | none => s

/-- Hold (R457, R474): drive goes, one Hold record and those of the ended operations join the queue, and the queue is flushed; the
device then holds itself in reset. -/
def enterHold (rail : Fin 3) (s : State) : State :=
  let s := (removeDrive s).inc K.holdCount
  let s := { s with power := { s.power with hold := true } }
  let s := record 0 0x6400 0x0D02 (leBytes 1 rail ++ zeros 3 ++ leBytes 2 (dropSum s)) s
  let s := loseCard (flushQueue (endOps s))
  let r := afterReset 3 s
  { r with power := { r.power with hold := true } }

/-! ### Reset and Off -/

/-- What a Hold that overtakes RESET_N needs of the moment of its fall (R485): `s` before and `t` after the queue was written. -/
def resetNote (s t : State) : ResetNote where
  seq := t.nat K.seqNext
  wraps := t.bb.wraps
  devTime := s.clk.devTime
  bell := recordBell s
  unlocked := s.nat K.timeState != 2
  startCount := s.nat K.startCount
  drops := dropSum s
  writes := sealSlots (s.bb.queue.length + 6) s

/-- RESET_N low (R485): drive goes, operations end with their records (R355), the queue is written, and the device is in reset. -/
def assertReset (s : State) : State :=
  let cause := if s.power.off then 2 else if inScan s then 4 else 1
  let s := endOps (removeDrive s)
  let t := loseCard (sealAll false s)
  let n : ResetNote := resetNote s t
  let r := afterReset cause t
  { r with power := { r.power with inReset := true, note := if s.power.off then none else some n } }

/-- A rail reaches its reset level within 1 ms of RESET_N's fall (R485, R487): R457 applies. The records that had not been written by then, one
in 4 µs, are those of a Hold flush; the Hold record joins them. -/
def holdInReset (rail : Fin 3) (n : ResetNote) (s : State) : State :=
  let late := n.writes.drop (s.clk.now / 4000)
  let s := late.foldl (fun (s : State) (i : Nat) => match bbSlot s i with
    | some r => setBbSlot i { r with inHold := true } s
    | none => s) s
  let r : Record := { seq := n.seq, time := n.devTime + s.clk.now, bell := n.bell, cls := 0, coalesced := false, inHold := true,
                      unlocked := n.unlocked, wraps := n.wraps, source := 0x6400, code := 0x0D02,
                      data := slice 0 28 (leBytes 1 rail ++ zeros 3 ++ leBytes 2 n.drops), startCount := n.startCount }
  let s := (setBbSlot (slotFor s r) r s).inc K.holdCount
  { s with power := { s.power with hold := true, inReset := false, note := none, cause := 3 } }

/-- Every supply is removed, in Off or with RESET_N low for 1 ms (R487): the next start is from power-on. -/
def removeSupplies (s : State) : State :=
  let r := afterReset 0 s
  { r with power := { r.power with inReset := true } }

/-- How many partitions ran: in order, none after one before which VDD_CORE did not read 0.78 V to 0.84 V; a Brace keeps at least the last from
running (R476, R496). -/
def partitionsRun (b : BistResult) (dip : Bool) : Nat :=
  let n := (b.readings.toList.takeWhile fun v => decide (780 ≤ v.toNat ∧ v.toNat ≤ 840)).length
  if dip then min n 7 else n

/-- Partition `p` passes: its signature is the one that the boot ROM holds (R476). -/
def partitionPasses (b : BistResult) (p : Fin 8) : Bool := b.signatures[p] == Config.bistSignature p

/-- RESULT of a report card (R477): not complete if a partition did not run, a pass only if every one passed. -/
def cardResult (b : BistResult) (run : Nat) : Nat :=
  if run < 8 then 2 else if (List.finRange 8).all (partitionPasses b) then 0 else 1

/-- The report card of a shut-down whose logic BIST began at device time `t` (R476, R477). -/
def cardOf (b : BistResult) (t : Nat) (s : State) : Card :=
  let run := partitionsRun b s.power.bistDip
  { startCount := s.nat K.startCount, time := t, result := cardResult b run, partRun := 2 ^ run - 1,
    partPass := bitsOf (fun p => decide (p < run) && ((List.finRange 8).map (partitionPasses b)).getD p false) 8,
    signatures := (List.finRange 8).map fun (p : Fin 8) => if p.val < run then b.signatures[p].toNat else 0,
    vcoreMin := b.vcoreMin.toNat, vcoreMax := b.vcoreMax.toNat, dieTemp := b.dieTemp.toNat, duration := b.duration.toNat,
    repairs := min s.bb.repairs.length 65535, unrepaired := s.nat K.unrepaired }

/-- The report card of a shut-down is written, if logic BIST ran (R477, R496). -/
def writeCard (b : BistResult) (t : Nat) (s : State) : State :=
  if s.nat K.bistOnShutdown = 1 && !s.power.cardDone then
    { putCard (cardOf b t s) b.cardHolds s with power := { s.power with cardDone := true } }
  else s

/-- Off (R495): the queue has been written, the card too if logic BIST ran; SHDN_DONE is high. `t` is the device time at which logic
BIST began. -/
def shutdownDone (b : BistResult) (t : Nat) (s : State) : State :=
  let s := writeCard b t (sealAll false s)
  let r := afterReset 0 s
  { r with power := { r.power with off := true }, start := { r.start with shdnDone := true } }

/-! ### The watchdog -/

/-- The control copy in use (R409). -/
def controlCopy (s : State) : Option Firmware :=
  if bitOf (s.nat K.fwSelected) 0 then s.cores.copies[1] else s.cores.copies[0]

/-- The selected control copy is loaded into Control TCM, and the boot ROM jumps to its ENTRY (R409, R494). -/
def loadControl (s : State) : State :=
  match controlCopy s with
  | some f =>
    resetHart 0 (0x10000000 + f.entry) { s with cores := { s.cores with controlTcm := loadMemory f.load s.cores.controlTcm } }
  | none => s

/-- The watchdog expires (R494): bells stop, initiator 4 and the steps of staged operations wait until the firmware runs again. -/
def expireWatchdog (s : State) : State :=
  let ran := s.running
  let s := loadControl ((stopBells s).inc K.coreRestarts)
  { s with cores := { s.cores with controlAlive := false },
           start := { s.start with restartBells := s.start.restartBells || ran } }

end Sys2Proof.Machine
end

