-- ==== Sys2Proof/Machine/StartOps.lean ====
section
/-!
DEFINITION. Machine/StartOps.lean: the start-up timeline (R487 to R493): fuses, report card and memory BIST (R478 to R480), the boot ROM
(R409), the barn (R302 to R307, R325), and the steps that the control firmware makes (R491), after a watchdog restart too
(R494).
-/

namespace Sys2Proof.Machine

/-! ### Step 2: fuses, report card -/

/-- Fuses are read, key registers loaded, the debug state set, START_COUNT counted (R438, R440, R458, R463, R493). -/
def readFuses (vholdOk : Bool) (s : State) : State :=
  let s := (s.setNum K.lifecycle s.sec.fuseLifecycle).setNum K.lifecyclePending 255
  let s := { s with sec := { s.sec with keyRegs := #v[s.sec.keys[4], s.sec.keys[5]] } }
  let s := (s.setNum K.debugState (debugReset s)).setNum K.debugRequest (debugReset s)
  let s := (s.setNum K.resetCause s.power.cause).setNum K.vholdOk (b2n vholdOk)
  let s := s.incWrap 32 K.startCount
  { s with bb := { s.bb with startCopies := Vector.replicate 2 (s.nat K.startCount) } }

/-- The start may be quick (R478): the newest valid card passed and belongs to the start before this one. Scan is left by a full
start (R449). -/
def mayBeQuick (s : State) : Bool :=
  match newestCard s with
  | some c => c.result == 0 && c.startCount == s.nat K.startCount && s.power.cause != 4
  | none => false

/-- QUIET_CAUSE takes `c` (R482). -/
def quietFor (c : Nat) (s : State) : State := (s.setNum K.quietCause c).setNum K.powerState 4

/-- A failing card forms a record and enters Quiet (R478). -/
def judgeCard (s : State) : State :=
  match newestCard s with
  | some c =>
    if c.result = 1 then quietFor 1 (record 0 0x6C00 0x6C01 (leBytes 1 c.partRun ++ leBytes 1 c.partPass) s) else s
  | none => s

/-! ### Step 4: memory BIST -/

/-- Engine `e` is declared failed by memory BIST or with its classroom (R165, R169); what R174 shows of the location is free. -/
def bistEngine (why : Nat) (e : Fin 32) (s : State) : State :=
  let loc := s.free 7
  let addr := s.draw.free (2 ^ 32)
  failEngine why loc addr e s.draw.draw

/-- What an unrepaired cell costs (Table 19-6), beside the engines. -/
def cellCost (kind : Nat) (s : State) : State :=
  if kind = 4 || kind = 6 || kind = 7 then quietFor 2 s
  else if kind = 5 then { s with start := { s.start with appBad := true } }
  else s

/-- The engines that an unrepaired cell of the array costs. -/
def cellEngines (kind unit : Nat) (s : State) : State :=
  if kind = 1 || kind = 2 then bistEngine 2 ⟨unit % 32, Nat.mod_lt _ (by decide)⟩ s
  else if kind = 3 then
    let c : Fin 4 := ⟨unit % 4, Nat.mod_lt _ (by decide)⟩
    let s := s.onRoom c fun r => { r with failed := true }
    (List.range 8).foldl (fun (s : State) (k : Nat) =>
      bistEngine 3 ⟨(8 * c.val + k) % 32, Nat.mod_lt _ (by decide)⟩ s) s
  else s

/-- The spare rows (0) or columns (1) of a cell's bank that no repair has taken and no slice has found unusable: of 4 and 2 (R479, R481). -/
def sparesLeft (s : State) (c : CellLog) (o : Nat) : Nat :=
  let same (x : CellLog) : Bool := x.kind == c.kind && x.unit == c.unit && x.bank == c.bank && x.outcome == o
  (if o = 0 then 4 else 2) - s.bb.repairs.countP same - s.bb.marks.countP same

/-- The spare that covers a failing cell: the kind that BIST names where one is left, else the other; none where neither is. -/
def coverOf (s : State) (c : CellLog) : Nat :=
  if 2 ≤ c.outcome || 4096 ≤ s.bb.repairs.length then 2
  else if 0 < sparesLeft s c c.outcome then c.outcome
  else if 0 < sparesLeft s c (1 - c.outcome) then 1 - c.outcome
  else 2

/-- Memory BIST finds a failing cell (R479, R480): repaired by a spare while one is left and the repair data has room, else unrepaired. -/
def findCell (s : State) (f : CellLog) : State :=
  let c := { f with outcome := coverOf s f }
  if c.kind = 0 || 7 < c.kind then s
  else if c.outcome < 2 then
    record 1 0x6C00 0x6C02 c.bytes { s with bb := { s.bb with repairs := s.bb.repairs ++ [c], bistLog := s.bb.bistLog ++ [c] } }
  else
    let s := { s with bb := { s.bb with bistLog := s.bb.bistLog ++ [c] } }
    let s := s.addSat 16 K.unrepaired 1
    let s := if c.kind ≤ 3 then record 1 0x6C00 0x6C04 c.bytes s else record 0 0x6C00 0x6C03 c.bytes s
    cellCost c.kind (cellEngines c.kind c.unit s)

/-- Two entries name the same cell. -/
def sameCell (a b : CellLog) : Bool := a.kind == b.kind && a.unit == b.unit && a.bank == b.bank && a.word == b.word && a.bit == b.bit

/-- A full start tests every memory afresh; no word is hard any more (R161, R165, R174, R479, R481). The cells that slices have marked are
repaired first, by a row where one is left; a spare marked unusable stays so (R480, R481; log entry 122). -/
def memoryBist (cells : List CellFault) (s : State) : State :=
  let marked := s.bb.marks.filter fun (m : CellLog) => 2 ≤ m.outcome
  let s := (s.setNum K.enginesInService 0xFFFFFFFF).setNum K.unrepaired 0
  let s := (List.range 32).foldl (fun (s : State) (e : Nat) => s.setNum (K.hardWords e) 0) s
  let s := { s with array := { s.array with rooms := s.array.rooms.map fun (r : Classroom) => { r with failed := false },
                                            engines := s.array.engines.map fun (x : Engine) => { x with hard := [] } },
                    bb := { s.bb with bistLog := [], marks := s.bb.marks.filter fun (m : CellLog) => m.outcome < 2 } }
  (marked.map (fun (m : CellLog) => { m with outcome := 0 }) ++ (cells.map cellLog).filter fun c => !(marked.any (sameCell c))).foldl findCell s

/-- A quick start tests nothing: what the last full start failed stays failed (R165). -/
def keepFailures (s : State) : State :=
  let lost := allEngines.filter fun (e : Fin 32) => !bitOf (s.nat K.enginesInService) e
  let s := lost.foldl (fun (s : State) (e : Fin 32) => s.setNum (K.engineState e) 4) s
  let roomLost (e : Fin 32) : Bool := (s.room (roomIdx e)).failed
  let s := if lost.any fun e => !roomLost e then setCause 0 true s else s
  let s := if lost.any roomLost then setCause 1 true s else s
  s.bb.bistLog.foldl (fun (s : State) (c : CellLog) => if c.outcome = 2 then cellCost c.kind s else s) s

/-! ### Step 6: the boot ROM -/

/-- Copy `k` of target `t`, if it is valid now: an application image may have lost its signature (R408). -/
def bootCopy (s : State) (t k : Fin 2) : Option Firmware :=
  let i : Fin 4 := ⟨2 * t.val + k.val, by omega⟩
  s.cores.copies[i].filter fun f =>
    t == 0 || (if fwSigned f.image then signatureVerifies s f.image else s.nat K.lifecycle != 2)

/-- Order of versions; an invalid copy lies below every version. -/
def versionRank (f : Option Firmware) : Nat :=
  match f with
  | some f => f.version + 1
  | none => 0

/-- The slot whose image target `t` installs (R409). -/
def updateSlot (t : Fin 2) (s : State) : Option (Fin 8) :=
  (List.finRange 8).find? fun (i : Fin 8) =>
    let img := s.dict.imageSlots[i]
    isFirmware img && firmwareCheck s img == 0 && fwTarget img == t.val
      && decide (versionRank (bootCopy s t 0) < fwVersion img + 1 ∧ versionRank (bootCopy s t 1) < fwVersion img + 1)

/-- Install at most one update of target `t` (R409). -/
def install (t : Fin 2) (s : State) : State :=
  match updateSlot t s with
  | some i =>
    let f := firmwareOf s.dict.imageSlots[i]
    let k : Fin 2 := if versionRank (bootCopy s t 0) < versionRank (bootCopy s t 1) then 0 else 1
    let j : Fin 4 := ⟨2 * t.val + k.val, by omega⟩
    let s := { s with cores := { s.cores with copies := s.cores.copies.set j (some f) },
                      dict := { s.dict with imageSlots := s.dict.imageSlots.set i [] } }
    record 3 0x1000 0x0A01 (leBytes 1 t ++ leBytes 1 i ++ leBytes 1 k ++ zeros 1 ++ leBytes 4 f.version) s
  | none => s

/-- The copy in use: the higher VERSION, copy A if equal (R409). -/
def usesB (t : Fin 2) (s : State) : Bool := decide (versionRank (bootCopy s t 0) < versionRank (bootCopy s t 1))

/-- The selected copy of target `t`. -/
def selected (t : Fin 2) (s : State) : Option Firmware := if usesB t s then bootCopy s t 1 else bootCopy s t 0

/-- Copy selection and loading (R409); `installed` says that an install ran. -/
def selectCopies (installed : Bool) (s : State) : State :=
  let app := selected 1 s
  let s := s.setNum K.fwSelected (b2n (usesB 0 s) + 2 * b2n (usesB 1 s) + 4 * b2n app.isSome + 8 * b2n installed : Nat)
  let s := s.setNum K.appFwVersion (match app with
    | some f => f.version
    | none => 0 : Nat)
  let s := loadAppTcm { s with cores := { s.cores with controlAlive := true } }
  match selected 0 s with
  | some f => loadControl (s.setNum K.controlFwVersion f.version)
  | none => quietFor 3 s

/-! ### Step 8: the barn -/

/-- Training of channel `c` failed (R325): the step that the record names is free. -/
def trainingFailed (c : Nat) (s : State) : State :=
  record 1 (0x5400 + c) 0x0705 (leBytes 1 (s.free 6)) (s.draw.setNum (K.trainingState c) 3)

/-- The descriptions in use, the map and the areas (R303, R306, R307); `two` says that both channels are used. -/
def layOutBarn (two : Bool) (s : State) : State :=
  let m := copyKeys barnStartKeys s.dict.store []
  let m := if two then m else sparseSet defaultVal m (K.populated 1) (.num 0)
  let bytes := chanBytes m 0 + chanBytes m 1
  let top := Nat.log2 bytes - 1
  let ok := mapValid m two top
  let s := ((s.setNum K.barnBytes bytes).setNum K.mapState (b2n (!ok))).setNum K.barnState 2
  { s with barn := { s.barn with inUse := if ok then m else plainMap m two top, supArea := s.nat K.supAreaBytes } }

/-- Channel `c` trains in full (R325): the results are kept in MRAM, or the channel has failed. -/
def trainChannel (c : Fin 2) (ok : Bool) (s : State) : State :=
  let s := { s with bb := { s.bb with training := s.bb.training.set c ok } }
  if ok then s.setNum (K.trainingState c.val) 2 else trainingFailed c.val s

/-- Channel 1 is used: populated, and described as channel 0 is (R303). -/
def secondUsed (s : State) : Bool := s.nat (K.populated 1) == 1 && chansAgree s.dict.store

/-- A quick start can restore the training: MRAM holds results for every channel used (R325). A channel without results has nothing to
verify, which the model takes as a failed verification (DEDUCED, log entry 82). -/
def trainingKept (s : State) : Bool := s.bb.training[0] && (!secondUsed s || s.bb.training[1])

/-- The barn at a start (R303, R325): restored training is 1, training in full 2, failed or unused 3. -/
def startBarn (restored trained0 trained1 : Bool) (s : State) : State :=
  let two := secondUsed s
  let s := if s.nat (K.populated 1) == 1 && !two then record 1 0x5401 0x0701 [] s else s
  let train (c : Fin 2) (ok : Bool) (s : State) : State := if restored then s.setNum (K.trainingState c.val) 1 else trainChannel c ok s
  let s := if two then train 1 trained1 s else s.setNum (K.trainingState 1) 3
  let s := train 0 trained0 s
  if restored || trained0 then layOutBarn (two && (restored || trained1)) s else s.setNum K.barnState 6

/-- Settings that are taken at a start (R325, R383, R397, R399, R402). -/
def takeStartSettings (s : State) : State :=
  refreshTx { s with
    host := { s.host with windowBytes := s.nat K.hostWindowBytes, windowBase := s.nat K.hostWindowBase },
    node := { s.node with portMode := #v[s.nat (K.portMode 0), s.nat (K.portMode 1)] } }

/-! ### Steps 10 to 13 -/

/-- The start ends with START_STATE `v` (R492, R493). -/
def endStart (v : Nat) (s : State) : State := { s.setNum K.startState v with start := { s.start with next := 0 } }

/-- The step to do next. -/
def toStep (n : Nat) (s : State) : State := { s with start := { s.start with next := n } }

/-- A dictionary write of the control firmware, initiator 4 (R491): the state, and the STATUS of its refusal, 0 if accepted. -/
def firmwareWrite (k : Key) (v : DVal) (s : State) : State × Nat :=
  match ownRequest [(k, v)] s with
  | (s, none) => (s, 0)
  | (s, some r) => (s, r.status)

/-- The firmware writes `v` to entry `k` if its request would have the next turn, and `f` goes on with the STATUS; else it waits (R339,
R491). -/
def firmwareTurn (k : Key) (v : DVal) (f : Nat → State → State) (s : State) : State :=
  if ownTurn [(k, v)] s then
    let r := firmwareWrite k v s
    f r.2 r.1
  else s

/-- The start goes on at `n` after an accepted write; a refusal ends it with START_STATE `e` (R491, R492). -/
def nextOr (n e : Nat) (status : Nat) (s : State) : State := if status = 0 then toStep n s else endStart e s

/-- Step 10 begins: TT_SOURCE, and in stage 20 TT_LOAD (R491). -/
def beginLoad (s : State) : State :=
  let slot := s.nat K.startTtSlot
  if slot = 255 then toStep 11 s else firmwareTurn K.ttSource (.num (slot + 1 : Nat)) (nextOr 20 3) s

/-- A PROFILE_AUTO apply failed (R360). -/
def autoFailed (status code : Nat) (s : State) : State :=
  record 2 0x7000 0x0802 (leBytes 1 (s.nat K.profileAuto) ++ leBytes 1 status ++ leBytes 1 code) s

/-- Step 10 has ended. -/
def endLoadStep (s : State) : State :=
  if s.nat K.ttLoadState = 3 then endStart 3 s else toStep 21 (if s.nat K.ttLoadState = 2 then noteTime 3 s else s)

/-- Step 11 begins, in stage 21: PROFILE_APPLY (R491). -/
def beginApply (s : State) : State :=
  let p := s.nat K.profileAuto
  if p = 255 then toStep 12 s
  else firmwareTurn K.opStart (.bytes (opStartBytes 3 (BitVec.ofNat 8 p)))
    (fun st s => toStep 12 (if st = 0 then s else autoFailed st 0 s)) s

/-- The last profile apply. -/
def lastApply (s : State) : Option StagedOp :=
  s.dict.ops.toList.foldl (fun (t : Option StagedOp) (o : StagedOp) =>
    if o.kind = 3 then (match t with
      | some p => if p.id < o.id then some o else t
      | none => some o) else t) none

/-- Step 11 has ended. -/
def endApplyStep (s : State) : State :=
  toStep 22 (match lastApply s with
    | some o => if s.nat K.profileAuto = 255 then s
        else if o.state = 2 then noteTime 4 s else autoFailed (o.result / 256) (o.result % 256) s
    | none => s)

/-- Step 12, in stage 22, activates a loaded timetable that is not active; skipped if a group that waits already names its slot (R356, R491). -/
def activateStep (s : State) : State :=
  if s.nat K.ttLoadState = 2 && !timetableActive s then
    if natIn (shadowStore s) K.ttActiveSlot = standbySlot s then toStep 13 (applyPending s)
    else firmwareTurn K.ttActiveSlot (.num (standbySlot s : Nat))
      (fun st s => if st = 0 then toStep 13 (noteTime 5 (applyPending s)) else endStart 4 s) s
  else toStep 13 s

/-- A bell switch's load is still in progress. -/
def loadsNow (s : State) : Bool :=
  match s.tt.switching with
  | some w => !(w.done || decide (w.endsAt ≤ s.clk.now))
  | none => false

/-- Step 13: Run is requested. -/
def requestRun (s : State) : State :=
  if s.nat K.startBells ≠ 1 then endStart 1 s else firmwareTurn K.powerRequest (.num 0) (nextOr 14 5) s

/-- REF_IN, and a time source other than 0, are locked (R491). -/
def locked (s : State) : Bool := s.nat K.refState == 2 && (s.nat K.timeSource == 0 || s.nat K.timeState == 2)

/-- BELL_START_TIME of R491: 0, or the first multiple of START_ALIGN ms at least 1.000 ms ahead. -/
def alignedStart (s : State) : Nat :=
  let a := s.nat K.startAlign * 1000000
  if a = 0 then 0 else (s.clk.devTime + 1000000 + a - 1) / a * a

/-- What the control firmware does next of the steps 10 to 13, once what it waits for has come: step 13 in Run is DRIVE_ENABLE (14), then, with
REF_IN and the time source locked, BELL_START_TIME (24) and BELL_RUN (34). A refused DRIVE_ENABLE ends the start in Watch (44; R492). -/
def startStage (s : State) : State :=
  if s.start.next = 10 then beginLoad s
  else if s.start.next = 20 then firmwareTurn K.ttLoad (.num 1) (nextOr 11 3) s
  else if s.start.next = 11 then (if opRuns s 1 then s else endLoadStep s)
  else if s.start.next = 21 then beginApply s
  else if s.start.next = 12 then (if opRuns s 3 then s else endApplyStep s)
  else if s.start.next = 22 then activateStep s
  else if s.start.next = 13 then (if loadsNow s then s else requestRun s)
  else if s.start.next = 14 then
    (if s.nat K.powerState = 0 then firmwareTurn K.driveEnable (.num 1) (fun st s => toStep (if st = 0 then 24 else 44) s) s else s)
  else if s.start.next = 24 then
    (if locked s then firmwareTurn K.bellStartTime (.num (alignedStart s : Nat)) (nextOr 34 5) s else s)
  else if s.start.next = 34 then (if locked s then firmwareTurn K.bellRun (.num 1) (nextOr 15 5) s else s)
  else if s.start.next = 44 then firmwareTurn K.powerRequest (.num 1) (fun _ s => endStart 5 s) s
  else s

/-- The firmware goes as far as it can without waiting: at most all of its stages. -/
def startStages (s : State) : State := (List.range 12).foldl (fun (s : State) (_ : Nat) => startStage s) s

/-- The firmware restarts the bells that ran as the watchdog expired (R494). -/
def restartBells (s : State) : State :=
  if s.start.restartBells && s.stopped then
    firmwareTurn K.bellStartTime (.num 0) (fun _ s =>
      firmwareTurn K.bellRun (.num 1) (fun _ s => { s with start := { s.start with restartBells := false } }) s) s
  else s

/-- The control firmware runs and goes as far as it can; what waited for it has its turn (R494). -/
def runFirmware (s : State) : State :=
  let s := selfTurns 16 { s with cores := { s.cores with controlAlive := true } }
  selfTurns 16 (startStages (restartBells s))

/-! ### The timeline -/

/-- Steps 7 to 9 are reached `t` µs after the start. -/
def reachStep (i t : Nat) (s : State) : State :=
  s.setBlock K.startTimes (overlay (4 * i) (leBytes 4 t) (slice 0 32 (s.block K.startTimes)))

/-- Steps 1 to 6 (Table 20-1): the state, and whether the start is quick. -/
def bootSteps (f : StartFacts) (s : State) : Bool × State :=
  let quick := mayBeQuick s
  let s := judgeCard (readFuses f.vholdOk s)
  let s := if quick then keepFailures s else memoryBist f.cells s
  let installs := (updateSlot 0 s).isSome || (updateSlot 1 s).isSome
  (quick && !installs, selectCopies installs (install 1 (install 0 s)))

/-- Steps 7 to 9: the endpoint no longer answers with CRS, training restored or in full, calibrations, the application core. -/
def unitSteps (f : StartFacts) (quick : Bool) (s : State) : State :=
  let s := reachStep 0 f.times[0].toNat (s.reach (s.start.at_ + 1000 * f.times[0].toNat))
  let s := { s with host := { s.host with crs := false } }
  let restored := quick && f.verified && trainingKept s
  let s := startBarn restored f.trained0 f.trained1 (beginCal (startConverterCal s))
  let s := takeStartSettings (s.setNum K.startKind (b2n restored))
  let s := { s with start := { s.start with full := !restored } }
  let s := reachStep 1 f.times[1].toNat (s.reach (s.start.at_ + 1000 * f.times[1].toNat))
  let s := reachStep 2 f.times[2].toNat (s.reach (s.start.at_ + 1000 * f.times[2].toNat))
  releaseApp startAppCore s

/-- Without a valid control copy the boot ROM trains the barn in full, lays it out and ends CRS (R409), and the calibrations of step 8 run, which
have no precondition (R110, R291, R488); nothing else of steps 7 to 9 runs. -/
def romSteps (f : StartFacts) (s : State) : State :=
  let s := s.reach (s.start.at_ + 1000 * f.times[2].toNat)
  let s := takeStartSettings ((startBarn false f.trained0 f.trained1 (beginCal (startConverterCal s))).setNum K.startKind 0)
  { s with start := { s.start with full := true }, host := { s.host with crs := false } }

/-- The end of step 9: Quiet, a failed barn, or the steps of the control firmware. -/
def afterUnits (s : State) : State :=
  if s.nat K.quietCause ≠ 0 then endStart 7 s
  else if s.nat K.barnState = 6 then endStart 6 s
  else startStages (toStep 10 s)

/-- A start (R488). -/
def runStart (f : StartFacts) (s : State) : State :=
  let s := if s.power.inReset || s.power.hold then afterReset s.power.cause s else s
  let s := { s with start := { s.start with ran := true, at_ := s.clk.now, resetOut := true } }
  let (quick, s) := bootSteps f s
  afterUnits (if s.nat K.quietCause = 3 then romSteps f s else unitSteps f quick s)

end Sys2Proof.Machine
end

