-- ==== Sys2Proof/Machine/PowerCommands.lean ====
section
/-!
DEFINITION. Machine/PowerCommands.lean: power transitions, supply events, reset, start and shut-down, and the watchdog (R451 to R457,
R485 to R496).
-/

namespace Sys2Proof.Machine

/-- POWER_TRANSITION_DONE (R452, R453): a requested transition completes; a shut-down is not one of these. -/
def execPowerTransitionDone (dt : Nat) (s : State) : Host.Outcome State Fault Refusal :=
  match s.power.transition with
  | some (was, dest, _) => if dest = 3 then finish s else finish (transitionDone was dest (s.elapse dt))
  | none => finish s

/-- SHUTDOWN_COMPLETE (R495, R496): not before Brace ends. Logic BIST begins 5.0 ms after the request's turn. Between 43.1 ms, when the card has
been written, and 43.2 ms, when Off is reached, the sequence stands at the card. -/
def execShutdownComplete (bist : BistResult) (dt : Nat) (s : State) : Host.Outcome State Fault Refusal :=
  match s.power.shutdownAt with
  | some t =>
    if s.nat K.supplyState = 1 then finish s
    else
      let a := s.reach (t + 5000000)
      let e := s.clk.now + dt
      if s.nat K.bistOnShutdown = 1 && !s.power.cardDone && decide (t + 43100000 ≤ e ∧ e < t + 43200000) then
        finish (writeCard bist a.clk.devTime (sealAll false (a.reach e)))
      else finish (shutdownDone bist a.clk.devTime (a.reach e))
  | none => finish s

/-- SUPPLY_WARNING (R455). -/
def execSupplyWarning (rail : Fin 3) (dt : Nat) (s : State) : Host.Outcome State Fault Refusal :=
  if awake s then finish (supplyWarning rail (s.elapse dt)) else finish s

/-- BRACE_END (R456). -/
def execBraceEnd (minima : Vector (BitVec 16) 3) (durations : Vector (BitVec 32) 3) (dt : Nat) (s : State) :
    Host.Outcome State Fault Refusal :=
  if s.nat K.supplyState = 1 then finish (endBrace minima durations (s.elapse dt)) else finish s

/-- SUPPLY_RESET (R457): from Brace or directly. In Off, and once RESET_N has been low for 1 ms, the supplies may go (R487); before that
R457 applies in reset too (R485). In Hold the rails are gone already. -/
def execSupplyReset (rail : Fin 3) (dt : Nat) (s : State) : Host.Outcome State Fault Refusal :=
  if awake s then finish (enterHold rail (s.elapse dt))
  else if s.power.hold then finish s
  else
    let s := s.elapse dt
    match s.power.note with
    | some n => if s.clk.now < 1000000 then finish (holdInReset rail n s) else finish (removeSupplies s)
    | none => finish (removeSupplies s)

/-- RESET_ASSERT (R485): RESET_N is low for `low` ns. Below 100 ns nothing happens; from 1.0 µs the device is reset; between the two the
manual says neither: it is free. In Hold and in reset the device is in reset already. -/
def execResetAssert (low dt : Nat) (s : State) : Host.Outcome State Fault Refusal :=
  if low < 100 || s.power.hold || s.power.inReset then finish s
  else if 1000 ≤ low then finish (assertReset (s.elapse dt))
  else
    let t := (s.elapse dt).draw
    if s.free 2 = 1 then finish (assertReset t) else finish t

/-- DEVICE_START (R488): once, from reset or Hold; Off is left only through RESET_N. -/
def execDeviceStart (facts : StartFacts) (s : State) : Host.Outcome State Fault Refusal :=
  if s.start.ran || s.power.off then finish s else finish (runStart facts s)

/-- START_BELLS_STEP (R491, R494): the control firmware goes on with the start. -/
def execStartBellsStep (s : State) : Host.Outcome State Fault Refusal :=
  if awake s && !inScan s then finish (runFirmware s) else finish s

/-- WATCHDOG_EXPIRY (R494). -/
def execWatchdogExpiry (dt : Nat) (s : State) : Host.Outcome State Fault Refusal :=
  if awake s && s.start.ran && s.cores.controlAlive && s.nat K.quietCause ≠ 3 then finish (expireWatchdog (s.elapse dt))
  else finish s

end Sys2Proof.Machine
end

