-- ==== Sys2Proof/Machine/ReceiveCommands.lean ====
section
/-!
DEFINITION. Machine/ReceiveCommands.lean: the ends of captures (R130), of DTS block copies (R135), of profiles (R268), of
trace-end learning (R276), of converter calibration (R110) and of harvest formation (R253).
-/

namespace Sys2Proof.Machine

/-- CAPTURE_COMPLETE (R130): not before the acquisition window has closed, which brings the codes. -/
def execCaptureComplete (s : State) : Host.Outcome State Fault Refusal :=
  match s.nat K.capState, s.capture.taken with
  | 2, some b => finish (endCapture 3 (capRecord s s.capture b (capturedSamples b s) (capWritten s.capture b) false) s)
  | _, _ => finish s

/-- CAPTURE_OVERRUN (R130): the record holds the entries written up to that point. -/
def execCaptureOverrun (entries : Nat) (s : State) : Host.Outcome State Fault Refusal :=
  match s.nat K.capState, capturedBell s with
  | 2, some b =>
    finish (endCapture 4 (capRecord s s.capture b (capturedSamples b s) (min entries (capWritten s.capture b)) true) s)
  | _, _ => finish s

/-- DTS_BLOCK_COPY_DONE (R135). -/
def execDtsBlockCopyDone (s : State) : Host.Outcome State Fault Refusal := finish (blockCopied s)

/-- PROFILE_STORE (R268). -/
def execProfileStore (s : State) : Host.Outcome State Fault Refusal := finish (storeEnded s)

/-- TRACE_END_LEARN_DONE (R276): after the 64 counting bells. -/
def execTraceEndLearnDone (s : State) : Host.Outcome State Fault Refusal :=
  if s.fibre.learnLeft = 1 then
    finish ((s.setNum K.traceEndRef s.fibre.learnMax).onFibre fun f => { f with learnLeft := 0 })
  else finish s

/-- The correcting factor of a measured gain, both in units where 32,768 is 1: their product gives full scale; halves away from 0
(R110; the manual gives no rounding: DESIGN CHOICE, log entry 22). -/
def correctingFactor (gain : Nat) : Nat := (roundDiv (2 ^ 30) gain).toNat

/-- CONVERTER_CAL_DONE (R110): 3.2 ms after it began, with the measured gains and skews. -/
def execConverterCalDone (gains : Vector (BitVec 16) 4) (skews : Vector Int 4) (s : State) :
    Host.Outcome State Fault Refusal :=
  match s.chain.calSince with
  | some t =>
    finish (atInstant (t + 3200000) (fun s =>
      let s := { s with chain := { s.chain with calSince := none } }
      -- 0.9 to 1.1 of 32,768
      if gains.toList.all fun g => decide (294912 ≤ 10 * g.toNat ∧ 10 * g.toNat ≤ 360448) then
        let s := (List.range 4).foldl (fun (s : State) (c : Nat) =>
          s.setNum (K.calGain c) (correctingFactor (gains.toList.getD c 0).toNat : Nat)) (s.setNum K.calState 2)
        { s with chain := { s.chain with skew := skews } }
      else
        record 1 0x2800 0x0301 (gains.toList.flatMap fun g => leBytes 2 g.toNat) (s.setNum K.calState 3)) s)
  | none => finish s

/-- HARVEST_COMPLETE (R253). -/
def execHarvestComplete (seq : BitVec 32) (dt : Nat) (s : State) : Host.Outcome State Fault Refusal :=
  let forms (h : Harvest) : Bool := h.seq == seq.toNat && h.forming && !h.complete
  match s.granary.harvests.find? forms with
  | some h =>
    let (x, s) := completeHarvest h (s.elapse dt)
    let s := { s with granary := { s.granary with harvests := s.granary.harvests.map fun (h : Harvest) => if forms h then x else h } }
    finish (raise 37 (s.inc K.harvestCount))
  | none => finish s

end Sys2Proof.Machine
end

