-- ==== Sys2Proof/Machine/CoreMap.lean ====
section
/-!
DEFINITION. Machine/CoreMap.lean: what the supervisor cores reach in their memory map (Tables 16-1 and 16-2): the effect of a store, the value
of a load and the effect it has beside.
-/

namespace Sys2Proof.Machine

/-- Low and high words of a 64-bit register. -/
def setLow (x v : Nat) : Nat := x / 2 ^ 32 * 2 ^ 32 + v
def setHigh (x v : Nat) : Nat := x % 2 ^ 32 + v * 2 ^ 32

/-- Word `w` of a 64-bit register, 0 the low one. -/
def half64 (x w : Nat) : Nat := x / 2 ^ (32 * w) % 2 ^ 32

/-- The low `n` bytes of a value at byte `a` of a memory. -/
def putBytes (a n : Nat) (v : BitVec 32) (m : Sparse Byte) : Sparse Byte :=
  (List.range n).foldl (fun m i => sparseSet (fun _ => 0) m (a + i) ((leBytes n v.toNat).getD i 0)) m

/-- The word that a register of a peripheral block takes from a store of `n` bytes at offset `o`. The manual gives the blocks words alone: of
a narrower store the other bytes are free (log entry 119). -/
def laneWord (s : State) (o n : Nat) (v : BitVec 32) : BitVec 32 :=
  if n = 4 then v
  else BitVec.ofNat 32 (leNat ((List.range 4).map fun i =>
    if o % 4 ≤ i ∧ i < o % 4 + n then BitVec.ofNat 8 (v.toNat / 256 ^ (i - o % 4)) else BitVec.ofNat 8 (s.free (2 ^ 32) / 256 ^ i)))

/-- A narrower store draws what it leaves open. -/
def laneDraw (n : Nat) (f : State → State) (s : State) : State := f (if n = 4 then s else s.draw)

/-- The dictionary port, Table 13-6: what a store at an offset of its registers does; none is reserved. -/
def portStore (o : Nat) (v : BitVec 32) : Option (State → State) :=
  if 0x8000 ≤ o ∧ o < 0xA000 then some id
  else if o = 0xF000 then some (portGo v)
  else if o = 0xF004 then some (portClear v)
  else none

/-- The interrupt controller, Table 16-8. -/
def icStore (core : Fin 2) (o : Nat) (v : BitVec 32) : Option (State → State) :=
  if o < 0x18 then some (clearPending core (o / 4) v)
  else if 0x40 ≤ o ∧ o < 0xA0 then some (writeRoute core ((o - 0x40) / 4) v)
  else if 0x100 ≤ o ∧ o < 0x1C0 then some id
  else if 0x200 ≤ o ∧ o < 0x210 then some (writeTarget core ⟨(o - 0x200) / 4 % 4, Nat.mod_lt _ (by decide)⟩ v)
  else if o = 0x210 ∨ o = 0x214 then some id
  else if o = 0x220 then some (raiseSoft v)
  else none

/-- The TDC queues, Table 2-2. -/
def tdcStore (o : Nat) (v : BitVec 32) : Option (State → State) :=
  if 0x80 ≤ o ∨ o % 16 = 12 then none
  else if o % 16 = 0 then
    some fun s => if v.getLsbD 17 then s.onTdc ⟨o / 16 % 8, Nat.mod_lt _ (by decide)⟩ fun x => { x with lostSticky := false } else s
  else some id

/-- Housekeeping, Table 11-5. -/
def hkStore (o : Nat) (v : BitVec 32) : Option (State → State) :=
  if o = 0 then some (clearSticky (v.extractLsb' 8 4))
  else if o = 4 then some fun s => if v.getLsbD 0 then tryStart s else s
  else if (0x100 ≤ o ∧ o < 0x160) ∨ (0x180 ≤ o ∧ o < 0x1C0) ∨ (0x200 ≤ o ∧ o < 0x210) then some id
  else none

/-- A compare register of the machine timer changes by halves. -/
def setCompare (h : Fin 2) (high : Bool) (v : BitVec 32) (s : State) : State :=
  let half (c : BitVec 64) : BitVec 64 := BitVec.ofNat 64 (if high then setHigh c.toNat v.toNat else setLow c.toNat v.toNat)
  wakeTimer h { s with timer := { s.timer with cmp := vmod s.timer.cmp h half } }

/-- The machine timer, Table 16-3: the application core's writes to MTIMECMP_0 are discarded (R405). -/
def timerStore (core : Fin 2) (o : Nat) (v : BitVec 32) : Option (State → State) :=
  if o = 0 ∨ o = 4 then some id
  else if o = 8 ∨ o = 12 then some (if core = 0 then setCompare 0 (o == 12) v else id)
  else if o = 16 ∨ o = 20 then some (setCompare 1 (o == 20) v)
  else none

/-- The barn window (R403): below SUP_AREA_BYTES, background traffic. -/
def barnStore (core : Fin 2) (x n : Nat) (v : BitVec 32) (s : State) : State :=
  requestWrite (9 + core.val) (areaBase s 6 + x) (leBytes n v.toNat) s

/-- What a store of a core does in a peripheral block at word offset `o` (Table 16-2); none raises an access fault. -/
def blockStore (core : Fin 2) (block o : Nat) (v : BitVec 32) : Option (State → State) :=
  let control := core == 0
  if block = 0x4000 then
    (if control then some fun s => { s with cores := { s.cores with
        coreControl := sparseSet (fun _ => 0) s.cores.coreControl o v } } else none)
  else if block = 0x4001 then (if control then none else portStore o v)
  else if block = 0x4002 then icStore core o v
  else if block = 0x4003 then (if control then none else tdcStore o v)
  else if block = 0x4004 then (if control then none else hkStore o v)
  else if block = 0x4005 then timerStore core o v
  else if block = 0x4006 then
    (if control then some fun s => { s with cores := { s.cores with
        flashControl := sparseSet (fun _ => 0) s.cores.flashControl o v } } else none)
  else none

/-- Address `a` lies in memory that LR, SC and AMO are performed on: a TCM or shared SRAM that core `c` reaches (R400, Table 16-1). -/
def coreRam (core : Fin 2) (a : Nat) : Bool :=
  (core == 0 && decide (0x10000000 ≤ a ∧ a < 0x10080000)) || decide (0x18000000 ≤ a ∧ a < 0x18080000)
    || decide (0x20000000 ≤ a ∧ a < 0x20100000)

/-- A store of `n` bytes to the TCMs and shared SRAM. -/
def ramStore (a n : Nat) (v : BitVec 32) (s : State) : State :=
  if a < 0x18000000 then { s with cores := { s.cores with controlTcm := putBytes (a - 0x10000000) n v s.cores.controlTcm } }
  else if a < 0x20000000 then { s with cores := { s.cores with appTcm := putBytes (a - 0x18000000) n v s.cores.appTcm } }
  else { s with cores := { s.cores with sharedSram := putBytes (a - 0x20000000) n v s.cores.sharedSram } }

/-- What an aligned store of `n` bytes of a core at address `a` does (Tables 16-1 and 16-2); none raises an access fault. -/
def coreStore (core : Fin 2) (a n : Nat) (v : BitVec 32) (s : State) : Option (State → State) :=
  if coreRam core a then some (ramStore a n v)
  else if core = 1 ∧ 0x40010000 ≤ a ∧ a < 0x40015000 then
    some fun s => { s with dict := { s.dict with portRequest := putBytes (a - 0x40010000) n v s.dict.portRequest } }
  else if 0x80000000 ≤ a ∧ a < 0x80000000 + s.barn.supArea then some (barnStore core (a - 0x80000000) n v)
  else (blockStore core (a / 0x10000) (a % 0x10000 / 4 * 4) (laneWord s a n v)).map (laneDraw n)

/-! ### What a core's load returns -/

/-- The word at byte `a` of a memory. -/
def wordAt (m : Sparse Byte) (a : Nat) : Nat := leNat ((List.range 4).map fun i => sparseGet (fun _ => 0) m (a + i))

/-- The dictionary port (Table 13-6, Table 13-8); DP_CONTROL is write-only and reads 0 (the access codes of 00_scope.md). -/
def portLoad (s : State) (o : Nat) : Option Nat :=
  let d := s.dict
  if o < 0x5000 then some (wordAt d.portRequest o)
  else if 0x8000 ≤ o ∧ o < 0xA000 then some (fieldAt (o - 0x8000) 4 d.portAnswer)
  else if o = 0xF000 then some 0
  else if o = 0xF004 then
    some (b2n d.portBusy * 2 ^ 31 + b2n d.portDone * 2 ^ 30 + b2n d.portGoLost * 2 ^ 29 + d.portBytes % 65536 * 2 ^ 8 + d.portStatus % 256)
  else none

/-- The interrupt controller (Tables 16-8 to 16-10); IC_SOFT is write-only and reads 0. -/
def icLoad (core : Fin 2) (s : State) (o : Nat) : Option Nat :=
  let nib (i : Nat) : Nat := (List.range 4).foldl (fun n t => n + b2n ((s.ic.routes.toList.getD t 0).getLsbD i) * 2 ^ t) 0
  if o < 0x18 then some ((s.ic.pending.extractLsb' (8 * o) 32).toNat)
  else if 0x40 ≤ o ∧ o < 0xA0 then some ((List.range 8).foldl (fun n i => n + nib (2 * (o - 0x40) + i) * 16 ^ i) 0)
  else if 0x100 ≤ o ∧ o < 0x1C0 then
    some ((List.range 4).foldl (fun n i => n + sparseGet (fun _ => 0) s.ic.counts (o - 0x100 + i) * 256 ^ i) 0)
  else if 0x200 ≤ o ∧ o < 0x210 then
    let t : Fin 4 := ⟨(o - 0x200) / 4 % 4, Nat.mod_lt _ (by decide)⟩
    some (b2n (t == 0 && appUnreceivable s) * 8 + b2n (t == 1 && appUnreceivable s) * 4 + b2n s.ic.presented[t] * 2
      + b2n s.ic.disabled[t])
  else if o = 0x210 ∨ o = 0x214 then
    some (takeSource core ⟨(o - 0x210) / 4 % 2, Nat.mod_lt _ (by decide)⟩ s).ic.lastTake.toNat
  else if o = 0x220 then some 0
  else none

/-- The TDC queues (R50, Table 2-2). -/
def tdcLoad (s : State) (o : Nat) : Option Nat :=
  let c : Fin 8 := ⟨o / 16 % 8, Nat.mod_lt _ (by decide)⟩
  if 0x80 ≤ o ∨ o % 16 = 12 then none
  else if o % 16 = 0 then some (tdcStatus c s)
  else if o % 16 = 4 then some (popLo c s).tdc.lastRead.toNat
  else some (popHi c s).toNat

/-- Housekeeping (Tables 11-5 to 11-8); HK_START is write-only and reads 0 (R294, R295). -/
def hkLoad (s : State) (o : Nat) : Option Nat :=
  if o = 0 then some (hkStatus s)
  else if o = 4 then some 0
  else if 0x100 ≤ o ∧ o < 0x160 then some (hkResult s ((o - 0x100) / 4))
  else if 0x180 ≤ o ∧ o < 0x1C0 then some (hkResult s (0x20 + (o - 0x180) / 4))
  else if 0x200 ≤ o ∧ o < 0x210 then some (hkSensTemp s ⟨(o - 0x200) / 4 % 4, Nat.mod_lt _ (by decide)⟩)
  else none

/-- The machine timer (Table 16-3): MTIME_HI reads what the last read of MTIME_LO latched. -/
def timerLoad (s : State) (o : Nat) : Option Nat :=
  let t := s.timer
  if o = 0 then some (s.mtime % 2 ^ 32)
  else if o = 4 then some t.hiLatch.toNat
  else if o = 8 ∨ o = 12 then some (half64 t.cmp[0].toNat ((o - 8) / 4))
  else if o = 16 ∨ o = 20 then some (half64 t.cmp[1].toNat ((o - 16) / 4))
  else none

/-- The word at offset `o` of a peripheral block as a core's load returns it (Table 16-2). -/
def blockLoad (core : Fin 2) (block o : Nat) (s : State) : Option Nat :=
  let control := core == 0
  if block = 0x4000 then (if control then some (sparseGet (fun _ => 0) s.cores.coreControl o).toNat else none)
  else if block = 0x4001 then (if control then none else portLoad s o)
  else if block = 0x4002 then icLoad core s o
  else if block = 0x4003 then tdcLoad s o
  else if block = 0x4004 then hkLoad s o
  else if block = 0x4005 then timerLoad s o
  else if block = 0x4006 then (if control then some (sparseGet (fun _ => 0) s.cores.flashControl o).toNat else none)
  else none

/-- The bytes of the TCMs and shared SRAM. -/
def ramLoad (a n : Nat) (s : State) : Nat :=
  leNat ((List.range n).map fun i => sparseGet (fun _ => 0)
    (if a < 0x18000000 then s.cores.controlTcm else if a < 0x20000000 then s.cores.appTcm else s.cores.sharedSram)
    (a + i - (if a < 0x18000000 then 0x10000000 else if a < 0x20000000 then 0x18000000 else 0x20000000)))

/-- What an aligned load of `n` bytes of a core at address `a` returns (Tables 16-1 and 16-2); none raises an access fault: the map bars it, or
a barn word is uncorrectable (R403, Table 12-4). The boot ROM's content is not given: free. -/
def coreLoad (core : Fin 2) (a n : Nat) (s : State) : Option Nat :=
  let x := areaBase s 6 + (a - 0x80000000)
  if coreRam core a then some (ramLoad a n s)
  else if a < 0x10000 then (if core = 0 then some (s.free (2 ^ 32) % 256 ^ n) else none)
  else if 0x80000000 ≤ a ∧ a < 0x80000000 + s.barn.supArea then
    (if (List.range n).any fun i => barnBad (9 + core.val) s (x + i) then none else some (leNat (readBarn s x n)))
  else (blockLoad core (a / 0x10000) (a % 0x10000 / 4 * 4) s).map fun w => w / 256 ^ (a % 4) % 256 ^ n

/-- The effect that a load at address `a` has beside the value it returns: a take, a popped stamp, a latched time (R50, R405, R417); in the
barn window it may wake the barn and meet errors (R327, R403). -/
def loadEffect (core : Fin 2) (a n : Nat) (s : State) : State :=
  let o := a % 0x10000 / 4 * 4
  if a < 0x10000 then s.draw
  else if 0x80000000 ≤ a then readMarks (9 + core.val) (areaBase s 6 + (a - 0x80000000)) n s
  else if a / 0x10000 = 0x4002 ∧ (o = 0x210 ∨ o = 0x214) then takeSource core ⟨(o - 0x210) / 4 % 2, Nat.mod_lt _ (by decide)⟩ s
  else if a / 0x10000 = 0x4003 ∧ o % 16 = 4 then popLo ⟨o / 16 % 8, Nat.mod_lt _ (by decide)⟩ s
  else if a / 0x10000 = 0x4005 ∧ o = 0 then latchMtime s
  else s

/-- A load in the barn window meets self-refresh and wakes it (R327, R403). -/
def loadArrives (core : Fin 2) (a : Nat) (s : State) : State :=
  if 0x80000000 ≤ a ∧ a < 0x80000000 + s.barn.supArea then (wakeBarn (9 + core.val) s).2 else s

/-- A core may fetch at address `a` (Table 16-1). -/
def coreExecutes (core : Fin 2) (a : Nat) : Bool := coreRam core a || (core == 0 && decide (a < 0x10000))

end Sys2Proof.Machine
end

