-- ==== Sys2Proof/Machine/TapCommands.lean ====
section
/-!
DEFINITION. Machine/TapCommands.lean: the instructions of the test access port (R501, Table 18-3).
-/

namespace Sys2Proof.Machine

/-- Opcode of an instruction in the 8-bit instruction register (Table 20-10). -/
def TapInstr.opcode (i : TapInstr) : BitVec 8 :=
  match i with
  | .extest => 0x00 | .idcode => 0x01 | .samplePreload => 0x02 | .clamp => 0x03 | .highz => 0x04
  | .dtmcs => 0x10 | .dmi => 0x11 | .engDebug => 0x20 | .scanChain p => BitVec.ofNat 8 (0x30 + p.val) | .bypass => 0xFF

/-- IDCODE (R502): bits [3:0] of 1000.03, 0x8320, the manufacturer identity, 1. -/
def idcode : BitVec 32 :=
  (Config.siliconStep.extractLsb' 0 4).append ((0x8320#16).append (Config.manufacturer.append 1#1))

/-- What a capture finds in the data register that the instruction selects, from bit 0 (Table 20-10): IDCODE, ENG_DEBUG, one bit of
BYPASS (0); in the registers of the boundary, the debug module and the scan chains, whose contents the manual does not give, a value
drawn free as the instruction is loaded (log entry 94). -/
def tapCapture (s : State) : BitVec 72 :=
  match tapInstr s with
  | .idcode => idcode.setWidth 72
  | .engDebug => engDebug s
  | .bypass | .clamp | .highz => 0
  | .extest | .samplePreload | .dtmcs | .dmi | .scanChain _ => s.tap.dr

/-- The instruction register takes an opcode (R501). In Hold and Off the TAP is held in reset and takes none (R459). -/
def loadOpcode (b : BitVec 8) (s : State) : State :=
  if s.power.hold || s.power.off then s
  else { s.draw with tap := { s.tap with ir := b, dr := BitVec.ofNat 72 (s.free (2 ^ 72)) } }

/-- The instruction register takes the opcode of `i`. -/
def loadTap (i : TapInstr) (s : State) : State := loadOpcode i.opcode s

/-- IDCODE (R501). -/
def execTapIdcode (s : State) : Host.Outcome State Fault Refusal := finish (loadTap .idcode s)
/-- BYPASS (R501). -/
def execTapBypass (s : State) : Host.Outcome State Fault Refusal := finish (loadTap .bypass s)
/-- SAMPLE_PRELOAD (R501). -/
def execTapSamplePreload (s : State) : Host.Outcome State Fault Refusal := finish (loadTap .samplePreload s)
/-- EXTEST (R501). -/
def execTapExtest (s : State) : Host.Outcome State Fault Refusal := finish (loadTap .extest s)
/-- CLAMP (R501). -/
def execTapClamp (s : State) : Host.Outcome State Fault Refusal := finish (loadTap .clamp s)
/-- HIGHZ (R501). -/
def execTapHighz (s : State) : Host.Outcome State Fault Refusal := finish (loadTap .highz s)
/-- DTMCS (R501). -/
def execTapDtmcs (s : State) : Host.Outcome State Fault Refusal := finish (loadTap .dtmcs s)
/-- DMI (R501). -/
def execTapDmi (s : State) : Host.Outcome State Fault Refusal := finish (loadTap .dmi s)
/-- ENG_DEBUG (R170, R501). -/
def execTapEngDebug (s : State) : Host.Outcome State Fault Refusal := finish (loadTap .engDebug s)
/-- SCAN_CHAIN_p (R501): the chains of Scan are enabled only after every key register reads back zero (R449). -/
def execTapScanChain (p : Fin 8) (s : State) : Host.Outcome State Fault Refusal := finish (loadTap (.scanChain p) s)

/-- TAP_RESET (R485): TRST_N or Test-Logic-Reset; the instruction register holds IDCODE (R501). -/
def execTapReset (s : State) : Host.Outcome State Fault Refusal :=
  finish { s with tap := { s.tap with ir := 0x01 } }

end Sys2Proof.Machine
end

