-- ==== Sys2Proof/Machine/CoreExec.lean ====
section
/-!
DEFINITION. Machine/CoreExec.lean: what the supervisor cores do (R400, R402 to R404, R415) and what their debug modules are asked (R446,
R448).
-/

namespace Sys2Proof.Machine

/-- Bytes of an access. -/
def sizeBytes (z : AccessSize) : Nat :=
  match z with
  | .byte => 1
  | .half => 2
  | .word => 4

/-- A store breaks the other core's reservation of its word. -/
def breakReservation (core : Fin 2) (a : Nat) (s : State) : State :=
  s.onHart (if core = 0 then 1 else 0) fun h =>
    if h.reserved.any fun r => r.toNat / 4 == a / 4 then { h with reserved := none } else h

/-- The register of core `c` that a load writes. -/
def setLoaded (c : Fin 2) (v : BitVec 32) (s : State) : State := s.onHart c fun h => { h with loaded := v }

/-- A store of `n` bytes of a core (R400, R402, R404): a misaligned one raises its exception and is not performed. -/
def runStore (core : Fin 2) (n a : Nat) (v : BitVec 32) (dt : Nat) (s : State) : State :=
  if !coreActs core s then s
  else
    let s := coreArrives core dt s
    if a % n ≠ 0 then faulted core .storeMisaligned a s
    else
      let f := coreStore core a n v s
      checkedAccess core f.isSome 1 a n (fun s => breakReservation core a ((f.getD id) s)) s

/-- A loaded value as the register takes it. -/
def extendLoad (z : AccessSize) (signed : Bool) (v : Nat) : BitVec 32 :=
  if signed then (BitVec.ofNat (8 * sizeBytes z) v).signExtend 32 else BitVec.ofNat 32 v

/-- A load of a core (R400, R402 to R404). -/
def runLoad (core : Fin 2) (z : AccessSize) (signed : Bool) (a dt : Nat) (s : State) : State :=
  if !coreActs core s then s
  else
    let s := coreArrives core dt s
    let n := sizeBytes z
    if a % n ≠ 0 then faulted core .loadMisaligned a s
    else
      let s := loadArrives core a s
      match coreLoad core a n s with
      | some v => checkedAccess core true 0 a n (fun s => setLoaded core (extendLoad z signed v) (loadEffect core a n s)) s
      | none => checkedAccess core false 0 a n id (if 0x80000000 ≤ a ∧ a < 0x80000000 + s.barn.supArea then loadEffect core a n s else s)

/-- A fetch of a core (R402): an interrupt that its masks let through is taken first (R415). -/
def runFetch (core : Fin 2) (n a dt : Nat) (s : State) : State :=
  if !coreActs core s then s
  else
    let s := coreArrives core dt s
    match interruptTaken core s with
    | some cause => s.onHart core fun h => { h with pc := BitVec.ofNat 32 a }.trap cause 0
    | none =>
      let s := s.onHart core fun h => { h with pc := BitVec.ofNat 32 a }
      let s := { s with cores := { s.cores with accessFault := false } }
      if !coreExecutes core a || !pmpPermits (s.hart core) 2 a n then faulted core .instructionAccess a s
      else if core = 1 && !windowPermits s 0 2 a n then faulted core .instructionAccess a (refuseAccess 0 a s)
      else s.onHart core fun h => { h with fault := none }

/-- The result of an AMO. -/
def amoResult (op : AmoOp) (m v : BitVec 32) : BitVec 32 :=
  match op with
  | .swap => v
  | .add => m + v
  | .xor => m ^^^ v
  | .and => m &&& v
  | .or => m ||| v
  | .min => if m.slt v then m else v
  | .max => if m.slt v then v else m
  | .minu => if m.ult v then m else v
  | .maxu => if m.ult v then v else m

/-- LR, SC and AMO (R400): performed on the TCMs and shared SRAM; elsewhere a store access fault. `f` is the operation. -/
def runAtomic (core : Fin 2) (lr : Bool) (a dt : Nat) (f : State → State) (s : State) : State :=
  if !coreActs core s then s
  else
    let s := coreArrives core dt s
    if a % 4 ≠ 0 then faulted core (if lr then .loadMisaligned else .storeMisaligned) a s
    else if !coreRam core a then faulted core .storeAccess a s
    else checkedAccess core true (if lr then 0 else 1) a 4 f s

/-- What a core does, `dt` ns after the previous command. -/
def runCoreOp (core : Fin 2) (op : CoreOp) (dt : Nat) (s : State) : State :=
  match op with
  | .load z signed a => runLoad core z signed a.toNat dt s
  | .store z a v => runStore core (sizeBytes z) a.toNat v dt s
  | .fetch short a => runFetch core (if short then 2 else 4) a.toNat dt s
  | .loadReserved a =>
    runAtomic core true a.toNat dt (fun s =>
      setLoaded core (BitVec.ofNat 32 (ramLoad a.toNat 4 s)) (s.onHart core fun h => { h with reserved := some a })) s
  | .storeConditional a v =>
    runAtomic core false a.toNat dt (fun s =>
      let ok := (s.hart core).reserved == some a
      let s := s.onHart core fun h => { h with reserved := none, loaded := if ok then 0 else 1 }
      if ok then breakReservation core a.toNat (ramStore a.toNat 4 v s) else s) s
  | .amo op a v =>
    runAtomic core false a.toNat dt (fun s =>
      let m := BitVec.ofNat 32 (ramLoad a.toNat 4 s)
      breakReservation core a.toNat (ramStore a.toNat 4 (amoResult op m v) (setLoaded core m s))) s
  | .wfi =>
    if !coreActs core s then s
    else
      let s := performed core (s.elapse dt)
      if wfiPasses core s || (s.hart core).halted then s
      else
        let s := { s with cores := { s.cores with waiting := s.cores.waiting.set core true } }
        if core = 1 then s.setNum K.appCoreState 3 else s
  | .mret => if coreActs core s then returnFromTrap core (s.elapse dt) else s
  | .csr n w => if coreActs core s then csrAccess core n.toNat w (s.elapse dt) else s

/-! ### The debug modules -/

/-- The debug module of core `c` can reach it: powered and out of reset; that of the application core is unavailable in Standby too (R459). -/
def coreAvailable (c : Fin 2) (s : State) : Bool :=
  awake s && (if c = 0 then s.cores.controlAlive else !appUnreceivable s)

/-- What a request to a debug module answers. -/
def debugAnswer (v : Option Nat) (s : State) : State :=
  { s with cores := { s.cores with debugUnit := match v with
    | some x => { data := BitVec.ofNat 32 x, failed := false }
    | none => { s.cores.debugUnit with failed := true } } }

/-- dmstatus of the debug module of core `c`: version 0.13, authenticated, and the core halted, running or unavailable. -/
def debugStatus (c : Fin 2) (s : State) : Nat :=
  0x82 + (if !coreAvailable c s then 0x3000 else if (s.hart c).halted then 0x300 else 0xC00)

/-- The core is halted; one that waits in WFI no longer waits (R419, R421). -/
def haltCore (c : Fin 2) (s : State) : State :=
  let s := { s with cores := { s.cores with waiting := s.cores.waiting.set c false } }
  let s := s.onHart c fun h => { h with halted := true, stepping := false }
  if c = 1 then s.setNum K.appCoreState 4 else s

/-- A halted core runs again, to be halted after one instruction if it steps. -/
def resumeCore (c : Fin 2) (step : Bool) (s : State) : State :=
  let s := s.onHart c fun h => { h with halted := false, stepping := step }
  if c = 1 then s.setNum K.appCoreState 2 else s

/-- A memory access of a debug module (R446): in the map of its core, through window 2; a refused one is counted and fails. -/
def debugAccess (c : Fin 2) (write : Option (BitVec 32)) (n a : Nat) (s : State) : State :=
  let s := awaitWindow 2 s
  let k := if write.isSome then 1 else 0
  if a % n ≠ 0 then debugAnswer none s
  else if !windowPermits s 2 k a n then debugAnswer none (refuseAccess 2 a s)
  else match write with
    | some v => match coreStore c a n v s with
      | some f => debugAnswer (some v.toNat) (breakReservation c a (f s))
      | none => debugAnswer none s
    | none =>
      let s := loadArrives c a s
      match coreLoad c a n s with
      | some v => debugAnswer (some v) (loadEffect c a n s)
      | none => debugAnswer none s

/-- A request to the debug module of core `c`, which needs DMI in the instruction register and a debug state that gives it (R448, R501):
Observe reads status and the system bus, Full does the rest. -/
def runDebug (c : Fin 2) (op : DebugOp) (s : State) : State :=
  if tapInstr s != .dmi then s
  else
    let full := s.nat K.debugState == 2
    let halted := coreAvailable c s && (s.hart c).halted
    match op with
    | .status => debugAnswer (some (debugStatus c s)) s
    | .halt => if full && coreAvailable c s then debugAnswer (some 0) (haltCore c s) else debugAnswer none s
    | .resume => if full && halted then debugAnswer (some 0) (resumeCore c false s) else debugAnswer none s
    | .step => if full && halted then debugAnswer (some 0) (resumeCore c true s) else debugAnswer none s
    | .readReg r => if full && halted then debugAnswer (some (if r = 0 then 0 else (s.hart c).regs[r].toNat)) s else debugAnswer none s
    | .writeReg r v =>
      if full && halted then debugAnswer (some v.toNat) (s.onHart c fun h => if r = 0 then h else { h with regs := h.regs.set r v })
      else debugAnswer none s
    | .readMem z a => if full && halted then debugAccess c none (sizeBytes z) a.toNat s else debugAnswer none s
    | .writeMem z a v => if full && halted then debugAccess c (some v) (sizeBytes z) a.toNat s else debugAnswer none s
    | .readBus z a => debugAccess c none (sizeBytes z) a.toNat s
    | .writeBus z a v => if full then debugAccess c (some v) (sizeBytes z) a.toNat s else debugAnswer none s

end Sys2Proof.Machine
end

