-- ==== Sys2Proof/Machine/RegisterCommands.lean ====
section
/-!
DEFINITION. Machine/RegisterCommands.lean: writes to registers that have no command of their own: the endpoint's BAR0 (Table 15-2), its
power-management, link and MSI-X controls, and the supervisor memory map (Tables 16-1 and 16-2).
-/

namespace Sys2Proof.Machine

/-! ### The endpoint -/

/-- A write to the registers of completion ring `r` at word `w` of its block. -/
def writeRing (r : Fin 4) (w v : Nat) (s : State) : State :=
  match w with
  | 0 => s.onRing r fun x => { x with base := setLow x.base (v / 32 * 32) }
  | 1 => s.onRing r fun x => { x with base := setHigh x.base v }
  | 2 => let s := s.onRing r fun x => { x with size := v }
         flushRing r (s.ring r).held.length s
  | 3 => let s := s.onRing r fun x => { x with head := v }
         flushRing r (s.ring r).held.length s
  | 5 => s.onRing r fun x => { x with index := setLow x.index (v / 4 * 4) }
  | 6 => s.onRing r fun x => { x with index := setHigh x.index v }
  | 7 => s.onRing r fun x => { x with modReg := v }
  | _ => s

/-- A write to word `w` of the MSI-X table: address and data words are held, bit 0 of the fourth masks the vector (R386, R391). -/
def writeMsix (w : Nat) (v : BitVec 32) (s : State) : State :=
  if w % 4 = 3 then
    let k := w / 4
    let m := s.host.maskBits &&& ~~~(1#32 <<< k)
    trySendAll { s with host := { s.host with maskBits := if v.getLsbD 0 then m ||| (1#32 <<< k) else m } }
  else { s with host := { s.host with msixTable := sparseSet (fun _ => 0) s.host.msixTable (4 * w) v } }

/-- A write to BAR0 (R386, Table 15-2); an undefined offset counts in AER_COUNTS and is discarded (Table 15-6). -/
def writeBar0 (a : Nat) (v : BitVec 32) (s : State) : State :=
  let x := v.toNat
  if a = 0 then
    let s := { s with host := { s.host with enable := v.getLsbD 0 } }
    if v.getLsbD 1 then { dropQueues s with host := { (dropQueues s).host with resetDone := true } } else s
  else if a = 4 then
    { s with host := { s.host with
      fetchError := s.host.fetchError && !v.getLsbD 2, cqStall := s.host.cqStall && !v.getLsbD 1,
      resetDone := s.host.resetDone && !v.getLsbD 0 } }
  else if a = 0x10 then { s with host := { s.host with rqBase := setLow s.host.rqBase (x / 64 * 64) } }
  else if a = 0x14 then { s with host := { s.host with rqBase := setHigh s.host.rqBase x } }
  else if a = 0x18 then { s with host := { s.host with rqSize := x } }
  else if a = 0x1C then { s with host := { s.host with rqTail := x } }
  else if a = 0x20 then s
  else if 0x100 ≤ a ∧ a < 0x180 ∧ a % 4 = 0 then
    writeRing ⟨(a - 0x100) / 0x20 % 4, Nat.mod_lt _ (by decide)⟩ (a % 0x20 / 4) x s
  else if 0x8000 ≤ a ∧ a < 0x8200 ∧ a % 4 = 0 then writeMsix ((a - 0x8000) / 4) v s
  else if a = 0x9000 ∨ a = 0x9004 then s
  else aerCount 5 s

/-- FETCH_ACTIVE (Table 15-2): ENABLE, entries in the ring, and DMA running. -/
def fetchActive (s : State) : Bool := s.host.enable && s.host.rqHead != s.host.rqTail && dmaRuns s

/-- A word of completion ring `r` as BAR0 reads it (Table 15-2). -/
def ringWord (r : CqRing) (w : Nat) : Nat :=
  match w with
  | 0 => half64 r.base 0
  | 1 => half64 r.base 1
  | 2 => r.size
  | 3 => r.head
  | 4 => r.written
  | 5 => half64 r.index 0
  | 6 => half64 r.index 1
  | 7 => r.modReg
  | _ => 0

/-- What a 32-bit read of BAR0 returns (R386, Table 15-2); an undefined offset reads 0 (Table 15-6). -/
def bar0Word (s : State) (a : Nat) : Nat :=
  let h := s.host
  if a = 0 then b2n h.enable
  else if a = 4 then b2n (fetchActive s) * 2 ^ 31 + b2n h.fetchError * 4 + b2n h.cqStall * 2 + b2n h.resetDone
  else if a = 0x10 ∨ a = 0x14 then half64 h.rqBase ((a - 0x10) / 4)
  else if a = 0x18 then h.rqSize
  else if a = 0x1C then h.rqTail
  else if a = 0x20 then h.rqHead
  else if 0x100 ≤ a ∧ a < 0x180 then ringWord (s.ring ⟨(a - 0x100) / 0x20 % 4, Nat.mod_lt _ (by decide)⟩) (a % 0x20 / 4)
  else if 0x8000 ≤ a ∧ a < 0x8200 then
    (if a % 16 = 12 then b2n (bitOf h.maskBits.toNat ((a - 0x8000) / 16)) else (sparseGet (fun _ => 0) h.msixTable (a - 0x8000)).toNat)
  else if a = 0x9000 then h.pba.toNat
  else 0

/-- BAR0 has a register at offset `a` (R386): Table 15-2, the MSI-X table of 32 vectors, and its PBA of 64 bits. -/
def bar0Defined (a : Nat) : Bool :=
  a % 4 == 0 && (a == 0 || a == 4 || (0x10 ≤ a && a ≤ 0x20) || (0x100 ≤ a && a < 0x180) || (0x8000 ≤ a && a < 0x8200)
    || a == 0x9000 || a == 0x9004)

/-- A read of BAR0; of an undefined offset it returns 0 and counts in AER_COUNTS (Table 15-6). -/
def readBar0 (a : Nat) (s : State) : State :=
  let s := if bar0Defined a then s else aerCount 5 s
  { s with host := { s.host with lastWord := BitVec.ofNat 32 (if bar0Defined a then bar0Word s a else 0) } }

/-- PMCSR: D state (D1 and D2 are not supported), PME_En, and PME_Status, W1C (R385, R392). -/
def writePmcsr (v : BitVec 16) (s : State) : State :=
  let s := { s with host := { s.host with pmeEnable := v.getLsbD 8, pmeStatus := s.host.pmeStatus && !v.getLsbD 15 } }
  let d := v.toNat % 4
  if d = 3 && s.nat K.hostDState = 0 then raise 49 (s.setNum K.hostDState 3)
  else if d = 0 && s.nat K.hostDState = 3 then returnToD0 s
  else s

/-- A configuration read; until step 7 of a start the answer is CRS (R488). -/
def readConfig (a : Nat) (s : State) : State :=
  if s.host.crs then { s with host := { s.host with lastConfig := none } }
  else { s.draw with host := { s.host with lastConfig := some (BitVec.ofNat 32 (configWord s a)) } }

/-! ### The command -/

/-- REGISTER_WRITE (R7). -/
def execRegisterWrite (reg : RegWrite) (dt : Nat) (s : State) : Host.Outcome State Fault Refusal :=
  match reg with
  | .bar0 a v => fromHost dt (writeBar0 a.toNat v) s
  | .pmcsr v => fromHost dt (writePmcsr v) s
  | .linkControl v => fromHost dt (fun s => { s with host := { s.host with aspmEnable := v.getLsbD 1 } }) s
  | .msixControl v => fromHost dt (fun s =>
      trySendAll { s with host := { s.host with msixEnable := v.getLsbD 15, functionMask := v.getLsbD 14 } }) s
  | .deviceControl2 v => fromHost dt (fun s => { s with host := { s.host with timeoutSetting := v.extractLsb' 0 4 } }) s
  | .aerClear rows => fromHost dt (fun s => { s with host := { s.host with aerReported := s.host.aerReported &&& ~~~rows } }) s
  | .bar0Read a => fromHost dt (readBar0 a.toNat) s
  | .configRead a => finish (if hostOn s then readConfig a.toNat (hostAccess dt s) else s)
  | .poisonedWrite => fromHost dt (aerCount 2) s
  | .core c a v => finish (runStore c 4 a.toNat v dt s)
  | .coreOp c op => finish (runCoreOp c op dt s)
  | .debug c op => finish (runDebug c op (s.elapse dt))
  | .tapOpcode b => finish (loadOpcode b (s.elapse dt))

end Sys2Proof.Machine
end

