-- ==== Sys2Proof/Machine/RingOps.lean ====
section
/-!
DEFINITION. Machine/RingOps.lean: the JoenLink node (R361 to R380): arrival and forwarding of a frame, carriage slots, mailbox, roll call,
time transfer.
-/

namespace Sys2Proof.Machine

/-- Change ring port `p`. -/
def State.onPort (s : State) (p : Fin 2) (f : RingPort → RingPort) : State :=
  { s with node := { s.node with ports := vmod s.node.ports p f } }

/-- The other port. -/
def otherPort (p : Fin 2) : Fin 2 := 1 - p

/-- The ring runs: in Run, Watch, Standby and Quiet, and not in Hold, Off or reset (R363), from step 5 of a start (R488); in a shut-down it
stops 5.0 ms after its turn (R495). -/
def ringRuns (s : State) : Bool := awake s && portsOn s && s.start.ran

/-- RINGa_TXDIS of both ports (Table 14-10, R384, R495): high in Hold, Off and reset, and from 5.0 ms into a shut-down. -/
def ringTxDisable (s : State) : Bool := !ringRuns s

/-- FTYPE, VERSION, SEQ and RING_ID of a payload (Table 14-1). -/
def frameType (b : List Byte) : Nat := fieldAt 0 1 b
def frameSeq (b : List Byte) : Nat := fieldAt 2 2 b
def frameRing (b : List Byte) : Nat := fieldAt 6 2 b

/-- A JoenLink frame of type `k` (R364). -/
def isFrame (k : Nat) (b : List Byte) : Bool := 32 ≤ b.length && frameType b == k && fieldAt 1 1 b == 1

/-- The node processes frames of this RING_ID: its own, and it has an address (R364). -/
def forNode (s : State) (b : List Byte) : Bool := s.nat K.ringAddress != 0 && frameRing b == s.nat K.ringId

/-- The port that a frame received on `p` leaves by: back out of `p` while the other port loops (R373). -/
def outPort (s : State) (p : Fin 2) : Fin 2 := if (s.node.ports[otherPort p]).looped then p else otherPort p

/-- The frame turns back here. -/
def turnsBack (s : State) (p : Fin 2) : Bool := (s.node.ports[otherPort p]).looped

/-- Residence of a frame in ps (R362). -/
def residence (rx : RxFrame) : Nat := 480000 + rx.residence

/-- A frame is longer than 4,200 bytes from destination address to FCS (R361). -/
def tooLong (b : List Byte) : Bool := 4200 < b.length + 18

/-- Set RING_FLAGS[1] LOOPED in place. -/
def setLooped (b : List Byte) : List Byte :=
  overlay 4 [(b.getD 4 0) ||| 2#8] b

/-- A frame arrives and is forwarded (R361, R362, R373): counts, then `body`, which may change the state and the payload as it
passes, then the payload as it leaves. `marks` says that the node processes the frame: LOOPED is set in one that turns back, and one
that is too long is not processed, beyond what `long` counts (log entry 46). -/
def passFrame (rx : RxFrame) (marks : Bool) (body : State → State × List Byte) (s : State) (long : State → State := id) : State :=
  if !ringRuns s || s.nat (K.linkState rx.port) = 0 then s
  else
    let s := s.elapse rx.dt
    let s := s.incWrap 64 (K.framesIn rx.port)
    let s := s.setNum (K.residenceMax rx.port) (max (s.nat (K.residenceMax rx.port)) (residence rx) : Nat)
    let s := if rx.fcsOk then s else s.inc (K.fcsErrors rx.port)
    let port := outPort s rx.port
    let back := turnsBack s rx.port && marks
    if tooLong rx.payload then
      let s := if marks then long s else (body s).1
      { s with node := { s.node with lastOut := some { port, payload := rx.payload.take 4182, badFcs := true } } }
    else
      let (s, b) := body s
      let b := if back then setLooped b else b
      { s with node := { s.node with lastOut := some { port, payload := b, badFcs := !rx.fcsOk } } }

/-- A frame of type `k` that the row names; another frame is not this command. -/
def passType (k : Nat) (rx : RxFrame) (body : State → State × List Byte) (s : State) (long : State → State := id) :
    Host.Outcome State Fault Refusal :=
  finish (if isFrame k rx.payload then passFrame rx true body s long else s)

/-! ### Carriage frames -/

/-- NODE_COUNT, NODE_FIRST and UL_OFFSET (Table 14-3). -/
def nodeCount (b : List Byte) : Nat := fieldAt 9 1 b
def nodeFirst (b : List Byte) : Nat := fieldAt 10 2 b
def ulOffset (b : List Byte) : Nat := fieldAt 12 2 b

/-- The layout of R365. -/
def carriageOk (b : List Byte) : Bool :=
  let n := nodeCount b
  let u := ulOffset b
  u % 4 == 0 && max (32 + 40 * n) 224 ≤ u && b.length == u + 52 * n

/-- The node's position in a carriage frame, if it serves it (R365). -/
def position (s : State) (b : List Byte) : Option Nat :=
  let a := s.nat K.ringAddress
  if nodeFirst b ≤ a && a + 1 ≤ nodeFirst b + nodeCount b then some (a - nodeFirst b) else none

/-- The node's downlink slot. -/
def downSlot (b : List Byte) (k : Nat) : List Byte := slice (32 + 40 * k) 40 b

/-- SLOT_CRC is good (R366). -/
def slotCrcOk (d : List Byte) : Bool := fieldAt 36 4 d == crc32 (d.take 36)

/-- The serialiser serves in its order until the place of port `p` is free (R339, R340): a carriage request is answered before its
uplink slot leaves (R368). -/
def drainPort (p : Fin 2) : Nat → State → State
  | 0, s => s
  | n + 1, s =>
    if (s.dict.waiting[portIni p]).isNone then s
    else match serialTurn s with
      | some (.place j) => drainPort p n (servePlace j 0 s)
      | some (.mail q) => drainPort p n (serveMail q 0 s)
      | _ => s

/-- A copy's first carriage frame within DUP_WINDOW (R374). -/
def firstCopy (s : State) (ring seq car : Nat) : Option FirstCopy :=
  s.node.copies.find? fun c => c.ringId == ring && c.seq == seq && c.carriage == car
    && decide (s.clk.now ≤ c.at_ + s.nat K.dupWindow * 1000)

/-- The request of a downlink slot, if it keeps the slot layout (R366). -/
def slotRequest (d : List Byte) : Option Request :=
  let r := parseRequest (slice 4 32 d)
  match r.items with
  | [it] => if !r.group && !r.broken && it.data.length ≤ 8 then some r else none
  | _ => none

/-- The request that a downlink slot has presented (R367): one that keeps the slot layout and is expedited. -/
def slotPresents (s : State) (d : List Byte) : Option Request := (slotRequest d).filter (expedited s)

/-- The first copy of a carriage request is remembered, with its slot (R374). -/
def noteCopy (ring seq car : Nat) (d : List Byte) (s : State) : State :=
  let old := s.node.copies.filter fun c => decide (s.clk.now ≤ c.at_ + s.nat K.dupWindow * 1000)
  { s with node := { s.node with
    copies := { ringId := ring, seq, carriage := car, at_ := s.clk.now, slot := d, latest := s.node.latest } :: old } }

/-- USTAT of a slot with a good SLOT_CRC: nothing for CTRL 0, the latest answer for CTRL 2 (here 6), and for CTRL 1 the request's answer or
3, not expedited (R367). -/
def slotUstat (s : State) (d : List Byte) : Nat :=
  match fieldAt 0 1 d with
  | 1 => if (slotPresents s d).isSome then 1 else 3
  | 2 => 6
  | _ => 0

/-- A downlink slot has arrived (R367, R374): the request is presented, or marked a copy; answers the USTAT to write. A slot with a bad
SLOT_CRC is ignored, and is nobody's copy. -/
def takeSlot (p : Fin 2) (b d : List Byte) (s : State) : State × Nat :=
  let ring := frameRing b
  let seq := frameSeq b
  let car := fieldAt 8 1 b
  if !slotCrcOk d then (s.inc (K.slotCrcErrors p), 4)
  else
    match firstCopy s ring seq car with
    | some c => (s.inc K.duplicates, if c.slot != d then 5 else slotUstat s d)
    | none => match if fieldAt 0 1 d = 1 then slotPresents s d else none with
      | some r => (presentRequest (portIni p) r (.carriage ring seq car) (noteCopy ring seq car d (drainPort p 8 s)), 1)
      | none => (noteCopy ring seq car d s, slotUstat s d)

/-- The downlink slot of the node in a frame for it, kept for the uplink slot of the same frame. -/
def slotArrives (p : Fin 2) (b : List Byte) (k : Nat) (s : State) : State :=
  let (s, u) := takeSlot p b (downSlot b k) s
  s.onPort p fun x => { x with slotted := some {
    ringId := frameRing b, seq := frameSeq b, carriage := fieldAt 8 1 b, ustat := u, payload := b, passed := 32 + 40 * (k + 1) } }

/-- A carriage frame that the node processes, with its position (R364, R365). -/
def carriagePosition (s : State) (b : List Byte) : Option Nat :=
  if isFrame 1 b && forNode s b && carriageOk b && !tooLong b then position s b else none

/-- The uplink slot's bytes for a USTAT and an answer. -/
def uplink (ustat seq : Nat) (answer : List Byte) : List Byte := leBytes 1 ustat ++ [0] ++ leBytes 2 seq ++ slice 0 48 answer

/-- The first copy whose slot a frame's slot is (R374). -/
def copyOf (x : Slotted) (s : State) : Option FirstCopy :=
  s.node.copies.find? fun c => c.ringId == x.ringId && c.seq == x.seq && c.carriage == x.carriage

/-- The node writes its uplink slot (R367, R368, R374). -/
def writeUplink (x : Slotted) (o : Nat) (b : List Byte) (s : State) : State × List Byte :=
  if x.ustat = 1 then
    match (copyOf x s).bind FirstCopy.answer with
    | some a => (s, overlay o (uplink 1 x.seq a) b)
    | none => (s.inc K.pendingAnswers, overlay o [2#8] b)
  else if x.ustat = 6 then
    match (copyOf x s).bind FirstCopy.latest with
    | some (q, a) => (s, overlay o (uplink 1 q a) b)
    | none => (s, overlay o [0#8] b)
  else if x.ustat = 0 then (s, b)
  else (s, overlay o [BitVec.ofNat 8 x.ustat] b)

/-- The node's alarm bit, set in place while the ring alarm target is presented (R369). -/
def setAlarm (s : State) (b : List Byte) : List Byte :=
  let a := s.nat K.ringAddress
  if s.ic.presented[3] then overlay (16 + a / 8) [(b.getD (16 + a / 8) 0) ||| (1#8 <<< (a % 8))] b else b

/-- A carriage frame passes (R365 to R369): a slot whose arrival was not a command of its own is processed as it passes. -/
def passCarriage (p : Fin 2) (b : List Byte) (s : State) : State × List Byte :=
  if !carriageOk b then (s.inc (K.rejectedFrames p), b)
  else if !forNode s b then (s, b)
  else
    let same (x : Slotted) : Bool := x.ringId == frameRing b && x.seq == frameSeq b && x.carriage == fieldAt 8 1 b
    match position s b with
    | some k =>
      let s := if (s.node.ports[p]).slotted.any same then s else slotArrives p b k s
      let s := drainPort p 8 s
      match (s.node.ports[p]).slotted with
      | some x =>
        let (s, b) := writeUplink x (ulOffset b + 52 * k) b s
        (s.onPort p fun y => { y with slotted := none }, setAlarm s b)
      | none => (s, setAlarm s b)
    | none => (s, setAlarm s b)

/-! ### Mailbox (R370, R374) -/

/-- The MBX_SEQ of a mailbox request already presented within DUP_WINDOW (R374). -/
def mailSeen (s : State) (seq : Nat) : Bool :=
  s.node.mailboxSeen.any fun x => x.1 == seq && decide (s.clk.now ≤ x.2 + s.nat K.dupWindow * 1000)

/-- MSTATE of a fragment, and the state if the frame's FCS is good. -/
def takeFragment (p : Fin 2) (b : List Byte) (s : State) : Nat × State :=
  let m := (s.node.ports[p]).mailbox
  let last := bitOf (fieldAt 11 1 b) 0
  let seq := fieldAt 12 4 b
  let off := fieldAt 16 4 b
  let len := fieldAt 20 4 b
  let data := slice 32 len b
  let assembling := m.seq.isSome && !m.presented
  let have_ := if assembling && m.seq == some seq then m.bytes.length else 0
  let empty (s : State) : State := s.onPort p fun x => { x with mailbox := {} }
  if mailSeen s seq then
    (3, (if assembling && m.seq == some seq then empty s else s) |> fun s => if last then s.inc K.duplicates else s)
  else if m.presented && m.answer.isNone then (2, s)
  else if len = 0 || 4096 < len || b.length < 32 + len || off ≠ have_ || 17152 < off + len
      || (off = 0 && assembling && m.seq != some seq) then (4, empty s)
  else
    let m := if off = 0 then { seq := some seq, bytes := data : MailboxBuf } else { m with bytes := m.bytes ++ data }
    let m := if last then { m with presented := true, at_ := s.clk.now } else m
    let s := s.onPort p fun x => { x with mailbox := m }
    let fresh := s.node.mailboxSeen.filter fun x => decide (s.clk.now ≤ x.2 + s.nat K.dupWindow * 1000)
    (1, if last then { s with node := { s.node with mailboxSeen := (seq, s.clk.now) :: fresh } } else s)

/-- A mailbox frame passes: a fragment in a frame with a bad FCS is discarded. -/
def passMailbox (p : Fin 2) (fcsOk : Bool) (b : List Byte) (s : State) : State × List Byte :=
  if !forNode s b || fieldAt 8 2 b ≠ s.nat K.ringAddress then (s, b)
  else
    let (v, t) := takeFragment p b s
    -- an assembled request that breaks R343 is answered without a command that names it
    (if fcsOk then selfTurns 4 t else s, overlay 10 (leBytes 1 v) b)

/-- A poll passes: PSTATE and what it collects (R370). -/
def passPoll (p : Fin 2) (b : List Byte) (s : State) : State × List Byte :=
  if !forNode s b || fieldAt 8 2 b ≠ s.nat K.ringAddress then (s, b)
  else
    let seq := fieldAt 12 4 b
    let off := fieldAt 16 4 b
    let area := min (fieldAt 20 4 b) (b.length - 32)
    let held := [(s.node.ports[p]).mailbox, (s.node.ports[otherPort p]).mailbox].filter fun m => m.seq == some seq
    match held.findSome? MailboxBuf.answer with
    | some a =>
      let n := min area (a.length - off)
      (s, overlay 32 (slice off n a) (overlay 24 (leBytes 4 a.length ++ leBytes 4 n) (overlay 10 [1#8] b)))
    | none => (s, overlay 10 [if held.isEmpty then 3#8 else 2#8] b)

/-! ### Roll call (R371) -/

/-- The roll-call entry of this node (Table 14-5). -/
def rollEntry (p : Fin 2) (s : State) : List Byte :=
  leBytes 8 Config.unitId.toNat ++ leBytes 2 0x8320 ++ leBytes 1 p
    ++ leBytes 1 (b2n (s.nat (K.linkState (otherPort p)) != 0) + 2 * b2n s.ic.presented[3])
    ++ leBytes 4 (s.nat K.controlFwVersion)

/-- The node takes an address: mailbox buffers empty, copies forgotten, interrupt 45. -/
def takeAddress (address ring seq : Nat) (s : State) : State :=
  let s := ((s.setNum K.ringAddress address).setNum K.ringId ring).setNum K.rollSeq seq
  let s := { s with node := { s.node with
    ports := s.node.ports.map (fun x => { x with mailbox := {} }), copies := [], mailboxSeen := [],
    rollTaken := some (ring, seq) } }
  raise 45 s

/-- A roll call passes. -/
def passRoll (p : Fin 2) (fcsOk : Bool) (b : List Byte) (s : State) : State × List Byte :=
  let ring := frameRing b
  let seq := frameSeq b
  let n := fieldAt 8 1 b
  if s.node.rollTaken = some (ring, seq) || b.length < 1952 then (s, b)
  else if n < 120 then
    let b := overlay (32 + 16 * n) (rollEntry p s) (overlay 8 (leBytes 1 (n + 1)) b)
    (if fcsOk then takeAddress (n + 1) ring seq s else s, b)
  else (s, overlay 9 [(b.getD 9 0) ||| 1#8] b)

/-! ### Time transfer (R376 to R379) -/

/-- PHY delay of a port, added in SGMII mode (R376). -/
def phyDelay (s : State) (p : Fin 2) (k : Key) : Nat := if s.node.portMode[p] = 2 then s.nat k else 0

/-- An instant in ps as a port stamps it, in sixteenths of a ps: the last multiple of 7.8125 ps = 125/16 ps that is not after it. R376 gives
the resolution and no direction of rounding (DESIGN CHOICE, log entry 114). -/
def stampGrid (t : Nat) : Int := (16 * t / 125 * 125 : Nat)

/-- The instant at which a frame's SFD ends, in ps of device time. -/
def sfdInstant (rx : RxFrame) (s : State) : Nat := (s.clk.devTime + s.clk.now % 10) * 1000 + rx.ps

/-- The rx stamp of a frame in sixteenths of a ps of device time (R376). -/
def rxStamp (rx : RxFrame) (s : State) : Int := stampGrid (sfdInstant rx s) - 16 * phyDelay s rx.port (K.phyDelayRx rx.port)

/-- The tx stamp of a frame, likewise. -/
def txStamp (rx : RxFrame) (s : State) : Int :=
  let o := outPort s rx.port
  stampGrid (sfdInstant rx s + residence rx) + 16 * phyDelay s o (K.phyDelayTx o)

/-- Sixteenths of a ps in whole ps, rounded to nearest. -/
def psOfStamp (t : Int) : Int := roundDiv t 16

/-- A stamp as a sweep entry holds it: ns, and whole ps. -/
def stampBytes (t : Int) : List Byte := leBytes 4 (ofSigned 32 (psOfStamp t / 1000)) ++ leBytes 2 (psOfStamp t % 1000).toNat

/-- A sweep passes: the node's entry of this pass (Table 14-7). -/
def passSweep (rx : RxFrame) (s : State) : State × List Byte :=
  let b := rx.payload
  if !forNode s b || b.length < 3872 then (s, b)
  else
    let a := s.nat K.ringAddress
    let at_ (i : Nat) : Nat := 32 + 16 * i
    let i := if fieldAt (at_ (a - 1) + 6) 1 b = 255 then a - 1 else 120 + a - 1
    let e := stampBytes (rxStamp rx s) ++ leBytes 1 rx.port ++ leBytes 1 (b2n (s.nat K.timeState == 2) + 2 * b2n (turnsBack s rx.port))
      ++ stampBytes (txStamp rx s) ++ leBytes 1 (outPort s rx.port) ++ [0]
    (s, overlay (at_ i) e b)

/-- A SEQ of a bell-mark already used within DUP_WINDOW (R379). -/
def markSeen (s : State) (seq : Nat) : Bool :=
  s.node.marksSeen.any fun x => x.1 == seq && decide (s.clk.now ≤ x.2 + s.nat K.dupWindow * 1000)

/-- A bell-mark passes: recorded, perhaps used, its CORRECTION updated in place (R379). -/
def passMark (rx : RxFrame) (s : State) : State × List Byte :=
  let b := rx.payload
  let p := rx.port
  let seq := frameSeq b
  let corr := toSigned 64 (fieldAt 20 8 b)
  let dly : Int := (s.nat (K.linkDelay p) : Int) + s.num (K.linkAsym p)
  let expected : Int := (fieldAt 8 8 b * 1000 + fieldAt 16 2 b : Nat) + corr + dly
  let offset16 := rxStamp rx s - 16 * expected
  let used := s.nat K.timeSource == 2 && frameRing b == s.nat K.ringId && s.nat (K.delayValid p) == 1 && rx.fcsOk
    && !markSeen s seq
  let out := overlay 20 (leBytes 8 (ofSigned 64 (corr + dly + psOfStamp (txStamp rx s - rxStamp rx s)))) b
  let s := s.setBlock K.lastMark (leBytes 8 (fieldAt 8 8 b) ++ leBytes 2 (fieldAt 16 2 b) ++ leBytes 2 seq ++ leBytes 1 p
    ++ leBytes 1 (b2n used) ++ zeros 2 ++ leBytes 8 (ofSigned 64 (corr + dly)) ++ leBytes 8 (ofSigned 64 (psOfStamp offset16)))
  if used then
    let fresh := s.node.marksSeen.filter fun x => decide (s.clk.now ≤ x.2 + s.nat K.dupWindow * 1000)
    let s := { s with node := { s.node with marksSeen := (seq, s.clk.now) :: fresh } }
    (measureOffset offset16 ((s.setNum K.masterQuality (fieldAt 18 1 b)).inc K.marksUsed), out)
  else (s, out)

/-! ### Links (R373, R375) -/

/-- A frame that is being received on port `p` as the port goes down leaves cut short with a bad FCS, after a free number of the bytes that
follow its downlink slot (R373). -/
def cutFrame (p : Fin 2) (s : State) : State :=
  match (s.node.ports[p]).slotted with
  | some x =>
    let n := x.passed + s.free (x.payload.length - x.passed + 1)
    let b := (setAlarm s x.payload).take n
    let b := if turnsBack s p then setLooped b else b
    { s.draw with node := { s.draw.node with lastOut := some { port := outPort s p, payload := b, badFcs := true } } }
  | none => s

/-- A port goes down, sends configuration ordered sets in place of frames, and the node loops frames at the other (R373, R443). -/
def portDown (p : Fin 2) (s : State) : State :=
  let s := cutFrame p s
  let s := (s.setNum (K.linkState p) 0).onPort p fun x => { x with upSince := none, looped := true, ordered := true, slotted := none }
  let s := (s.setNum (K.delayValid p) 0).inc (K.linkDowns p)
  let s := endSession ⟨p.val, by omega⟩ s
  raise 44 (record 2 (0x7400 + p) 0x0901 (leBytes 4 (s.nat (K.linkDowns p))) s)

end Sys2Proof.Machine
end

