-- ==== Sys2Proof/Machine/RingCommands.lean ====
section
/-!
DEFINITION. Machine/RingCommands.lean: frames on the ring ports and the state of their links (R361 to R379).
-/

namespace Sys2Proof.Machine

/-- FOREIGN_FRAME (R361): another EtherType. -/
def execForeignFrame (rx : RxFrame) (s : State) : Host.Outcome State Fault Refusal :=
  finish (passFrame rx false (fun s => (s.inc (K.foreignFrames rx.port), rx.payload)) s)

/-- JOENLINK_FRAME_UNKNOWN (R364). -/
def execJoenlinkFrameUnknown (rx : RxFrame) (s : State) : Host.Outcome State Fault Refusal :=
  if (List.range 6).any fun k => isFrame (k + 1) rx.payload then finish s
  else finish (passFrame rx false (fun s => (s.inc (K.rejectedFrames rx.port), rx.payload)) s)

/-- CARRIAGE_FRAME (R365). -/
def execCarriageFrame (rx : RxFrame) (s : State) : Host.Outcome State Fault Refusal :=
  passType 1 rx (passCarriage rx.port rx.payload) s fun s => if carriageOk rx.payload then s else s.inc (K.rejectedFrames rx.port)

/-- The downlink slot of a carriage frame in passage has arrived, with CTRL `ctrl`. -/
def slotCommand (ctrl : Nat) (rx : RxFrame) (s : State) : State :=
  match carriagePosition s rx.payload with
  | some k =>
    if ringRuns s && s.nat (K.linkState rx.port) ≠ 0 && fieldAt 0 1 (downSlot rx.payload k) = ctrl then
      slotArrives rx.port rx.payload k (s.elapse rx.dt)
    else s
  | none => s

/-- CARRIAGE_REQUEST (R367). -/
def execCarriageRequest (rx : RxFrame) (s : State) : Host.Outcome State Fault Refusal := finish (slotCommand 1 rx s)

/-- CARRIAGE_REFETCH (R367). -/
def execCarriageRefetch (rx : RxFrame) (s : State) : Host.Outcome State Fault Refusal := finish (slotCommand 2 rx s)

/-- MAILBOX (R370). -/
def execMailbox (rx : RxFrame) (s : State) : Host.Outcome State Fault Refusal :=
  passType 5 rx (passMailbox rx.port rx.fcsOk rx.payload) s

/-- POLL (R370). -/
def execPoll (rx : RxFrame) (s : State) : Host.Outcome State Fault Refusal := passType 6 rx (passPoll rx.port rx.payload) s

/-- ROLL_CALL (R371). -/
def execRollCall (rx : RxFrame) (s : State) : Host.Outcome State Fault Refusal :=
  passType 4 rx (passRoll rx.port rx.fcsOk rx.payload) s

/-- SWEEP (R377). -/
def execSweep (rx : RxFrame) (s : State) : Host.Outcome State Fault Refusal := passType 3 rx (passSweep rx) s

/-- BELL_MARK (R379). -/
def execBellMark (rx : RxFrame) (s : State) : Host.Outcome State Fault Refusal := passType 2 rx (passMark rx) s

/-- LINK_DOWN (R373). -/
def execLinkDown (port : Fin 2) (dt : Nat) (s : State) : Host.Outcome State Fault Refusal :=
  if ringRuns s && s.nat (K.linkState port) ≠ 0 then finish (portDown port (s.elapse dt)) else finish s

/-- RING_LINK_UP (R375). -/
def execRingLinkUp (port : Fin 2) (dt : Nat) (s : State) : Host.Outcome State Fault Refusal :=
  if ringRuns s && s.nat (K.linkState port) = 0 then
    let s := s.elapse dt
    finish ((s.setNum (K.linkState port) 1).onPort port fun x => { x with upSince := some s.clk.now, ordered := false })
  else finish s

/-- LOOP_END (R375): at or after LINK_HOLD from the link's return. -/
def execLoopEnd (port : Fin 2) (s : State) : Host.Outcome State Fault Refusal :=
  match (s.node.ports[port]).upSince with
  | some t =>
    if (s.node.ports[port]).looped then
      finish (atInstant (t + s.nat K.linkHold * 1000000) (fun s =>
        (s.setNum (K.linkState port) 2).onPort port fun x => { x with looped := false }) s)
    else finish s
  | none => finish s

end Sys2Proof.Machine
end

