-- ==== Sys2Proof/Machine/StreamCommands.lean ====
section
/-!
DEFINITION. Machine/StreamCommands.lean: the stream port's commands (R394 to R396).
-/

namespace Sys2Proof.Machine

/-- STREAM_TXDIS (R399, R495): high from 5.0 ms into a shut-down too. -/
def streamTxDisable (s : State) : Bool := s.port.txDisable || !portsOn s

/-- The port can send and answer: link up, and transmitting, as STREAM_TXDIS shows it (R397, R399). -/
def portSends (s : State) : Bool :=
  s.nat K.streamLink == 1 && s.nat K.streamPortEnable == 1 && !streamTxDisable s

/-- ARP_REQUEST (R394): a request for STREAM_IP is answered; any other is a frame that the port discards. -/
def execArpRequest (ip : BitVec 32) (senderMac : BitVec 48) (senderIp : BitVec 32) (dt : Nat) (s : State) :
    Host.Outcome State Fault Refusal :=
  let s := s.elapse dt
  if portSends s ∧ s.nat K.streamIp ≠ 0 ∧ ip.toNat = s.nat K.streamIp then
    finish { s.inc K.arpReplies with port := { s.port with lastArp := some (senderMac.toNat, senderIp.toNat) } }
  else if s.nat K.streamLink = 1 then finish (s.inc K.rxDiscarded)
  else finish s

/-- STREAM_RX_DISCARD (R394): any other received frame. -/
def execStreamRxDiscard (dt : Nat) (s : State) : Host.Outcome State Fault Refusal :=
  let s := s.elapse dt
  finish (if s.nat K.streamLink = 1 then s.inc K.rxDiscarded else s)

/-- Nothing leaves stream `k` now. A record that has started waits for a link that is down, and the settings it started with,
STREAM_PORT_ENABLE among them, hold to its end; none starts or goes on while the transmitter is off for Standby (R396, R399), or after a
shut-down has stopped the port (R495). -/
def datagramWaits (k : Fin 8) (s : State) : Bool :=
  let started := s.port.queues[k].head?.any fun r => r.sent != 0
  !portsOn s || (started && s.nat K.streamLink == 0) || ((started || !portDiscards k s) && s.nat K.powerState == 2)

/-- DATAGRAM_SEND (R396): the stream whose turn it is sends one datagram. -/
def execDatagramSend (dt : Nat) (s : State) : Host.Outcome State Fault Refusal :=
  match nextTurn s with
  | some k =>
    if datagramWaits k s then finish s
    else
      let s := sendFragment k (s.elapse dt)
      finish { s with port := { s.port with lastTurn := k.val } }
  | none => finish s

/-- The stream link is up or down now; a change is an event (R396, Table 16-7). -/
def streamLinkNow (up : Bool) (s : State) : State :=
  if s.nat K.streamLink = b2n up then s else raise 50 (s.setNum K.streamLink (b2n up))

/-- STREAM_LINK_CHANGE (R396, R399): the link changes, or STREAM_LOS does; with no signal there is no link. -/
def execStreamLinkChange (up : StreamSignal) (dt : Nat) (s : State) : Host.Outcome State Fault Refusal :=
  let s := s.elapse dt
  match up with
  | .link b => finish (if b && s.port.los then s else streamLinkNow b s)
  | .los high =>
    let s := { s with port := { s.port with los := high } }
    finish (if high then streamLinkNow false s else s)

end Sys2Proof.Machine
end

