-- ==== Sys2Proof/Machine/TimeCommands.lean ====
section
/-!
DEFINITION. Machine/TimeCommands.lean: the events of REF_IN, the PLL, PPS_IN and the edge time-stampers (R38 to R51).
-/

namespace Sys2Proof.Machine

/-- REF_IN_LOST (R38, R40): holdover from a locked frequency; back to absent while locking. -/
def execRefInLost (dt : Nat) (s : State) : Host.Outcome State Fault Refusal :=
  let r := s.nat K.refState
  if r = 2 ∨ r = 4 then
    let s := ((s.elapse dt).setNum K.refState 3).inc K.holdoverCount
    let s := { s with clk := { s.clk with frozen := true },
                      policy := { s.policy with holdoverSince := some s.clk.now, holdoverNoted := false } }
    let s := s.onAcquiring fun b => b.flagIf true .holdover
    finish (raise 19 (record 2 0x2100 0x0101 (leBytes 4 (s.nat K.holdoverCount)) s))
  else if r = 1 then finish (raise 19 ((s.elapse dt).setNum K.refState 0))
  else finish s

/-- REF_IN_RETURN (R39, R40): 1,024 consecutive edges. -/
def execRefInReturn (dt : Nat) (s : State) : Host.Outcome State Fault Refusal :=
  let r := s.nat K.refState
  if r = 3 then
    let s := (s.elapse dt).setNum K.refState 4
    finish { s with clk := { s.clk with frozen := false }, policy := { s.policy with holdoverSince := none } }
  else if r = 0 then finish ((s.elapse dt).setNum K.refState 1)
  else finish s

/-- PLL_LOCK (R39, R40): REF_STATE becomes "locked". -/
def execPllLock (dt : Nat) (s : State) : Host.Outcome State Fault Refusal :=
  let r := s.nat K.refState
  if r = 1 ∨ r = 4 then finish ((s.elapse dt).setNum K.refState 2) else finish s

/-- PPS_IN_EDGE (R41). -/
def execPpsInEdge (dt : Nat) (frac : Fin 128) (s : State) : Host.Outcome State Fault Refusal :=
  finish (ppsEdge frac (s.elapse dt))

/-- TIME_COAST (R42): no measurement for 2.0 s. -/
def execTimeCoast (s : State) : Host.Outcome State Fault Refusal :=
  let st := s.nat K.timeState
  if s.nat K.timeSource ≠ 0 ∧ (st = 1 ∨ st = 2) then
    finish (atInstant (s.servo.lastMeasure + 2000000000) (fun s =>
      setTimeState 3 { s with servo := { s.servo with within50 := 0, beyond200 := 0, outside := 0 } }) s)
  else finish s

/-- TDC_EDGE (R43). -/
def execTdcEdge (dt : Nat) (frac : Fin 128) (chan : Fin 8) (rising : Bool) (s : State) : Host.Outcome State Fault Refusal :=
  let s := s.elapse dt
  finish (tdcEdge chan rising (128 * s.clk.now + frac) s)

/-- TDC_POP_LO (R50), by either core, each of which may read the block (Table 16-2). -/
def execTdcPopLo (core : Fin 2) (chan : Fin 8) (s : State) : Host.Outcome State Fault Refusal :=
  finish (coreAccess core true 0 (tdcBase + 0x10 * chan + 4) 0 (popLo chan) s)

/-- TDC_STATUS_CLEAR (R51): a W1C write; the control core may not write the block (Table 16-2). -/
def execTdcStatusClear (core : Fin 2) (chan : Fin 8) (value : BitVec 32) (s : State) : Host.Outcome State Fault Refusal :=
  finish (coreAccess core (core == 1) 1 (tdcBase + 0x10 * chan) 0 (fun s =>
    if value.getLsbD 17 then s.onTdc chan fun x => { x with lostSticky := false } else s) s)

/-- FINE_CALIBRATION (R49): every FINE_CAL_PERIOD; new tables wait for a bell boundary. -/
def execFineCalibration (s : State) : Host.Outcome State Fault Refusal :=
  finish (atInstant (s.tdc.lastCal + s.nat K.fineCalPeriod * 1000000000) (fun s =>
    { s with tdc := { s.tdc with lastCal := s.clk.now, calPending := some (s.tdc.calTable + 1) } }) s)

end Sys2Proof.Machine
end

