-- ==== Sys2Proof/Machine/Dispatch.lean ====
section
/-!
DEFINITION. Machine/Dispatch.lean: one arm per command, each one direct call of its meaning.
-/

namespace Sys2Proof.Machine

def exec (i : Instr) (s : State) : Host.Outcome State Fault Refusal :=
  match i with
  | .bellStart => Sys2Proof.Machine.execBellStart s
  | .bellsStopped => Sys2Proof.Machine.execBellsStopped s
  | .acquisitionWindowClose samples raman ramanPhase => Sys2Proof.Machine.execAcquisitionWindowClose samples raman ramanPhase s
  | .launchWindowClose => Sys2Proof.Machine.execLaunchWindowClose s
  | .traceEndKnown => Sys2Proof.Machine.execTraceEndKnown s
  | .offsetEstimate sums => Sys2Proof.Machine.execOffsetEstimate sums s
  | .lessonStart => Sys2Proof.Machine.execLessonStart s
  | .lessonDeadline => Sys2Proof.Machine.execLessonDeadline s
  | .refInLost dt => Sys2Proof.Machine.execRefInLost dt s
  | .refInReturn dt => Sys2Proof.Machine.execRefInReturn dt s
  | .pllLock dt => Sys2Proof.Machine.execPllLock dt s
  | .ppsInEdge dt frac => Sys2Proof.Machine.execPpsInEdge dt frac s
  | .timeCoast => Sys2Proof.Machine.execTimeCoast s
  | .tdcEdge dt frac chan rising => Sys2Proof.Machine.execTdcEdge dt frac chan rising s
  | .tdcPopLo core chan => Sys2Proof.Machine.execTdcPopLo core chan s
  | .tdcStatusClear core chan value => Sys2Proof.Machine.execTdcStatusClear core chan value s
  | .fineCalibration => Sys2Proof.Machine.execFineCalibration s
  | .bellRunArm src => Sys2Proof.Machine.execBellRunArm src s
  | .bellRunStop src => Sys2Proof.Machine.execBellRunStop src s
  | .deviceTimeWrite src value => Sys2Proof.Machine.execDeviceTimeWrite src value s
  | .timeSourceSelect src value => Sys2Proof.Machine.execTimeSourceSelect src value s
  | .tdcOwnerChange src chan value => Sys2Proof.Machine.execTdcOwnerChange src chan value s
  | .pwmPeriodStart line => Sys2Proof.Machine.execPwmPeriodStart line s
  | .gateLineFire line => Sys2Proof.Machine.execGateLineFire line s
  | .gateLineEnd line => Sys2Proof.Machine.execGateLineEnd line s
  | .complianceJudgement line current pinMv gateLimit => Sys2Proof.Machine.execComplianceJudgement line current pinMv gateLimit s
  | .provingPulseStart line => Sys2Proof.Machine.execProvingPulseStart line s
  | .provingVerdict line current pinMv => Sys2Proof.Machine.execProvingVerdict line current pinMv s
  | .faultClear src value => Sys2Proof.Machine.execFaultClear src value s
  | .interlockAssert dt => Sys2Proof.Machine.execInterlockAssert dt s
  | .interlockRelease dt => Sys2Proof.Machine.execInterlockRelease dt s
  | .driveEnableHoldoffEnd => Sys2Proof.Machine.execDriveEnableHoldoffEnd s
  | .driveRestore src => Sys2Proof.Machine.execDriveRestore src s
  | .driveRemove src => Sys2Proof.Machine.execDriveRemove src s
  | .dissipationAverage milliwatts => Sys2Proof.Machine.execDissipationAverage milliwatts s
  | .capScaleApply => Sys2Proof.Machine.execCapScaleApply s
  | .capScaleRaise => Sys2Proof.Machine.execCapScaleRaise s
  | .shadowApplyStopped => Sys2Proof.Machine.execShadowApplyStopped s
  | .calRun src => Sys2Proof.Machine.execCalRun src s
  | .converterCalDone gains skews => Sys2Proof.Machine.execConverterCalDone gains skews s
  | .captureArm src => Sys2Proof.Machine.execCaptureArm src s
  | .captureComplete => Sys2Proof.Machine.execCaptureComplete s
  | .captureOverrun entries => Sys2Proof.Machine.execCaptureOverrun entries s
  | .dtsBlockCopyDone => Sys2Proof.Machine.execDtsBlockCopyDone s
  | .profileStore => Sys2Proof.Machine.execProfileStore s
  | .calReset src => Sys2Proof.Machine.execCalReset src s
  | .traceEndLearn src => Sys2Proof.Machine.execTraceEndLearn src s
  | .traceEndLearnDone => Sys2Proof.Machine.execTraceEndLearnDone s
  | .engMul at_ gd f => Sys2Proof.Machine.execEngMul at_ gd f s
  | .engMac at_ gd f => Sys2Proof.Machine.execEngMac at_ gd f s
  | .engMsu at_ gd f => Sys2Proof.Machine.execEngMsu at_ gd f s
  | .engMuln at_ gd f => Sys2Proof.Machine.execEngMuln at_ gd f s
  | .engAclr at_ gd f => Sys2Proof.Machine.execEngAclr at_ gd f s
  | .engAmov at_ gd f => Sys2Proof.Machine.execEngAmov at_ gd f s
  | .engAadd at_ gd f => Sys2Proof.Machine.execEngAadd at_ gd f s
  | .engAsub at_ gd f => Sys2Proof.Machine.execEngAsub at_ gd f s
  | .engAldg at_ gd f => Sys2Proof.Machine.execEngAldg at_ gd f s
  | .engAext at_ gd f => Sys2Proof.Machine.execEngAext at_ gd f s
  | .engAex16 at_ gd f => Sys2Proof.Machine.execEngAex16 at_ gd f s
  | .engAshr at_ gd f => Sys2Proof.Machine.execEngAshr at_ gd f s
  | .engNop at_ slot => Sys2Proof.Machine.execEngNop at_ slot s
  | .engAdd at_ gd f => Sys2Proof.Machine.execEngAdd at_ gd f s
  | .engSub at_ gd f => Sys2Proof.Machine.execEngSub at_ gd f s
  | .engAdds at_ gd f => Sys2Proof.Machine.execEngAdds at_ gd f s
  | .engSubs at_ gd f => Sys2Proof.Machine.execEngSubs at_ gd f s
  | .engAnd at_ gd f => Sys2Proof.Machine.execEngAnd at_ gd f s
  | .engOr at_ gd f => Sys2Proof.Machine.execEngOr at_ gd f s
  | .engXor at_ gd f => Sys2Proof.Machine.execEngXor at_ gd f s
  | .engShl at_ gd f => Sys2Proof.Machine.execEngShl at_ gd f s
  | .engShr at_ gd f => Sys2Proof.Machine.execEngShr at_ gd f s
  | .engSar at_ gd f => Sys2Proof.Machine.execEngSar at_ gd f s
  | .engMin at_ gd f => Sys2Proof.Machine.execEngMin at_ gd f s
  | .engMax at_ gd f => Sys2Proof.Machine.execEngMax at_ gd f s
  | .engAbs at_ gd f => Sys2Proof.Machine.execEngAbs at_ gd f s
  | .engAdd2 at_ gd f => Sys2Proof.Machine.execEngAdd2 at_ gd f s
  | .engSub2 at_ gd f => Sys2Proof.Machine.execEngSub2 at_ gd f s
  | .engAdds2 at_ gd f => Sys2Proof.Machine.execEngAdds2 at_ gd f s
  | .engSubs2 at_ gd f => Sys2Proof.Machine.execEngSubs2 at_ gd f s
  | .engSxl at_ gd f => Sys2Proof.Machine.execEngSxl at_ gd f s
  | .engSxh at_ gd f => Sys2Proof.Machine.execEngSxh at_ gd f s
  | .engPack at_ gd f => Sys2Proof.Machine.execEngPack at_ gd f s
  | .engSel at_ gd f => Sys2Proof.Machine.execEngSel at_ gd f s
  | .engMov at_ gd f => Sys2Proof.Machine.execEngMov at_ gd f s
  | .engCmpeq at_ gd f => Sys2Proof.Machine.execEngCmpeq at_ gd f s
  | .engCmplt at_ gd f => Sys2Proof.Machine.execEngCmplt at_ gd f s
  | .engCmpltu at_ gd f => Sys2Proof.Machine.execEngCmpltu at_ gd f s
  | .engCmple at_ gd f => Sys2Proof.Machine.execEngCmple at_ gd f s
  | .engPand at_ gd f => Sys2Proof.Machine.execEngPand at_ gd f s
  | .engPor at_ gd f => Sys2Proof.Machine.execEngPor at_ gd f s
  | .engPnot at_ gd f => Sys2Proof.Machine.execEngPnot at_ gd f s
  | .engPseti at_ gd f => Sys2Proof.Machine.execEngPseti at_ gd f s
  | .engPtst at_ gd f => Sys2Proof.Machine.execEngPtst at_ gd f s
  | .engPclr at_ gd f => Sys2Proof.Machine.execEngPclr at_ gd f s
  | .engPset at_ gd f => Sys2Proof.Machine.execEngPset at_ gd f s
  | .engAddi at_ gd f => Sys2Proof.Machine.execEngAddi at_ gd f s
  | .engAndi at_ gd f => Sys2Proof.Machine.execEngAndi at_ gd f s
  | .engOri at_ gd f => Sys2Proof.Machine.execEngOri at_ gd f s
  | .engXori at_ gd f => Sys2Proof.Machine.execEngXori at_ gd f s
  | .engShli at_ gd f => Sys2Proof.Machine.execEngShli at_ gd f s
  | .engShri at_ gd f => Sys2Proof.Machine.execEngShri at_ gd f s
  | .engSari at_ gd f => Sys2Proof.Machine.execEngSari at_ gd f s
  | .engCmpeqi at_ gd f => Sys2Proof.Machine.execEngCmpeqi at_ gd f s
  | .engCmplti at_ gd f => Sys2Proof.Machine.execEngCmplti at_ gd f s
  | .engMovil at_ gd f => Sys2Proof.Machine.execEngMovil at_ gd f s
  | .engMovih at_ gd f => Sys2Proof.Machine.execEngMovih at_ gd f s
  | .engMovtp at_ gd f => Sys2Proof.Machine.execEngMovtp at_ gd f s
  | .engMovtm at_ gd f => Sys2Proof.Machine.execEngMovtm at_ gd f s
  | .engMovtl at_ gd f => Sys2Proof.Machine.execEngMovtl at_ gd f s
  | .engMovfp at_ gd f => Sys2Proof.Machine.execEngMovfp at_ gd f s
  | .engMovfm at_ gd f => Sys2Proof.Machine.execEngMovfm at_ gd f s
  | .engMovfl at_ gd f => Sys2Proof.Machine.execEngMovfl at_ gd f s
  | .engLd at_ second gd f => Sys2Proof.Machine.execEngLd at_ second gd f s
  | .engSt at_ second gd f => Sys2Proof.Machine.execEngSt at_ second gd f s
  | .engPmod at_ second gd f => Sys2Proof.Machine.execEngPmod at_ second gd f s
  | .engPost at_ second gd f => Sys2Proof.Machine.execEngPost at_ second gd f s
  | .engBr at_ target => Sys2Proof.Machine.execEngBr at_ target s
  | .engBrt at_ qb target => Sys2Proof.Machine.execEngBrt at_ qb target s
  | .engBrf at_ qb target => Sys2Proof.Machine.execEngBrf at_ qb target s
  | .engRep at_ rot count len => Sys2Proof.Machine.execEngRep at_ rot count len s
  | .engSeg at_ => Sys2Proof.Machine.execEngSeg at_ s
  | .engEnd at_ => Sys2Proof.Machine.execEngEnd at_ s
  | .replay at_ => Sys2Proof.Machine.execReplay at_ s
  | .engineHaltAtSafePoint at_ => Sys2Proof.Machine.execEngineHaltAtSafePoint at_ s
  | .safePointTimeout eng adv => Sys2Proof.Machine.execSafePointTimeout eng adv s
  | .spareMappingStart => Sys2Proof.Machine.execSpareMappingStart s
  | .classroomFault room => Sys2Proof.Machine.execClassroomFault room s
  | .prefetchComplete room dt => Sys2Proof.Machine.execPrefetchComplete room dt s
  | .dbgStatus eng dt => Sys2Proof.Machine.execDbgStatus eng dt s
  | .dbgHalt eng dt => Sys2Proof.Machine.execDbgHalt eng dt s
  | .dbgResume eng dt => Sys2Proof.Machine.execDbgResume eng dt s
  | .dbgStep eng dt => Sys2Proof.Machine.execDbgStep eng dt s
  | .dbgReadReg eng addr dt => Sys2Proof.Machine.execDbgReadReg eng addr dt s
  | .dbgWriteReg eng addr data dt => Sys2Proof.Machine.execDbgWriteReg eng addr data dt s
  | .dbgReadMem eng addr dt => Sys2Proof.Machine.execDbgReadMem eng addr dt s
  | .dbgWriteMem eng addr data dt => Sys2Proof.Machine.execDbgWriteMem eng addr data dt s
  | .dbgSetBreak eng addr data dt => Sys2Proof.Machine.execDbgSetBreak eng addr data dt s
  | .dbgClearBreak eng addr dt => Sys2Proof.Machine.execDbgClearBreak eng addr dt s
  | .faultInject src value => Sys2Proof.Machine.execFaultInject src value s
  | .ttLoad src => Sys2Proof.Machine.execTtLoad src s
  | .ttImagePiece src offset data => Sys2Proof.Machine.execTtImagePiece src offset data s
  | .bellSwitchLoadDone => Sys2Proof.Machine.execBellSwitchLoadDone s
  | .manualTrigger src value => Sys2Proof.Machine.execManualTrigger src value s
  | .triggerNext src => Sys2Proof.Machine.execTriggerNext src s
  | .harvestComplete seq dt => Sys2Proof.Machine.execHarvestComplete seq dt s
  | .harvestRelease src value => Sys2Proof.Machine.execHarvestRelease src value s
  | .harvestAreaResize src value => Sys2Proof.Machine.execHarvestAreaResize src value s
  | .hkTimerStart => Sys2Proof.Machine.execHkTimerStart s
  | .hkPwmEdgeStart => Sys2Proof.Machine.execHkPwmEdgeStart s
  | .hkStartEntry src => Sys2Proof.Machine.execHkStartEntry src s
  | .hkStartRegister core value dt => Sys2Proof.Machine.execHkStartRegister core value dt s
  | .hkSample rawA rawB openA openB => Sys2Proof.Machine.execHkSample rawA rawB openA openB s
  | .hkSlotEnd => Sys2Proof.Machine.execHkSlotEnd s
  | .hkCalRun src => Sys2Proof.Machine.execHkCalRun src s
  | .hkSelfCalDone factors => Sys2Proof.Machine.execHkSelfCalDone factors s
  | .hkStatusClear core value dt => Sys2Proof.Machine.execHkStatusClear core value dt s
  | .stickyClear src value => Sys2Proof.Machine.execStickyClear src value s
  | .barnRequest requester line write dt => Sys2Proof.Machine.execBarnRequest requester line write dt s
  | .barnReadComplete chan errors dt => Sys2Proof.Machine.execBarnReadComplete chan errors dt s
  | .barnWriteBurst chan dt => Sys2Proof.Machine.execBarnWriteBurst chan dt s
  | .barnAlert chan requester line cycles dt => Sys2Proof.Machine.execBarnAlert chan requester line cycles dt s
  | .refreshDue chan => Sys2Proof.Machine.execRefreshDue chan s
  | .recalStep chan dt => Sys2Proof.Machine.execRecalStep chan dt s
  | .scrubPassEnd dt => Sys2Proof.Machine.execScrubPassEnd dt s
  | .selfRefreshEntry => Sys2Proof.Machine.execSelfRefreshEntry s
  | .logClear src value => Sys2Proof.Machine.execLogClear src value s
  | .dictRead src args => Sys2Proof.Machine.execDictRead src args s
  | .dictShadowRead src args => Sys2Proof.Machine.execDictShadowRead src args s
  | .dictWrite src args => Sys2Proof.Machine.execDictWrite src args s
  | .dictGroupWrite src items => Sys2Proof.Machine.execDictGroupWrite src items s
  | .dpGo value dt => Sys2Proof.Machine.execDpGo value dt s
  | .dpStatusClear value dt => Sys2Proof.Machine.execDpStatusClear value dt s
  | .opStartTimetableLoad src arg => Sys2Proof.Machine.execOpStartTimetableLoad src arg s
  | .opStartProfileSave src arg => Sys2Proof.Machine.execOpStartProfileSave src arg s
  | .opStartProfileApply src arg => Sys2Proof.Machine.execOpStartProfileApply src arg s
  | .opStartFlashProgram src arg => Sys2Proof.Machine.execOpStartFlashProgram src arg s
  | .stagedOpStepDone k dt => Sys2Proof.Machine.execStagedOpStepDone k dt s
  | .stagedOpStepReport k dt => Sys2Proof.Machine.execStagedOpStepReport k dt s
  | .opAbort src value => Sys2Proof.Machine.execOpAbort src value s
  | .latchClear src value => Sys2Proof.Machine.execLatchClear src value s
  | .foreignFrame rx => Sys2Proof.Machine.execForeignFrame rx s
  | .joenlinkFrameUnknown rx => Sys2Proof.Machine.execJoenlinkFrameUnknown rx s
  | .carriageFrame rx => Sys2Proof.Machine.execCarriageFrame rx s
  | .carriageRequest rx => Sys2Proof.Machine.execCarriageRequest rx s
  | .carriageRefetch rx => Sys2Proof.Machine.execCarriageRefetch rx s
  | .mailbox rx => Sys2Proof.Machine.execMailbox rx s
  | .poll rx => Sys2Proof.Machine.execPoll rx s
  | .rollCall rx => Sys2Proof.Machine.execRollCall rx s
  | .sweep rx => Sys2Proof.Machine.execSweep rx s
  | .bellMark rx => Sys2Proof.Machine.execBellMark rx s
  | .linkDown port dt => Sys2Proof.Machine.execLinkDown port dt s
  | .loopEnd port => Sys2Proof.Machine.execLoopEnd port s
  | .linkDelayWrite src port value => Sys2Proof.Machine.execLinkDelayWrite src port value s
  | .rqDoorbell value dt => Sys2Proof.Machine.execRqDoorbell value dt s
  | .hostDictRequest cq tag dst dstLen req dt => Sys2Proof.Machine.execHostDictRequest cq tag dst dstLen req dt s
  | .hostBufferPost cq channel tag addr len dt => Sys2Proof.Machine.execHostBufferPost cq channel tag addr len dt s
  | .hostEnable value dt => Sys2Proof.Machine.execHostEnable value dt s
  | .resetQueues dt => Sys2Proof.Machine.execResetQueues dt s
  | .hostStatusClear value dt => Sys2Proof.Machine.execHostStatusClear value dt s
  | .cqHeadWrite ring value dt => Sys2Proof.Machine.execCqHeadWrite ring value dt s
  | .modTimerExpiry ring => Sys2Proof.Machine.execModTimerExpiry ring s
  | .msixUnmask vector dt => Sys2Proof.Machine.execMsixUnmask vector dt s
  | .aspmL1Entry => Sys2Proof.Machine.execAspmL1Entry s
  | .hostD3hotEntry dt => Sys2Proof.Machine.execHostD3hotEntry dt s
  | .hostD0Return dt => Sys2Proof.Machine.execHostD0Return dt s
  | .hostHotReset linkDown dt => Sys2Proof.Machine.execHostHotReset linkDown dt s
  | .tdcFlushExpiry chan => Sys2Proof.Machine.execTdcFlushExpiry chan s
  | .bar2Read offset len dt => Sys2Proof.Machine.execBar2Read offset len dt s
  | .bar2Write offset data dt => Sys2Proof.Machine.execBar2Write offset data dt s
  | .arpRequest ip senderMac senderIp dt => Sys2Proof.Machine.execArpRequest ip senderMac senderIp dt s
  | .streamRxDiscard dt => Sys2Proof.Machine.execStreamRxDiscard dt s
  | .datagramSend dt => Sys2Proof.Machine.execDatagramSend dt s
  | .streamLinkChange up dt => Sys2Proof.Machine.execStreamLinkChange up dt s
  | .icPendingClear core word value dt => Sys2Proof.Machine.execIcPendingClear core word value dt s
  | .icRouteWrite core word value dt => Sys2Proof.Machine.execIcRouteWrite core word value dt s
  | .icTargetWrite core target value dt => Sys2Proof.Machine.execIcTargetWrite core target value dt s
  | .icTake core target dt => Sys2Proof.Machine.execIcTake core target dt s
  | .icSoft core value dt => Sys2Proof.Machine.execIcSoft core value dt s
  | .pendingClear src data => Sys2Proof.Machine.execPendingClear src data s
  | .routesWrite src data => Sys2Proof.Machine.execRoutesWrite src data s
  | .targetDisable src value => Sys2Proof.Machine.execTargetDisable src value s
  | .mtimeLoRead core dt => Sys2Proof.Machine.execMtimeLoRead core dt s
  | .mtimeCompare core => Sys2Proof.Machine.execMtimeCompare core s
  | .appCoreHold src => Sys2Proof.Machine.execAppCoreHold src s
  | .appCoreRelease src => Sys2Proof.Machine.execAppCoreRelease src s
  | .appCoreLoadDone dt => Sys2Proof.Machine.execAppCoreLoadDone dt s
  | .watchdogExpiry dt => Sys2Proof.Machine.execWatchdogExpiry dt s
  | .powerEvaluation => Sys2Proof.Machine.execPowerEvaluation s
  | .weightEvaluation => Sys2Proof.Machine.execWeightEvaluation s
  | .fadeEvaluation => Sys2Proof.Machine.execFadeEvaluation s
  | .thermalCauseClear => Sys2Proof.Machine.execThermalCauseClear s
  | .holdoverLimitExpiry => Sys2Proof.Machine.execHoldoverLimitExpiry s
  | .levelDwellReturn => Sys2Proof.Machine.execLevelDwellReturn s
  | .levelReturn src => Sys2Proof.Machine.execLevelReturn src s
  | .lifecycleAdvance src value => Sys2Proof.Machine.execLifecycleAdvance src value s
  | .keyProgram src data => Sys2Proof.Machine.execKeyProgram src data s
  | .keyRevoke src value => Sys2Proof.Machine.execKeyRevoke src value s
  | .nonce src ini => Sys2Proof.Machine.execNonce src ini s
  | .sessionOpen src ini data => Sys2Proof.Machine.execSessionOpen src ini data s
  | .sessionClose src ini => Sys2Proof.Machine.execSessionClose src ini s
  | .sessionIdleExpiry ini => Sys2Proof.Machine.execSessionIdleExpiry ini s
  | .lockoutExpiry ini => Sys2Proof.Machine.execLockoutExpiry ini s
  | .windowWrite src window data => Sys2Proof.Machine.execWindowWrite src window data s
  | .windowChange window => Sys2Proof.Machine.execWindowChange window s
  | .debugRequest src value stuck => Sys2Proof.Machine.execDebugRequest src value stuck s
  | .powerRequestRun src => Sys2Proof.Machine.execPowerRequestRun src s
  | .powerRequestWatch src => Sys2Proof.Machine.execPowerRequestWatch src s
  | .powerRequestStandby src => Sys2Proof.Machine.execPowerRequestStandby src s
  | .powerRequestShutdown src => Sys2Proof.Machine.execPowerRequestShutdown src s
  | .powerTransitionDone dt => Sys2Proof.Machine.execPowerTransitionDone dt s
  | .shutdownComplete bist dt => Sys2Proof.Machine.execShutdownComplete bist dt s
  | .supplyWarning rail dt => Sys2Proof.Machine.execSupplyWarning rail dt s
  | .braceEnd minima durations dt => Sys2Proof.Machine.execBraceEnd minima durations dt s
  | .supplyReset rail dt => Sys2Proof.Machine.execSupplyReset rail dt s
  | .bbRecordWrite readsBack dt => Sys2Proof.Machine.execBbRecordWrite readsBack dt s
  | .inServiceSlice fault passEnds => Sys2Proof.Machine.execInServiceSlice fault passEnds s
  | .resetAssert low dt => Sys2Proof.Machine.execResetAssert low dt s
  | .tapReset => Sys2Proof.Machine.execTapReset s
  | .deviceStart facts => Sys2Proof.Machine.execDeviceStart facts s
  | .startBellsStep => Sys2Proof.Machine.execStartBellsStep s
  | .tapIdcode => Sys2Proof.Machine.execTapIdcode s
  | .tapBypass => Sys2Proof.Machine.execTapBypass s
  | .tapSamplePreload => Sys2Proof.Machine.execTapSamplePreload s
  | .tapExtest => Sys2Proof.Machine.execTapExtest s
  | .tapClamp => Sys2Proof.Machine.execTapClamp s
  | .tapHighz => Sys2Proof.Machine.execTapHighz s
  | .tapDtmcs => Sys2Proof.Machine.execTapDtmcs s
  | .tapDmi => Sys2Proof.Machine.execTapDmi s
  | .tapEngDebug => Sys2Proof.Machine.execTapEngDebug s
  | .tapScanChain p => Sys2Proof.Machine.execTapScanChain p s
  | .registerWrite reg dt => Sys2Proof.Machine.execRegisterWrite reg dt s
  | .ringLinkUp port dt => Sys2Proof.Machine.execRingLinkUp port dt s
  | .hostLinkUp speed width dt => Sys2Proof.Machine.execHostLinkUp speed width dt s
  | .fetchCompletionTimeout head dt => Sys2Proof.Machine.execFetchCompletionTimeout head dt s
  | .fetchCompletionError head poisoned dt => Sys2Proof.Machine.execFetchCompletionError head poisoned dt s
  | .malformedRequestEntry head dt => Sys2Proof.Machine.execMalformedRequestEntry head dt s

end Sys2Proof.Machine
end

