-- ==== Sys2Proof/Safety.lean ====
section
/-!
DEFINITION. Safety.lean: what a safe run is (no step of it stops), and the terms in which the statements speak of what a command
finds and leaves.
-/

namespace Sys2Proof

/-- A step that goes on. -/
def Machine.stepSafe (s : Machine.State) : Prop := ∃ t, Machine.step s = .next t

/-- Every state that `n` steps reach goes on. -/
def Machine.runSafe : Nat → Machine.State → Prop
  | 0, _ => True
  | n + 1, s => ∃ t, Machine.step s = .next t ∧ Machine.runSafe n t

namespace Machine

/-! ### Engine operations -/

/-- Slot `slot` issues `at_.adv` cycles after the engine's previous bundle, in state `t`: the engine runs its lesson and the
deadline is not reached (R208), no stop request is honoured on the way (R159), no later slot of the bundle has issued (R175), and
the bundle is not suppressed (R177). -/
def Issues (at_ : At) (slot : Nat) (s t : State) : Prop :=
  engRunning s at_.eng = true ∧ (s.eng at_.eng).cycle + at_.adv < s.array.deadline
    ∧ ticks at_.eng at_.adv s = some t ∧ stopsHere (t.eng at_.eng) = false ∧ (t.eng at_.eng).used ≤ slot
    ∧ (t.eng at_.eng).suppressed = false

/-- An engine cycle boundary `at_.adv` cycles on, reached in state `t` while the lesson runs (R159). -/
def Reaches (at_ : At) (s t : State) : Prop :=
  engRunning s at_.eng = true ∧ (s.eng at_.eng).cycle + at_.adv < s.array.deadline ∧ ticks at_.eng at_.adv s = some t

/-- The guard of an M or A slot lets its operation take effect (R178). -/
def Passes (gd : Guard) (e : Fin 32) (t : State) : Prop :=
  (gd.ge = false ∧ gd.gn = false ∧ gd.gq = 0) ∨ (gd.ge = true ∧ (t.eng e).regs.q[gd.gq] ≠ gd.gn)

/-- The guard of an M or A slot blocks its operation (R179). -/
def Blocks (gd : Guard) (e : Fin 32) (t : State) : Prop := gd.ge = true ∧ (t.eng e).regs.q[gd.gq] = gd.gn

/-- The same for an L slot, which has no negation (R178). -/
def LPasses (gd : LGuard) (e : Fin 32) (t : State) : Prop :=
  (gd.ge = false ∧ gd.gq = 0) ∨ (gd.ge = true ∧ (t.eng e).regs.q[gd.gq] = true)

/-- The register that g name `i` names now (R146). -/
def gAt (t : State) (e i : Fin 32) : Reg 32 := (t.eng e).regs.g[physG (t.eng e).regs.rb i]

/-- An operand read checks parity (R160): this register's is good, and no injected operand fault waits for a read (R173). -/
def Clean {w : Nat} (t : State) (e : Fin 32) (r : Reg w) : Prop := r.bad = false ∧ (t.eng e).injecting ≠ 5

/-- State `t` once a slot of the engine's bundle has issued and has done `f` to the engine and nothing else. -/
def issued (at_ : At) (slot : Nat) (f : Engine → Engine) (t : State) : State :=
  latchStatus (t.onEng at_.eng fun x => f { x with used := slot + 1 })

/-- One more result on its way: readable `lat` cycles after its issue (R148). -/
def launched (slot lat : Nat) (d : Dest) (v : BitVec 40) (tag mul : Bool) (x : Engine) : Engine :=
  { x with flight := x.flight ++ [{ ready := x.cycle + lat, issued := x.cycle, slot, dest := d, value := v, tag, mul }] }

/-- A slot that sends one result to a register and does nothing else. -/
def sent (at_ : At) (slot lat : Nat) (d : Dest) (v : BitVec 40) (tag mul : Bool) (t : State) : State :=
  issued at_ slot (launched slot lat d v tag mul) t

/-- A slot that sends one 32-bit result to g name `i`, as the name stands at issue (R146). -/
def sentG (at_ : At) (slot lat : Nat) (i : Fin 32) (v : BitVec 32) (tag : Bool) (t : State) : State :=
  sent at_ slot lat (.g (physG (t.eng at_.eng).regs.rb i)) (v.setWidth 40) tag false t

/-- An A slot that sends one predicate: 0 if an operand is poisoned (R160). -/
def sentQ (at_ : At) (i : Fin 4) (v tag : Bool) (t : State) : State :=
  sent at_ 2 1 (.q i) (if v && !tag then 1 else 0) false false t

/-- The number of the L slot that an operation takes. -/
def lSlot (second : Bool) : Nat := if second then 4 else 3

/-- L0's access to a data bank, as the engine remembers it for its cycle (R152). -/
def banked (slot a : Nat) (x : Engine) : Engine :=
  if slot = 3 ∧ a < 0x60000 then { x with bank := some (a / 32768) } else x

/-- The post-modify of a pointer on its way, if the form asks for one (R147, R190). -/
def pointerMoved (slot : Nat) (f : LForm) (p l : BitVec 24) (m : Reg 24) (tag : Bool) (x : Engine) : Engine :=
  if f.pm then launched slot 1 (.p f.pn) ((moved p l m.v.toInt).setWidth 40) (tag || m.tag) false x else x

/-- The held writes of engine `e` have left its classroom's queue (R157). -/
def unheld (e : Fin 32) (q : List Xfer) : List Xfer := q.filter fun x => !(x.eng == e && x.held)

/-- A branch may issue: in no delay slot, not after a REP and in no repeat body (R199). -/
def BranchMay (x : Engine) : Prop := inDelay x = false ∧ ∀ r ∈ x.reps, x.cycle < r.starts

/-- The debug module may command engine `e` in full (R170, R449, R459). -/
def DebugOpen (e : Fin 32) (s : State) : Prop :=
  tapInstr s = .engDebug ∧ s.nat K.debugState = 2 ∧ enginesOff s = false ∧ s.nat (K.engineState e) ≠ 4

/-- ENG_DEBUG captures this result, engine and address (Table 6-7). -/
def Captures (t : State) (e : Fin 32) (result : Nat) (addr : BitVec 24) : Prop :=
  t.tap.result = result ∧ t.tap.engine = e ∧ t.tap.address = addr

/-! ### Instants -/

/-- The instant `t` is reached by letting time pass: no bell start is due up to it (log entry 6). -/
def Reachable (t : Nat) (s : State) : Prop := s.clk.now ≤ t ∧ ∀ d, s.bell.due = some d → t < d

/-- Limits of a signed format of `w` bits (R181). -/
def limited (w : Nat) (x : Int) : Int := max (-(2 ^ (w - 1))) (min (2 ^ (w - 1) - 1) x)

/-- The high and the low half of a word, as signed numbers. -/
def hiS (a : BitVec 32) : Int := (a.extractLsb' 16 16).toInt
def loS (a : BitVec 32) : Int := (a.extractLsb' 0 16).toInt

/-- A word of two halves. -/
def halves (hi lo : Int) : BitVec 32 := (BitVec.ofInt 16 hi).append (BitVec.ofInt 16 lo)

/-! ### Requests at their turn (R338, R339, R349) -/

/-- In `v` the serialiser's next turn is initiator `i`'s, for the request of `items`, in its place or in its mailbox; `w` is the state
in which that turn begins. -/
def TurnBegins (group : Bool) (items : List Item) (i : Initiator) (v w : State) : Prop :=
  (∃ p, serialTurn v = some (.place i) ∧ v.dict.waiting[i] = some p ∧ p.replyTo ≠ .own ∧ sameRequest p.req { group, items } = true
    ∧ w = noteTurn i (expedited v p.req) { v with dict := { v.dict with waiting := v.dict.waiting.set i none } })
  ∨ ∃ q r, serialTurn v = some (.mail q) ∧ portIni q = i ∧ mailRequest v q = some r ∧ sameRequest r { group, items } = true
    ∧ w = noteTurn i (expedited v r) v

/-- The request of `items` that `src` names is served at once, by initiator `i`, in state `w`: presented to a free place with the
command, or waiting already, its turn comes; nothing waits beside it whose turn no command names. -/
def HasTurn (src : Src) (group : Bool) (items : List Item) (s : State) (i : Initiator) (w : State) : Prop :=
  unnamedWaits s = false ∧ match src with
  | .direct j tag dt =>
    let s' := s.elapse dt
    let v := if j = 3 then { s' with dict := { s'.dict with portBusy := true } } else s'
    j = i ∧ s.dict.waiting[j] = none ∧ ¬(j = 3 ∧ s.dict.portBusy = true) ∧ serialiserRuns s' = true
      ∧ TurnBegins group items i (presentRequest j { group, tag, items } .port v) w
  | .queued j => j = i ∧ TurnBegins group items i s w

/-- A write of `data` to entry `k` has its turn in `w` and passes every check (R349). -/
def Writes (src : Src) (k : Key) (data : List Byte) (s : State) (i : Initiator) (w : State) : Prop :=
  HasTurn src false [writeItem k 0 data] s i w ∧ writeBars i (levelOf' w i) [writeItem k 0 data] true w = none

/-- The item of a whole read of `n` bytes of entry `k`. -/
def wholeRead (k : Key) (n : Nat) : Item :=
  { index := BitVec.ofNat 16 (k / 256), sub := BitVec.ofNat 8 (k % 256), op := 1, length := BitVec.ofNat 32 n }

/-- A read or shadow read `it` has its turn in `w` and passes every check (R342, R348), on the entry of `row`. -/
def Reads (src : Src) (it : Item) (row : EntryRow) (s : State) (i : Initiator) (w : State) : Prop :=
  HasTurn src false [it] s i w ∧ readChecks w i (levelOf' w i) it = .ok row

/-- The answer of initiator `i`'s request has status `status`, CSN `csn` and data `data` (R344). -/
def Answers (i : Initiator) (status csn : Nat) (data : List Byte) (u : State) : Prop :=
  ∃ a, u.dict.answers[i] = some a ∧ a.status = status ∧ a.csn = csn ∧ a.data = data

/-- An accepted write of an entry that takes effect at its turn (R341, R344): the next CSN, the answer, one request more served. -/
def Takes (i : Initiator) (w u : State) : Prop :=
  Answers i 0 (w.nat K.csnLast + 1) [] u ∧ u.nat K.csnLast = w.nat K.csnLast + 1
    ∧ u.nat K.csnInEffect = max (w.nat K.csnLast + 1) (w.nat K.csnInEffect)
    ∧ u.nat K.requestsServed = (w.nat K.requestsServed + 1) % 2 ^ 64

/-- A TLP has crossed the link and no entry has changed but HOST_LINK, which left L1 for it (R392). -/
def Crossed (s u : State) : Prop :=
  u.nat K.hostLink = (if s.nat K.hostLink = 3 then 2 else s.nat K.hostLink)
    ∧ ∀ k, k ≠ K.hostLink → valIn u.dict.store k = valIn s.dict.store k

/-- The ring carries a received frame: it runs, the port's link is up, and the frame is not too long (R361, R363, R373). -/
def Carries (rx : RxFrame) (s : State) : Prop :=
  ringRuns s = true ∧ s.nat (K.linkState rx.port) ≠ 0 ∧ rx.payload.length + 18 ≤ 4200

/-- Entries that serving a request may change whatever it asks: its CSN and counts (R341, R358, R370), and what its answer moves beside: a
level, a link in L1, a PME, a core that waits in WFI, black-box counts, a cause that clears (R392, R415, R420, R427, R463). -/
def requestKeys : List Key :=
  [K.csnLast, K.csnInEffect, K.requestsServed, K.expeditedServed, K.mailboxServed, K.hostLink, K.pmeCount, K.appCoreState, K.seqNext,
   K.dropTotal, K.fallbackCount, K.levelCause]

/-- The refusal entries and counters (R345, R358, R444). -/
def refusalKeys : List Key :=
  [K.refusals, K.lastRefusal, K.excRefusal, K.fitCode, K.detectRefusal, K.authFailures]

/-- The entries of access RW whose write is a command of its own; of the others the value takes effect at the turn and nothing beside
becomes an entry's value (R335, R341). -/
def ownRows : List Key :=
  [K.bellRun, K.timeSource, K.deviceTime, K.driveEnable, K.harvestAreaBytes, K.routes, K.targetDisable, K.appCoreRun, K.debugRequest,
   K.powerRequest]
    ++ (List.range 8).map K.owner ++ (List.range 2).map K.linkDelay ++ (List.range 3).map K.window

/-- A put that waits for a bell (RWB), and one that takes effect at its turn and has no command of its own (RW) (R335). -/
def Put.waits (p : Put) : Bool := p.row.access == .rwb
def Put.immediate (p : Put) : Bool := p.row.access == .rw && !ownRows.contains p.key

/-- The value of entry `k` after the writes `vs` in order: the last that names it, else the one in store `m`. -/
def lastOf (m : Sparse DVal) (vs : List (Key × DVal)) (k : Key) : DVal :=
  ((vs.reverse.find? fun e => e.1 == k).map Prod.snd).getD (valIn m k)

/-- An entry whose writes wait for a bell, a timetable parameter among them (R218, R335). -/
def bellCommitted (k : Key) : Bool :=
  (decide (0x3400 ≤ k / 256) && decide (k / 256 ≤ 0x343F)) || (findRow k).any fun row => row.access == .rwb

/-- The firmware runs, and nothing waits for the serialiser: a write of the control core's own has the next turn (R338, R339, R494). -/
def OwnFree (s : State) : Prop :=
  s.cores.controlAlive = true ∧ serialiserRuns s = true ∧ s.policy.jobs = [] ∧ (∀ i : Initiator, s.dict.waiting[i] = none)
    ∧ mailRequest s 0 = none ∧ mailRequest s 1 = none ∧ reportWaits s = false

/-- A request of the control core's own that writes `values` passes every check (R349, R422). -/
def OwnAccepted (values : List (Key × DVal)) (s : State) : Prop :=
  writeBars 4 0 (values.map fun e => itemOf s e.1 e.2) false s = none

/-- Every condition of STATUS_NOW is in STATUS_LATCH (R358). -/
def StatusLatched (s : State) : Prop := ∀ j < 32, bitOf (statusNow s) j = true → s.dict.latch.getLsbD j = true

/-! ### Memories -/

/-- The canonical form of every addressed memory: the barn and its marks, the memories of the engines and of the classrooms, the
TCMs and the shared SRAM. -/
abbrev Memory.wf (s : State) : Prop :=
  sparseWf (fun _ => 0) s.barn.bytes = true ∧ sparseWf (fun _ => .good) s.barn.marked = true
    ∧ (∀ e : Fin 32, sparseWf (fun _ => {}) (s.eng e).mem = true ∧ sparseWf (fun _ => 0) (s.eng e).imem = true)
    ∧ (∀ r : Fin 4, sparseWf (fun _ => {}) (s.room r).mem = true)
    ∧ sparseWf (fun _ => 0) s.cores.controlTcm = true ∧ sparseWf (fun _ => 0) s.cores.appTcm = true
    ∧ sparseWf (fun _ => 0) s.cores.sharedSram = true

/-! ### Supervisor accesses (R400, R402, R404) -/

/-- What a supervisor core's access is performed on: time has passed, the application core's window has changed if it was due (R447), and
the core notes that the access raised no fault. -/
def CoreView (core : Fin 2) (dt : Nat) (s : State) : State := performed core (coreArrives core dt s)

/-- The core executes, its physical memory protection permits the access (R400), and so does the application core's window (R446); the control
core has no window. -/
def CoreMay (core : Fin 2) (kind a dt : Nat) (s : State) : Prop :=
  coreActs core s = true ∧ pmpPermits ((coreArrives core dt s).hart core) kind a 4 = true
    ∧ (core = 1 → windowPermits (coreArrives core dt s) 0 kind a 4 = true)

/-- The core executes, and its physical memory protection or its window bars the access. -/
def CoreBarred (core : Fin 2) (kind a dt : Nat) (s : State) : Prop :=
  coreActs core s = true ∧ (pmpPermits ((coreArrives core dt s).hart core) kind a 4 = false
    ∨ (core = 1 ∧ windowPermits (coreArrives core dt s) 0 kind a 4 = false))

/-- The core's access at `a`, of kind 0 read or 1 write, raised its access fault in `u` (R402, R404). -/
def CoreFaults (core : Fin 2) (kind a : Nat) (u : State) : Prop :=
  u.cores.accessFault = true ∧ (u.hart core).fault = some (accessFaultOf kind) ∧ (u.hart core).mcause = (accessFaultOf kind).cause
    ∧ (u.hart core).mtval = BitVec.ofNat 32 a

end Machine
end Sys2Proof
end

