-- ==== Sys2Proof/Certificates/Slice0/Obligations.lean ====
section
/-!
DEFINITION. Certificates/Slice0/Obligations.lean: the statements for the provers.
-/

open Sys2Proof Sys2Proof.Machine


/-! ### The queue and the machine as a whole -/

/-- The block takes its waiting commands first in, first out: a step on a queue whose front is `c` is `c`'s meaning on the state
with the queue's rest. On an empty queue time passes by at most one period of REFCLK and nothing else changes (log entry 6). -/
def Obligations.StepRunsFront : Prop :=
  (∀ (c : Instr) (rest : List Instr) (s : State),
    step { s with pending := c :: rest } = exec c { s with pending := rest })
  ∧ ∀ s : State, s.pending = [] →
    ∃ t, step s = .next t ∧ t = { s with clk := t.clk } ∧ s.clk.now ≤ t.clk.now ∧ t.clk.now ≤ s.clk.now + 10

/-- After reset (R29, R42, R171, R486): device time and bell number 0, bells and engines idle, time source 0, no drive, no
request, no record, no interrupt, nothing enabled at the host port, the pins of the start low; what stands is latched. -/
def Obligations.ResetState : Prop :=
  let s := State.reset
  s.clk.now = 0 ∧ s.clk.devTime = 0 ∧ s.nat K.bellState = 0 ∧ s.nat K.bellRun = 0 ∧ s.bell.number = 0 ∧ s.bell.due = none
    ∧ s.nat K.timeSource = 0 ∧ s.nat K.timeState = 0 ∧ s.drive.applied = false ∧ s.nat K.driveEnable = 0
    ∧ (∀ e : Fin 32, s.nat (K.engineState e) = 0) ∧ (∀ i : Initiator, s.dict.waiting[i] = none) ∧ s.dict.shadow = []
    ∧ s.nat K.csnLast = 0 ∧ s.ic.pending = 0 ∧ s.bb.queue = [] ∧ s.host.enable = false ∧ s.host.msixEnable = false
    ∧ (∀ r : Fin 4, s.host.rings[r].size = 0 ∧ s.host.rings[r].written = 0) ∧ s.start.resetOut = false ∧ s.start.shdnDone = false
    ∧ s.tap.ir = 0x01 ∧ tapInstr s = .idcode ∧ s.host.crs = true ∧ s.pending = [] ∧ StatusLatched s

/-- STATUS_LATCH holds every condition that stands, whatever the machine does (R358): a step that goes on keeps it so, from
every state in which it is so. A bit leaves the latch only where its condition has ended. -/
def Obligations.StatusStaysLatched : Prop :=
  ∀ s t : State, StatusLatched s → step s = .next t → StatusLatched t

/-- Nothing stops the machine but a request for a line at or above BARN_BYTES of a barn that is trained (R307): every other
command of every state answers a next state, and none is refused. -/
def Obligations.OnlyAbsentBarnStops : Prop :=
  ∀ (c : Instr) (s : State),
    (∃ t, exec c s = .next t)
    ∨ ∃ (r : Fin 14) (line : BitVec 29) (wr : Option (List (Fin 64 × Byte))) (dt : Nat), c = .barnRequest r line wr dt
        ∧ s.nat K.barnBytes ≤ 64 * line.toNat ∧ 2 ≤ barnState s ∧ barnState s ≤ 5
        ∧ exec c s = .fault .noSuchBarnAddress

/-! ### The array: slot operations -/

/-- ADD, SUB, ADDS, SUBS, MIN and MAX: the slot does nothing but send g[D] the sum, the difference, the same limited to 32 bits,
or the signed minimum or maximum of g[S1] and g[S2], readable one cycle on, poisoned if either operand is (R187, R160). AND, OR,
XOR, SHL, SHR and SAR: bit by bit, and shifts by the low five bits of g[S2] (R187). ADD2, SUB2, ADDS2, SUBS2 and PACK: each half
on its own, wrapped or limited to 16 bits; PACK joins the low halves (R187). -/
def Obligations.AluTwoOperands : Prop :=
  (
      ∀ (at_ : At) (gd : Guard) (d s1 s2 : Fin 32) (s t : State),
        Issues at_ 2 s t → Passes gd at_.eng t → Clean t at_.eng (gAt t at_.eng s1) → Clean t at_.eng (gAt t at_.eng s2) →
        let f : RegForm := ⟨d, s1, s2, 0, 0⟩
        let a := (gAt t at_.eng s1).v
        let b := (gAt t at_.eng s2).v
        let out (v : BitVec 32) : State := sentG at_ 2 1 d v ((gAt t at_.eng s1).tag || (gAt t at_.eng s2).tag) t
        exec (.engAdd at_ gd f) s = .next (out (a + b))
          ∧ exec (.engSub at_ gd f) s = .next (out (a - b))
          ∧ exec (.engAdds at_ gd f) s = .next (out (BitVec.ofInt 32 (limited 32 (a.toInt + b.toInt))))
          ∧ exec (.engSubs at_ gd f) s = .next (out (BitVec.ofInt 32 (limited 32 (a.toInt - b.toInt))))
          ∧ exec (.engMin at_ gd f) s = .next (out (BitVec.ofInt 32 (min a.toInt b.toInt)))
          ∧ exec (.engMax at_ gd f) s = .next (out (BitVec.ofInt 32 (max a.toInt b.toInt))))
    ∧ (
      ∀ (at_ : At) (gd : Guard) (d s1 s2 : Fin 32) (s t : State),
        Issues at_ 2 s t → Passes gd at_.eng t → Clean t at_.eng (gAt t at_.eng s1) → Clean t at_.eng (gAt t at_.eng s2) →
        let f : RegForm := ⟨d, s1, s2, 0, 0⟩
        let a := (gAt t at_.eng s1).v
        let b := (gAt t at_.eng s2).v
        let n := (b.extractLsb' 0 5).toNat
        let out (v : BitVec 32) : State := sentG at_ 2 1 d v ((gAt t at_.eng s1).tag || (gAt t at_.eng s2).tag) t
        exec (.engAnd at_ gd f) s = .next (out (a &&& b))
          ∧ exec (.engOr at_ gd f) s = .next (out (a ||| b))
          ∧ exec (.engXor at_ gd f) s = .next (out (a ^^^ b))
          ∧ exec (.engShl at_ gd f) s = .next (out (BitVec.ofNat 32 (a.toNat * 2 ^ n)))
          ∧ exec (.engShr at_ gd f) s = .next (out (BitVec.ofNat 32 (a.toNat / 2 ^ n)))
          ∧ exec (.engSar at_ gd f) s = .next (out (BitVec.ofInt 32 (a.toInt / 2 ^ n))))
    ∧ (
      ∀ (at_ : At) (gd : Guard) (d s1 s2 : Fin 32) (s t : State),
        Issues at_ 2 s t → Passes gd at_.eng t → Clean t at_.eng (gAt t at_.eng s1) → Clean t at_.eng (gAt t at_.eng s2) →
        let f : RegForm := ⟨d, s1, s2, 0, 0⟩
        let a := (gAt t at_.eng s1).v
        let b := (gAt t at_.eng s2).v
        let out (v : BitVec 32) : State := sentG at_ 2 1 d v ((gAt t at_.eng s1).tag || (gAt t at_.eng s2).tag) t
        exec (.engAdd2 at_ gd f) s = .next (out (halves (hiS a + hiS b) (loS a + loS b)))
          ∧ exec (.engSub2 at_ gd f) s = .next (out (halves (hiS a - hiS b) (loS a - loS b)))
          ∧ exec (.engAdds2 at_ gd f) s = .next (out (halves (limited 16 (hiS a + hiS b)) (limited 16 (loS a + loS b))))
          ∧ exec (.engSubs2 at_ gd f) s = .next (out (halves (limited 16 (hiS a - hiS b)) (limited 16 (loS a - loS b))))
          ∧ exec (.engPack at_ gd f) s = .next (out (halves (loS a) (loS b))))

/-- ABS, SXL, SXH and MOV of one register, and SEL, which reads only the register that its predicate selects (R187). ADDI, ANDI,
ORI, XORI, SHLI, SHRI, SARI, MOVIL and MOVIH (R187): ADDI extends its immediate by sign, the logical ones by zero; the shifts
have immediates below 32; MOVIH keeps the low half of g[D] and takes its tag. -/
def Obligations.AluOneOperand : Prop :=
  (
      ∀ (at_ : At) (gd : Guard) (d s1 s2 : Fin 32) (qs : Fin 4) (s t : State),
        Issues at_ 2 s t → Passes gd at_.eng t →
        (Clean t at_.eng (gAt t at_.eng s1) →
          let f : RegForm := ⟨d, s1, 0, 0, 0⟩
          let a := (gAt t at_.eng s1).v
          let out (v : BitVec 32) : State := sentG at_ 2 1 d v (gAt t at_.eng s1).tag t
          exec (.engAbs at_ gd f) s = .next (out (BitVec.ofInt 32 (limited 32 (max a.toInt (-a.toInt)))))
            ∧ exec (.engSxl at_ gd f) s = .next (out (BitVec.ofInt 32 (loS a)))
            ∧ exec (.engSxh at_ gd f) s = .next (out (BitVec.ofInt 32 (hiS a)))
            ∧ exec (.engMov at_ gd f) s = .next (out a))
        ∧ (let r := gAt t at_.eng (if (t.eng at_.eng).regs.q[qs] then s1 else s2)
           Clean t at_.eng r → exec (.engSel at_ gd ⟨d, s1, s2, qs, 0⟩) s = .next (sentG at_ 2 1 d r.v r.tag t)))
    ∧ (
      ∀ (at_ : At) (gd : Guard) (d s1 : Fin 32) (imm : BitVec 12) (wide : BitVec 16) (s t : State),
        Issues at_ 2 s t → Passes gd at_.eng t →
        let x := gAt t at_.eng s1
        let y := gAt t at_.eng d
        let a := x.v
        let f : ImmForm := ⟨d, s1, imm⟩
        let out (v : BitVec 32) : State := sentG at_ 2 1 d v x.tag t
        (Clean t at_.eng x →
          exec (.engAddi at_ gd f) s = .next (out (BitVec.ofInt 32 (a.toInt + imm.toInt)))
            ∧ exec (.engAndi at_ gd f) s = .next (out (a &&& BitVec.ofNat 32 imm.toNat))
            ∧ exec (.engOri at_ gd f) s = .next (out (a ||| BitVec.ofNat 32 imm.toNat))
            ∧ exec (.engXori at_ gd f) s = .next (out (a ^^^ BitVec.ofNat 32 imm.toNat))
            ∧ (imm.toNat < 32 →
                exec (.engShli at_ gd f) s = .next (out (BitVec.ofNat 32 (a.toNat * 2 ^ imm.toNat)))
                  ∧ exec (.engShri at_ gd f) s = .next (out (BitVec.ofNat 32 (a.toNat / 2 ^ imm.toNat)))
                  ∧ exec (.engSari at_ gd f) s = .next (out (BitVec.ofInt 32 (a.toInt / 2 ^ imm.toNat)))))
        ∧ exec (.engMovil at_ gd ⟨d, false, wide⟩) s = .next (sentG at_ 2 1 d (BitVec.ofInt 32 wide.toInt) false t)
        ∧ (Clean t at_.eng y →
            exec (.engMovih at_ gd ⟨d, false, wide⟩) s
              = .next (sentG at_ 2 1 d (BitVec.ofNat 32 (wide.toNat * 65536 + y.v.toNat % 65536)) y.tag t)))

/-- CMPEQ, CMPLT, CMPLTU, CMPLE, CMPEQI and CMPLTI: the predicate named by D[1:0] takes the truth of the comparison, and 0 if an
operand is poisoned (R187, R160). PAND, POR, PNOT and PSETI on predicates (R187); PTST reads a register's tag and parity without
an operand read (R188). -/
def Obligations.ComparesAndPredicates : Prop :=
  (
      ∀ (at_ : At) (gd : Guard) (d s1 s2 : Fin 32) (imm : BitVec 12) (s t : State),
        Issues at_ 2 s t → Passes gd at_.eng t → d.val < 4 → Clean t at_.eng (gAt t at_.eng s1) →
        let a := gAt t at_.eng s1
        let b := gAt t at_.eng s2
        let f : RegForm := ⟨d, s1, s2, 0, 0⟩
        let out (p : Prop) [Decidable p] (tag : Bool) : State := sentQ at_ (qOf d) (decide p) tag t
        (Clean t at_.eng b →
          exec (.engCmpeq at_ gd f) s = .next (out (a.v = b.v) (a.tag || b.tag))
            ∧ exec (.engCmplt at_ gd f) s = .next (out (a.v.toInt < b.v.toInt) (a.tag || b.tag))
            ∧ exec (.engCmpltu at_ gd f) s = .next (out (a.v.toNat < b.v.toNat) (a.tag || b.tag))
            ∧ exec (.engCmple at_ gd f) s = .next (out (a.v.toInt ≤ b.v.toInt) (a.tag || b.tag)))
        ∧ exec (.engCmpeqi at_ gd ⟨d, s1, imm⟩) s = .next (out (a.v.toInt = imm.toInt) a.tag)
        ∧ exec (.engCmplti at_ gd ⟨d, s1, imm⟩) s = .next (out (a.v.toInt < imm.toInt) a.tag))
    ∧ (
      ∀ (at_ : At) (gd : Guard) (d a b r : Fin 32) (v : Bool) (s t : State),
        Issues at_ 2 s t → Passes gd at_.eng t → d.val < 4 →
        let q (i : Fin 32) : Bool := (t.eng at_.eng).regs.q[qOf i]
        let out (p : Bool) : State := sentQ at_ (qOf d) p false t
        let x := (t.eng at_.eng).regs
        (a.val < 4 → b.val < 4 → exec (.engPand at_ gd ⟨d, a, b, 0, 0⟩) s = .next (out (q a && q b)))
          ∧ (a.val < 4 → b.val < 4 → exec (.engPor at_ gd ⟨d, a, b, 0, 0⟩) s = .next (out (q a || q b)))
          ∧ (a.val < 4 → exec (.engPnot at_ gd ⟨d, a, 0, 0, 0⟩) s = .next (out (!q a)))
          ∧ exec (.engPseti at_ gd ⟨d, 0, if v then 1 else 0⟩) s = .next (out v)
          ∧ exec (.engPtst at_ gd ⟨d, r, 0, 0, 0⟩) s = .next (out ((gAt t at_.eng r).tag || (gAt t at_.eng r).bad))
          ∧ (r.val < 4 → exec (.engPtst at_ gd ⟨d, r, 8, 0, 0⟩) s = .next (out (x.acc[qOf r].tag || x.acc[qOf r].bad)))
          ∧ (r.val < 8 → exec (.engPtst at_ gd ⟨d, r, 16, 0, 0⟩) s = .next (out (x.p[aOf r].tag || x.p[aOf r].bad)))
          ∧ (r.val < 8 → exec (.engPtst at_ gd ⟨d, r, 24, 0, 0⟩) s = .next (out (x.m[aOf r].tag || x.m[aOf r].bad))))

/-- PCLR clears and PSET sets the tag of a g, accumulator, p or m register and keeps its value (R188). MOVTP, MOVTM and MOVTL
take the low 24 bits of g[S1]; MOVFP and MOVFL extend by zero and MOVFM by sign (R187). -/
def Obligations.TagsAndAddressMoves : Prop :=
  (
      ∀ (at_ : At) (gd : Guard) (r : Fin 32) (s t : State), Issues at_ 2 s t → Passes gd at_.eng t →
        let x := (t.eng at_.eng).regs
        let form (c : Fin 32) : RegForm := ⟨r, 0, c, 0, 0⟩
        let both (c : Fin 32) (d : Dest) (v : BitVec 40) : Prop :=
          exec (.engPclr at_ gd (form c)) s = .next (sent at_ 2 1 d v false false t)
            ∧ exec (.engPset at_ gd (form c)) s = .next (sent at_ 2 1 d v true false t)
        both 0 (.g (physG x.rb r)) ((gAt t at_.eng r).v.setWidth 40)
          ∧ (r.val < 4 → both 8 (.acc (qOf r)) x.acc[qOf r].v)
          ∧ (r.val < 8 → both 16 (.p (aOf r)) (x.p[aOf r].v.setWidth 40))
          ∧ (r.val < 8 → both 24 (.m (aOf r)) (x.m[aOf r].v.setWidth 40)))
    ∧ (
      ∀ (at_ : At) (gd : Guard) (i : Fin 32) (n : Fin 8) (s t : State), Issues at_ 2 s t → Passes gd at_.eng t →
        let k : Fin 32 := ⟨n.val, by omega⟩
        let x := (t.eng at_.eng).regs
        let g := gAt t at_.eng i
        let down : BitVec 40 := BitVec.ofNat 40 (g.v.toNat % 2 ^ 24)
        (Clean t at_.eng g →
          exec (.engMovtp at_ gd ⟨k, i, 0, 0, 0⟩) s = .next (sent at_ 2 1 (.p n) down g.tag false t)
            ∧ exec (.engMovtm at_ gd ⟨k, i, 0, 0, 0⟩) s = .next (sent at_ 2 1 (.m n) down g.tag false t)
            ∧ exec (.engMovtl at_ gd ⟨k, i, 0, 0, 0⟩) s = .next (sent at_ 2 1 (.l n) down g.tag false t))
        ∧ (Clean t at_.eng x.p[n] →
            exec (.engMovfp at_ gd ⟨i, k, 0, 0, 0⟩) s = .next (sentG at_ 2 1 i (BitVec.ofNat 32 x.p[n].v.toNat) x.p[n].tag t))
        ∧ (Clean t at_.eng x.m[n] →
            exec (.engMovfm at_ gd ⟨i, k, 0, 0, 0⟩) s = .next (sentG at_ 2 1 i (BitVec.ofInt 32 x.m[n].v.toInt) x.m[n].tag t))
        ∧ (Clean t at_.eng x.l[n] →
            exec (.engMovfl at_ gd ⟨i, k, 0, 0, 0⟩) s = .next (sentG at_ 2 1 i (BitVec.ofNat 32 x.l[n].v.toNat) x.l[n].tag t)))

/-- MUL, MULN, MAC and MSU (R184): the exact product of the chosen halves, doubled by FRAC, into an accumulator two cycles on. A
multiply-accumulate adds onto the multiply that issued into the same accumulator one cycle before, if there is one (R148). -/
def Obligations.Multiplies : Prop :=
  ∀ (at_ : At) (gd : Guard) (ad : Fin 4) (sa sb : Fin 32) (ha hb ua ub frac sata : Bool) (s t : State),
    Issues at_ 1 s t → Passes gd at_.eng t → (frac = true → ua = false ∧ ub = false) →
    Clean t at_.eng (gAt t at_.eng sa) → Clean t at_.eng (gAt t at_.eng sb) →
    let half (v : BitVec 32) (hi unsigned : Bool) : Int :=
      let h := if hi then v.extractLsb' 16 16 else v.extractLsb' 0 16
      if unsigned then h.toNat else h.toInt
    let prod := (if frac then 2 else 1) * (half (gAt t at_.eng sa).v ha ua * half (gAt t at_.eng sb).v hb ub)
    let tag := (gAt t at_.eng sa).tag || (gAt t at_.eng sb).tag
    let x := t.eng at_.eng
    let before := x.flight.find? fun r => r.mul && decide (r.dest = .acc ad) && decide (r.issued + 1 = x.cycle)
    let c : BitVec 40 × Bool := match before with
      | some r => (r.value, r.tag)
      | none => (x.regs.acc[ad].v, x.regs.acc[ad].tag)
    let lim40 (v : Int) : BitVec 40 := BitVec.ofInt 40 (if sata then limited 40 v else v)
    let form (sat : Bool) : MulForm := ⟨ad, sa, sb, ha, hb, ua, ub, frac, sat, 0⟩
    exec (.engMul at_ gd (form false)) s = .next (sent at_ 1 2 (.acc ad) (BitVec.ofInt 40 prod) tag true t)
      ∧ exec (.engMuln at_ gd (form false)) s = .next (sent at_ 1 2 (.acc ad) (BitVec.ofInt 40 (-prod)) tag true t)
      ∧ (before.isSome ∨ Clean t at_.eng x.regs.acc[ad] →
          exec (.engMac at_ gd (form sata)) s
              = .next (sent at_ 1 2 (.acc ad) (lim40 (c.1.toInt + prod)) (tag || c.2) true t)
            ∧ exec (.engMsu at_ gd (form sata)) s
              = .next (sent at_ 1 2 (.acc ad) (lim40 (c.1.toInt - prod)) (tag || c.2) true t))

/-- ACLR, AMOV, AADD, ASUB, ALDG, AEXT, AEX16 and ASHR (R185), with SH within its limits. -/
def Obligations.Accumulators : Prop :=
  ∀ (at_ : At) (gd : Guard) (ad as_ : Fin 4) (gr : Fin 32) (sh : Fin 64) (rnd sat : Bool) (s t : State),
    Issues at_ 1 s t → Passes gd at_.eng t →
    let x := (t.eng at_.eng).regs
    let a := x.acc[ad]
    let b := x.acc[as_]
    let g := gAt t at_.eng gr
    let lim (w : Nat) (v : Int) : BitVec w := BitVec.ofInt w (if sat then limited w v else v)
    let shr : Int := if sh.val = 0 then a.v.toInt else (a.v.toInt + (if rnd then 2 ^ (sh.val - 1) else 0)) / 2 ^ sh.val
    let out (v : BitVec 40) (tag : Bool) : State := sent at_ 1 2 (.acc ad) v tag false t
    exec (.engAclr at_ gd ⟨ad, 0, 0, 0, false, false, 0⟩) s = .next (out 0 false)
      ∧ (Clean t at_.eng b → exec (.engAmov at_ gd ⟨ad, 0, as_, 0, false, false, 0⟩) s = .next (out b.v b.tag))
      ∧ (Clean t at_.eng a → Clean t at_.eng b →
          exec (.engAadd at_ gd ⟨ad, 0, as_, 0, false, sat, 0⟩) s = .next (out (lim 40 (a.v.toInt + b.v.toInt)) (a.tag || b.tag))
            ∧ exec (.engAsub at_ gd ⟨ad, 0, as_, 0, false, sat, 0⟩) s
              = .next (out (lim 40 (a.v.toInt - b.v.toInt)) (a.tag || b.tag)))
      ∧ (sh.val ≤ 8 → Clean t at_.eng g →
          exec (.engAldg at_ gd ⟨ad, gr, 0, sh, false, sat, 0⟩) s = .next (out (lim 40 (g.v.toInt * 2 ^ sh.val)) g.tag))
      ∧ (sh.val ≤ 39 → Clean t at_.eng a →
          exec (.engAext at_ gd ⟨ad, gr, 0, sh, rnd, sat, 0⟩) s = .next (sentG at_ 1 2 gr (lim 32 shr) a.tag t)
            ∧ exec (.engAex16 at_ gd ⟨ad, gr, 0, sh, rnd, sat, 0⟩) s
              = .next (sentG at_ 1 2 gr ((lim 16 shr).signExtend 32) a.tag t)
            ∧ exec (.engAshr at_ gd ⟨ad, 0, 0, sh, rnd, false, 0⟩) s = .next (out (BitVec.ofInt 40 shr) a.tag))

/-- LD (R190): a word, or a half extended by sign or by zero, from the address that R147's pointer arithmetic gives, three
cycles on from data memory and six from classroom memory (R148); the pointer moves on if the form says so. ST (R190, R191): a
word, or the low half of g[GR], to the address the access reaches, readable one cycle on; a poisoned value is stored poisoned.
From a register or bundle detection on, until the replay begins, no store is performed (R177). -/
def Obligations.LoadsAndStores : Prop :=
  (
      ∀ (at_ : At) (second : Bool) (gd : LGuard) (f : LForm) (s t : State) (a : Nat),
        let e := at_.eng
        let k := lSlot second
        let p := (t.eng e).regs.p[f.pn]
        let l := (t.eng e).regs.l[f.pn]
        let m := (t.eng e).regs.m[f.pn]
        let ea := effAddr p.v l.v f
        let w := (getWord e a t).v
        let h := if ea % 4 < 2 then w.extractLsb' 0 16 else w.extractLsb' 16 16
        let v : BitVec 32 := if f.size = 0 then w else if f.size = 1 then BitVec.ofInt 32 h.toInt else BitVec.ofNat 32 h.toNat
        Issues at_ k s t → LPasses gd e t → f.size ≠ 3 → Clean t e p → Clean t e l → p.tag = false → l.tag = false →
        (f.pm = true → Clean t e m) → access k ea false e t = some a → granulePending e a t = false →
        (t.eng e).injecting = 0 → (readMem e a t).bad = false →
        exec (.engLd at_ second gd f) s = .next (issued at_ k (fun x => pointerMoved k f p.v l.v m false
          (launched k (if ea < 0x60000 then 3 else 6) (.g (physG (t.eng e).regs.rb f.gr)) (v.setWidth 40) false false (banked k ea x))) t))
    ∧ (
      ∀ (at_ : At) (second : Bool) (gd : LGuard) (f : LForm) (s t : State) (a : Nat),
        let e := at_.eng
        let k := lSlot second
        let p := (t.eng e).regs.p[f.pn]
        let l := (t.eng e).regs.l[f.pn]
        let m := (t.eng e).regs.m[f.pn]
        let g := gAt t e f.gr
        let ea := effAddr p.v l.v f
        Issues at_ k s t → LPasses gd e t → f.size ≠ 3 → Clean t e p → Clean t e l → p.tag = false → l.tag = false → Clean t e g →
        (f.pm = true → Clean t e m) → access k ea true e t = some a →
        ((t.eng e).noStore = false →
          exec (.engSt at_ second gd f) s = .next (issued at_ k (fun x => pointerMoved k f p.v l.v m false
            (launched k 1 (if f.size = 0 then .word a else .half a) (g.v.setWidth 40) g.tag false (banked k ea x))) t))
        ∧ ((t.eng e).noStore = true →
          exec (.engSt at_ second gd f) s = .next (issued at_ k (fun x => pointerMoved k f p.v l.v m false (banked k ea x)) t)))

/-- When a store lands, the word holds what was stored, a half store leaves the word's other half, and every other word of the
engine's address map holds what it held (R190, R191): the frame of a store over all of memory. -/
def Obligations.StoredWordsLand : Prop :=
  ∀ (e : Fin 32) (s : State) (r : Landing) (a : Nat), mapped a = true →
    (r.dest = .word a → getWord e a (landOne e s r) = { v := r.value.setWidth 32, bad := r.tag })
      ∧ (r.dest = .half a →
          let old := getWord e a s
          let h : BitVec 16 := r.value.setWidth 16
          getWord e a (landOne e s r)
            = { v := if a % 4 < 2 then (old.v.extractLsb' 16 16).append h else h.append (old.v.extractLsb' 0 16),
                bad := old.bad || r.tag })
      ∧ (r.dest = .word a ∨ r.dest = .half a →
          ∀ b, mapped b = true → b / 4 ≠ a / 4 → getWord e b (landOne e s r) = getWord e b s)
      ∧ ((∀ b, r.dest ≠ .word b ∧ r.dest ≠ .half b) → getWord e a (landOne e s r) = getWord e a s)

/-- PMOD only moves its pointer (R190); POST with four sound words puts the descriptor they spell at the end of its classroom's
queue and counts one post (R192). A circular buffer (R147): it starts on a multiple of the least power of two at or above its
length, and a pointer moves modulo the length within it; with length 0 the pointer moves modulo 2^24. -/
def Obligations.PointersAndPosts : Prop :=
  (
      ∀ (at_ : At) (second : Bool) (gd : LGuard) (s t : State),
        let e := at_.eng
        let k := lSlot second
        Issues at_ k s t → LPasses gd e t →
        (∀ pn : Fin 8,
          let p := (t.eng e).regs.p[pn]
          let l := (t.eng e).regs.l[pn]
          let m := (t.eng e).regs.m[pn]
          let f : LForm := ⟨0, pn, 0, true, 0⟩
          Clean t e p → Clean t e l → Clean t e m →
          exec (.engPmod at_ second gd f) s = .next (issued at_ k (pointerMoved k f p.v l.v m (p.tag || l.tag)) t))
        ∧ (∀ (gr : Fin 8) (d : Xfer),
          let g (i : Fin 4) : Reg 32 := gAt t e ⟨4 * gr.val + i.val, by omega⟩
          (∀ i, Clean t e (g i) ∧ (g i).tag = false) → (t.eng e).posts < 16 → (t.room (roomIdx e)).queue.length < 32 →
          (t.eng e).noStore = false → xferOf (g 0).v.toNat (g 1).v.toNat (g 2).v.toNat (g 3).v.toNat e t = some d →
          ∃ u, exec (.engPost at_ second gd ⟨⟨4 * gr.val, by omega⟩, 0, 0, false, 0⟩) s = .next u
            ∧ (u.room (roomIdx e)).queue = (t.room (roomIdx e)).queue ++ [d] ∧ (u.eng e).posts = (t.eng e).posts + 1
            ∧ (u.eng e).regs = (t.eng e).regs ∧ (u.eng e).flight = (t.eng e).flight ∧ (u.eng e).mem = (t.eng e).mem))
    ∧ (
      ∀ (p l : BitVec 24) (d : Int),
        moved p 0 d = BitVec.ofInt 24 (p.toNat + d)
          ∧ (l ≠ 0 → ∃ j : Nat, l.toNat ≤ 2 ^ j ∧ (∀ i < j, 2 ^ i < l.toNat)
              ∧ moved p l d = BitVec.ofInt 24 ((p.toNat / 2 ^ j * 2 ^ j : Nat) + ((p.toNat % 2 ^ j : Nat) + d) % l.toNat)))

/-- BR, BRT, BRF (R195) and REP (R196): two delay slots; a taken branch has its target issue three cycles on; a repeat of COUNT
+ 1 passes over LEN + 1 bundles begins three cycles on, three bundles after the REP. The bundle at a taken branch's target is
the third after the branch (R195); a repeat with passes left returns to its first bundle after its last one, and rotates the
register names if it says so (R196, R146). -/
def Obligations.BranchesAndRepeats : Prop :=
  (
      ∀ (at_ : At) (qb : Fin 4) (target : BitVec 12) (rot : Bool) (count : BitVec 7) (len : BitVec 6) (s t : State),
        let e := at_.eng
        let x := t.eng e
        let branch (taken : Bool) : State := issued at_ 0 (fun x => { x with
          delayUntil := some (x.cycle + 2), branch := if taken then some (target, x.cycle + 3) else none }) t
        Issues at_ 0 s t →
        (BranchMay x →
          exec (.engBr at_ target) s = .next (branch true)
            ∧ exec (.engBrt at_ qb target) s = .next (branch x.regs.q[qb])
            ∧ exec (.engBrf at_ qb target) s = .next (branch (!x.regs.q[qb])))
        ∧ (inDelay x = false → x.reps.length < 2 → (rot = true → ∀ r ∈ x.reps, r.rot = false) →
            exec (.engRep at_ rot count len) s = .next (issued at_ 0 (fun x => { x with
              delayUntil := some (x.cycle + 2),
              reps := { first := x.pc + 3, last := x.pc + 3 + len.setWidth 12, left := count.toNat, rot, starts := x.cycle + 3 }
                :: x.reps }) t)))
    ∧ (
      ∀ (x : Engine),
        (∀ target, x.reps = [] → x.branch = some (target, x.cycle + 3) → (stepPc (stepPc (stepPc x))).pc = target
            ∧ (stepPc x).pc = x.pc + 1 ∧ (stepPc (stepPc x)).pc = x.pc + 2)
        ∧ (x.branch = none → x.reps = [] → (stepPc x).pc = x.pc + 1 ∧ (stepPc x).regs.rb = x.regs.rb)
        ∧ (∀ r rs n, x.branch = none → x.reps = r :: rs → r.starts ≤ x.cycle → x.pc = r.last → r.left = n + 1 →
            (stepPc x).pc = r.first ∧ (stepPc x).reps = { r with left := n } :: rs
              ∧ (stepPc x).regs.rb = if r.rot then x.regs.rb - 1 else x.regs.rb)
        ∧ (∀ r, x.branch = none → x.reps = [r] → r.starts ≤ x.cycle → x.pc = r.last → r.left = 0 →
            (stepPc x).pc = x.pc + 1 ∧ (stepPc x).reps = []))

/-- NOP only takes its slot (R175). SEG at a safe point (R197) takes the checkpoint and starts the next segment, and the SEG
that a replay issues again does nothing more (R162); END alone in its bundle (R198) completes the lesson: ENGINE_STATE 2,
nothing in flight, with a schedule fault where it is not at a safe point (R199); in appendix mode the full lesson's END ends its
last segment with its own cycle, and the appendix goes on with the next bundle (R222; the cycle of that boundary is the model's
reading, log entry 80). At each of these the engine's held writes leave the queue (R157). -/
def Obligations.SegmentsAndLessonEnd : Prop :=
  ∀ (at_ : At) (slot : Slot) (s t : State),
    let e := at_.eng
    let x := t.eng e
    (Issues at_ (slotNumber slot) s t → exec (.engNop at_ slot) s = .next (issued at_ (slotNumber slot) id t))
    ∧ (Issues at_ 0 s t → safeNow x = true → reissued x = true → exec (.engSeg at_) s = .next (issued at_ 0 id t))
    ∧ (Issues at_ 0 s t → safeNow x = true → reissued x = false →
        ∃ u, exec (.engSeg at_) s = .next u
          ∧ (u.eng e).segment = x.segment + 1 ∧ (u.eng e).segStart = x.cycle ∧ (u.eng e).checkpoint = x.regs
          ∧ (u.eng e).checkPc = x.pc ∧ (u.eng e).posts = 0 ∧ (u.eng e).regs = x.regs ∧ (u.eng e).pc = x.pc
          ∧ (u.room (roomIdx e)).queue = unheld e (t.room (roomIdx e)).queue)
    ∧ (Issues at_ 0 s t → endCrowded x = false → (x.appendix = true → x.segment + 1 ≠ fullSegs t e) →
        ∃ u, exec (.engEnd at_) s = .next u
          ∧ u.nat (K.engineState e) = 2 ∧ (u.eng e).flight = [] ∧ (u.eng e).doneFor = some (processed t)
          ∧ (u.eng e).regs = x.regs ∧ (u.room (roomIdx e)).queue = unheld e (t.room (roomIdx e)).queue
          ∧ u.nat (K.scheduleFaults e)
            = if safeNow x then t.nat (K.scheduleFaults e) else min (t.nat (K.scheduleFaults e) + 1) (2 ^ 32 - 1))
    ∧ (Issues at_ 0 s t → endCrowded x = false → x.appendix = true → x.segment + 1 = fullSegs t e → safeNow x = true →
        ∃ u, exec (.engEnd at_) s = .next u
          ∧ u.nat (K.engineState e) = 1 ∧ (u.eng e).segment = x.segment + 1 ∧ (u.eng e).segStart = x.cycle + 1
          ∧ (u.eng e).checkpoint = x.regs ∧ (u.eng e).checkPc = x.pc + 1 ∧ (u.eng e).regs = x.regs
          ∧ (u.room (roomIdx e)).queue = unheld e (t.room (roomIdx e)).queue)

/-- An operation whose guard blocks it occupies its slot and does nothing (R179); here ADD, MAC, ST and LD stand for their
slots. A slot with an illegal encoding, a SEG that is not at a safe point, and an access that no rule allows are schedule faults
(R154, R197, R199): counted in SCHEDULE_FAULTS, source 25 pending, the registers and data memory as they were. A register with
bad parity is detected as it is read (R160, R177): PARITY_EVENTS counts, a replay is requested, no store follows until it
begins, and the result is poisoned. -/
def Obligations.GuardsAndFaults : Prop :=
  (
      ∀ (at_ : At) (gd : Guard) (lg : LGuard) (second : Bool) (f : RegForm) (mf : MulForm) (lf : LForm) (s t : State),
        (Issues at_ 2 s t → Blocks gd at_.eng t → f.zero = 0 → f.qs = 0 →
          exec (.engAdd at_ gd f) s = .next (issued at_ 2 id t))
        ∧ (Issues at_ 1 s t → Blocks gd at_.eng t → mf.zero = 0 → mf.frac = false →
          exec (.engMac at_ gd mf) s = .next (issued at_ 1 id t))
        ∧ (Issues at_ (lSlot second) s t → lg.ge = true → (t.eng at_.eng).regs.q[lg.gq] = false → lf.size ≠ 3 →
          exec (.engSt at_ second lg lf) s = .next (issued at_ (lSlot second) id t)
            ∧ exec (.engLd at_ second lg lf) s = .next (issued at_ (lSlot second) id t)))
    ∧ (
      ∀ (at_ : At) (gd : Guard) (lg : LGuard) (second : Bool) (f : RegForm) (lf : LForm) (s t : State),
        let e := at_.eng
        let p := (t.eng e).regs.p[lf.pn]
        let l := (t.eng e).regs.l[lf.pn]
        let faults (c : Instr) : Prop := ∃ u, exec c s = .next u
          ∧ u.nat (K.scheduleFaults e) = min (t.nat (K.scheduleFaults e) + 1) (2 ^ 32 - 1)
          ∧ u.ic.pending.getLsbD 25 = true ∧ (u.eng e).regs = (t.eng e).regs ∧ (u.eng e).mem = (t.eng e).mem
        (Issues at_ 2 s t → f.zero ≠ 0 → faults (.engAdd at_ gd f) ∧ faults (.engSel at_ gd f))
        ∧ (Issues at_ 0 s t → safeNow (t.eng e) = false → faults (.engSeg at_))
        ∧ (Issues at_ (lSlot second) s t → LPasses lg e t → lf.size ≠ 3 → lf.pm = false → Clean t e p → Clean t e l →
            p.tag = false → l.tag = false → access (lSlot second) (effAddr p.v l.v lf) false e t = none →
            faults (.engLd at_ second lg lf)))
    ∧ (
      ∀ (at_ : At) (gd : Guard) (d s1 : Fin 32) (s t : State),
        let e := at_.eng
        Issues at_ 2 s t → Passes gd e t → (gAt t e s1).bad = true → (t.eng e).injecting ≠ 5 →
        ∃ u, exec (.engMov at_ gd ⟨d, s1, 0, 0, 0⟩) s = .next u
          ∧ u.nat (K.parityEvents e) = min (t.nat (K.parityEvents e) + 1) (2 ^ 32 - 1)
          ∧ (u.eng e).noStore = true ∧ (u.eng e).replayAt.isSome = true ∧ (u.eng e).regs = (t.eng e).regs
          ∧ ∃ v, (u.eng e).flight = (t.eng e).flight ++ [v] ∧ v.tag = true ∧ v.value = (gAt t e s1).v.setWidth 40)

/-- Two results for one register readable from one cycle: the one of the later slot is kept, whenever they issued (R149). -/
def Obligations.LaterSlotIsKept : Prop :=
  ∀ (e : Fin 32) (s : State) (r : Landing),
    let x := s.eng e
    let u := (landAll e s).eng e
    r ∈ x.flight → r.ready ≤ x.cycle → r.slot < 5 →
    (∀ q ∈ x.flight, q ≠ r → q.dest = r.dest → q.ready ≤ x.cycle → q.slot < r.slot) →
    (∀ i, r.dest = .g i → u.regs.g[i] = ⟨r.value.setWidth 32, r.tag, false⟩)
      ∧ (∀ i, r.dest = .acc i → u.regs.acc[i] = ⟨r.value, r.tag, false⟩)
      ∧ (∀ i, r.dest = .p i → u.regs.p[i] = ⟨r.value.setWidth 24, r.tag, false⟩)
      ∧ (∀ i, r.dest = .m i → u.regs.m[i] = ⟨r.value.setWidth 24, r.tag, false⟩)
      ∧ (∀ i, r.dest = .l i → u.regs.l[i] = ⟨r.value.setWidth 24, r.tag, false⟩)
      ∧ (∀ i, r.dest = .q i → u.regs.q[i] = r.value.getLsbD 0)
      ∧ (∀ i, (∀ q ∈ x.flight, q.ready ≤ x.cycle → q.dest ≠ .g i) → u.regs.g[i] = x.regs.g[i])

/-! ### The array: replay, failures, debug -/

/-- REPLAY (R161, R162): at a safe point with first-time register detections the segment starts again from its checkpoint, 16
cycles on, its held writes discarded. ENGINE_HALT_AT_SAFE_POINT (R159): with a halt due there, ENGINE_STATE becomes 3. -/
def Obligations.ReplayAndHalt : Prop :=
  ∀ (at_ : At) (s t : State),
    let e := at_.eng
    let x := t.eng e
    Reaches at_ s t → x.used = 0 → safeNow x = true →
    (replaysNow x = true → x.dets ≠ [] → (∀ d ∈ x.dets, d.loc = 0 ∧ d ∉ x.cause) →
      ∃ u, exec (.replay at_) s = .next u
        ∧ (u.eng e).regs = x.checkpoint ∧ (u.eng e).pc = x.checkPc ∧ (u.eng e).posts = 0 ∧ (u.eng e).cause = x.dets
        ∧ (u.eng e).cycle = x.cycle + 16 ∧ (u.eng e).segStart = x.cycle + 16 ∧ (u.eng e).segment = x.segment
        ∧ u.nat (K.replays e) = min (t.nat (K.replays e) + 1) (2 ^ 32 - 1)
        ∧ (u.room (roomIdx e)).queue = unheld e (t.room (roomIdx e)).queue)
    ∧ (x.replayAt = none → x.switchTo = false → (∃ c, x.haltAt = some c ∧ c ≤ x.cycle) →
        ∃ u, exec (.engineHaltAtSafePoint at_) s = .next u
          ∧ u.nat (K.engineState e) = 3 ∧ (u.eng e).resumeTo = 1 ∧ (u.eng e).haltAt = none
          ∧ (u.eng e).regs = x.regs ∧ (u.eng e).pc = x.pc)

/-- What declaring engine `e` failed leaves (R165): ENGINE_STATE 4, its bit of ENGINES_IN_SERVICE clear and every other bit as
it was, nothing in flight, its held writes discarded, sources 25 and 96 + e pending. SAFE_POINT_TIMEOUT (R159): no safe point
within 1,024 cycles of a request declares the engine failed; a hard register or bundle location at REPLAY does too (R163);
CLASSROOM_FAULT takes all eight engines of the classroom out of service (R169). One policy decision answers each (R422). -/
def Obligations.EngineFailures : Prop :=
  (
      ∀ (why loc addr : Nat) (e : Fin 32) (s : State), bitOf (s.nat K.enginesInService) e = true →
        let u := failEngine why loc addr e s
        u.nat (K.engineState e) = 4
          ∧ (∀ i < 32, bitOf (u.nat K.enginesInService) i = (decide (i ≠ e.val) && bitOf (s.nat K.enginesInService) i))
          ∧ (u.eng e).failedAt = some s.clk.now ∧ (u.eng e).flight = []
          ∧ (u.room (roomIdx e)).queue = unheld e (s.room (roomIdx e)).queue
          ∧ u.ic.pending.getLsbD 25 = true ∧ u.ic.pending.getLsbD (96 + e.val) = true
          ∧ bitOf (u.nat K.levelCause) (if why = 3 then 1 else 0) = true)
    ∧ (
      (∀ (eng : Fin 32) (adv : Nat) (s t : State) (c : Nat), Reaches ⟨eng, adv⟩ s t → c ∈ requestsAt (t.eng eng) →
          c + 1024 ≤ (t.eng eng).cycle → (t.eng eng).lastSafe ≤ c → bitOf (t.nat K.enginesInService) eng = true →
          ∃ loc addr, exec (.safePointTimeout eng adv) s
            = .next (latchStatus (causeArose 6 (failEngine 0 loc addr eng t.draw.draw))))
        ∧ (∀ (at_ : At) (s t : State) (d : Det), Reaches at_ s t → stopsHere (t.eng at_.eng) = true →
          replaysNow (t.eng at_.eng) = true → (t.eng at_.eng).dets = [d] → d.loc ≤ 1 → d ∈ (t.eng at_.eng).cause →
          bitOf (t.nat K.enginesInService) at_.eng = true →
          exec (.replay at_) s = .next (latchStatus (causeArose 6 (failEngine 1 d.loc d.addr at_.eng t))))
        ∧ (∀ (room : Fin 4) (s : State), (s.room room).failed = false →
          ∃ u, exec (.classroomFault room) s = .next (latchStatus (causeArose 6 u)) ∧ (u.room room).failed = true
            ∧ ∀ i < 32, bitOf (u.nat K.enginesInService) i
                = (decide (i / 8 ≠ room.val) && bitOf (s.nat K.enginesInService) i)))

/-- SPARE_MAPPING_START (R166): at its instant SPARE_MAP names the failed engine, the array runs kind 1, and every engine that
is not in appendix mode is asked to switch at its next segment boundary. PREFETCH_COMPLETE (R216): the classroom's oldest
prefetch leaves its queue, its granules are no longer pending, and its destination, in data memory (kind 1) or classroom memory
(kind 2), holds the barn's words, bad where the word is marked or its command failed its CA parity. -/
def Obligations.SpareMappingAndPrefetch : Prop :=
  (
      ∀ (s : State) (e : Fin 32) (at_ : Nat), s.array.spareAt = some (e, at_) → Reachable at_ s →
        ∃ u, exec .spareMappingStart s = .next u
          ∧ u.clk.now = at_ ∧ u.nat K.spareMap = e.val ∧ u.array.kind = some 1 ∧ u.array.spareAt = none
          ∧ ∀ i : Fin 32, (u.eng i).switchTo = !(s.eng i).appendix ∧ (u.eng i).switchAt = (s.eng i).cycle ∧ (u.eng i).regs = (s.eng i).regs)
    ∧ (
      ∀ (room : Fin 4) (dt : Nat) (s : State) (x : Xfer),
        (s.room room).queue.find? (fun x => !x.held) = some x → roomIdx x.eng = room → x.loc % 8 = 0 → x.length % 8 = 0 →
        (x.kind = 1 ∧ x.loc + x.length ≤ 0x60000) ∨ (x.kind = 2 ∧ 0x100000 ≤ x.loc ∧ x.loc + x.length ≤ 0x300000) →
        let a := regionBase s s.array.slot x.region + x.offset
        ∃ u, exec (.prefetchComplete room dt) s = .next u
          ∧ (u.room room).queue = (s.room room).queue.erase x
          ∧ (if x.kind = 1 then (u.eng x.eng).granules = dropGranules (granulesOf x) (s.eng x.eng).granules
             else (u.room room).granules = dropGranules (granulesOf x) (s.room room).granules)
          ∧ (∀ i < x.length / 4, getWord x.eng (x.loc + 4 * i) u
              = { v := BitVec.ofNat 32 (leNat (readBarn s (a + 4 * i) 4)), bad := barnBad room.val s (a + 4 * i) })
          ∧ (∀ b, mapped b = true → b < x.loc ∨ x.loc + x.length ≤ b → getWord x.eng b u = getWord x.eng b s))

/-- The debug commands that stop and go (R171): STATUS captures state, breakpoint flag, last safe point and segment; HALT asks a
running engine to halt, and halts an idle one where it stands; RESUME returns to what the halt interrupted, a lesson in the
cycle of the present instant (R153, R172); STEP runs to the next safe point after one cycle; both ask for a halted engine. -/
def Obligations.DebugStopAndGo : Prop :=
  ∀ (e : Fin 32) (dt : Nat) (s : State), DebugOpen e s →
    let x := s.eng e
    let st := s.nat (K.engineState e)
    (∃ u, exec (.dbgStatus e dt) s = .next u ∧ Captures u e 0 0
      ∧ u.tap.data = BitVec.ofNat 32 (st * 2 ^ 29 + (if x.breakHit then 2 ^ 28 else 0) + x.lastSafePc.toNat * 2 ^ 12 + x.segment)
      ∧ u.array = s.array)
    ∧ (st = 1 → ∃ u, exec (.dbgHalt e dt) s = .next u ∧ Captures u e 0 0 ∧ u.nat (K.engineState e) = 1
        ∧ (u.eng e).haltAt = some (x.haltAt.getD x.cycle) ∧ (u.eng e).regs = x.regs)
    ∧ (st = 0 ∨ st = 2 → ∃ u, exec (.dbgHalt e dt) s = .next u ∧ Captures u e 0 0 ∧ u.nat (K.engineState e) = 3
        ∧ (u.eng e).resumeTo = st ∧ (u.eng e).regs = x.regs)
    ∧ (st = 3 → ∃ u, exec (.dbgResume e dt) s = .next u ∧ Captures u e 0 0 ∧ u.nat (K.engineState e) = x.resumeTo
        ∧ (u.eng e).breakHit = false ∧ (u.eng e).regs = x.regs ∧ (u.eng e).pc = x.pc
        ∧ (u.eng e).cycle = if x.resumeTo = 1
            then max x.cycle ((u.clk.now - u.bell.startAt) * kindMhz (runImage s) (runKind s) / 1000) else x.cycle)
    ∧ (st = 3 → x.resumeTo = 1 → ∃ u, exec (.dbgStep e dt) s = .next u ∧ Captures u e 0 0 ∧ u.nat (K.engineState e) = 1
        ∧ (u.eng e).haltAt = some ((u.eng e).cycle + 1) ∧ x.cycle ≤ (u.eng e).cycle ∧ (u.eng e).regs = x.regs ∧ (u.eng e).pc = x.pc)
    ∧ (st ≠ 3 → (∃ u, exec (.dbgResume e dt) s = .next u ∧ Captures u e 3 0 ∧ u.array = s.array)
        ∧ ∃ u, exec (.dbgStep e dt) s = .next u ∧ Captures u e 3 0 ∧ u.array = s.array)

/-- The debug commands that read and write (R170, R171): a running engine's registers read as its last checkpoint; WRITE_REG of
a halted engine writes one register, good and untagged, and no other; WRITE_MEM writes one word; the breakpoints are set and
cleared. -/
def Obligations.DebugReadsAndWrites : Prop :=
  ∀ (e : Fin 32) (dt : Nat) (s : State), DebugOpen e s →
    let x := s.eng e
    let st := s.nat (K.engineState e)
    let seen := if st = 1 then x.checkpoint else x.regs
    (∀ n : Fin 32, ∃ u, exec (.dbgReadReg e (BitVec.ofNat 24 n.val) dt) s = .next u
        ∧ Captures u e 0 (BitVec.ofNat 24 n.val) ∧ u.tap.data = seen.g[n].v ∧ u.array = s.array)
    ∧ (∀ n : Fin 8, ∃ u, exec (.dbgReadReg e (BitVec.ofNat 24 (36 + n.val)) dt) s = .next u
        ∧ Captures u e 0 (BitVec.ofNat 24 (36 + n.val)) ∧ u.tap.data = BitVec.ofNat 32 seen.p[n].v.toNat ∧ u.array = s.array)
    ∧ (∀ n : Fin 4, ∃ u, exec (.dbgReadReg e (BitVec.ofNat 24 (32 + n.val)) dt) s = .next u
        ∧ Captures u e 0 (BitVec.ofNat 24 (seen.acc[n].v.toNat / 2 ^ 32))
        ∧ u.tap.data = BitVec.ofNat 32 seen.acc[n].v.toNat ∧ u.array = s.array)
    ∧ (∀ (n : Fin 32) (d : BitVec 32), st = 3 → ∃ u, exec (.dbgWriteReg e (BitVec.ofNat 24 n.val) d dt) s = .next u
        ∧ Captures u e 0 (BitVec.ofNat 24 n.val)
        ∧ (∀ k : Fin 32, (u.eng e).regs.g[k] = if k = n then ⟨d, false, false⟩ else x.regs.g[k])
        ∧ (u.eng e).regs.acc = x.regs.acc ∧ (u.eng e).regs.p = x.regs.p ∧ (u.eng e).regs.m = x.regs.m
        ∧ (u.eng e).regs.l = x.regs.l ∧ (u.eng e).regs.q = x.regs.q ∧ (u.eng e).regs.rb = x.regs.rb)
    ∧ (∀ a : BitVec 24, mapped a.toNat = true → ∃ u, exec (.dbgReadMem e a dt) s = .next u
        ∧ u.tap.result = 0 ∧ u.tap.data = (getWord e a.toNat s).v ∧ u.tap.address.getLsbD 8 = (readMem e a.toNat s).bad
        ∧ (∀ j, j ≠ 8 → u.tap.address.getLsbD j = a.getLsbD j) ∧ u.array = s.array)
    ∧ (∀ (a : BitVec 24) (d : BitVec 32), mapped a.toNat = true → st = 3 ∨ s.stopped = true →
        ∃ u, exec (.dbgWriteMem e a d dt) s = .next u ∧ Captures u e 0 a ∧ getWord e a.toNat u = { v := d }
          ∧ ∀ b, mapped b = true → b / 4 ≠ a.toNat / 4 → getWord e b u = getWord e b s)
    ∧ (∀ (i : Fin 4) (d : BitVec 32),
        let a := BitVec.ofNat 24 i.val
        (∃ u, exec (.dbgSetBreak e a d dt) s = .next u ∧ Captures u e 0 a
          ∧ (u.eng e).breaks = x.breaks.set i (some (BitVec.ofNat 12 d.toNat)) ∧ (u.eng e).regs = x.regs)
        ∧ (∃ u, exec (.dbgClearBreak e a dt) s = .next u ∧ Captures u e 0 a
          ∧ (u.eng e).breaks = x.breaks.set i none ∧ (u.eng e).regs = x.regs))

/-! ### Bells and time -/

/-- BELL_START (R31, R33): at its due instant the next bell opens: the first after arming takes BELL_NUMBER_NEXT, each other the
next number modulo 2^48; the next is due BELL_PERIOD later, BELL_OUT is high for 1.000 µs, source 17 is pending. With a stop
that reaches the boundary the bell is suppressed from its start (R34). The bells end (R22, R34, R505): BELLS_STOPPED at the end
of the suppressed bell, and BELL_START or BELLS_STOPPED of an armed generator whose stop reaches the first boundary, leave no
bell due, acquired or processed, and a drive to be restored, temperature factors and CAP_SCALEs that waited for a bell start
have taken effect; where no write and no switch waits for the stop, BELL_STATE and BELL_RUN are 0. BELLS_STOPPED raises source
18 and names the number after the suppressed bell in BELL_NUMBER_NEXT; a stop of the armed generator uses no number. -/
def Obligations.Bells : Prop :=
  (
      ∀ (s : State) (d : Nat), s.bell.due = some d →
        let first := s.nat K.bellState == 1
        let start := max s.clk.now d
        let n := if first then s.nat K.bellNumberNext else (s.bell.number + 1) % 2 ^ 48
        (first = true ∧ stopBefore d s = false) ∨ (s.running = true ∧ s.bell.acquiring.any BellRec.suppressed = false) →
        ∃ u, exec .bellStart s = .next u
          ∧ u.bell.number = n ∧ u.bell.everStarted = true ∧ u.bell.startAt = start ∧ u.bell.outUntil = start + 1000
          ∧ u.bell.due = some (start + 10 * u.nat K.bellPeriod)
          ∧ u.nat K.bellState = (if u.bell.stopAt.isSome then 3 else 2) ∧ u.ic.pending.getLsbD 17 = true
          ∧ ∃ b, u.bell.acquiring = some b ∧ b.header.number = n ∧ b.header.time = u.bell.startDev ∧ b.startAt = start
            ∧ b.period = 10 * u.nat K.bellPeriod ∧ b.windowClosed = false ∧ b.launchFixed = false ∧ b.lessonStarted = false
            ∧ b.suppressed = (!first && stopBefore start s))
    ∧ (
      (∀ v : State,
          let u := bellsOver v
          u.bell.due = none ∧ u.bell.stopAt = none ∧ u.bell.acquiring = none ∧ u.bell.processing = none
            ∧ u.bell.number = v.bell.number
            ∧ u.drive.restoreAt = none ∧ u.drive.capNext = [] ∧ (∀ l : Fin 8, (u.drive.lines[l]).kTNext = [])
            ∧ (v.drive.restoreAt.isSome = true → u.drive.applied = true)
            ∧ (v.dict.shadow = [] → v.tt.decided = none →
                u.nat K.bellState = 0 ∧ u.nat K.bellRun = 0 ∧ u.nat K.bellNumberNext = v.nat K.bellNumberNext))
        ∧ (∀ (s : State) (d : Nat), s.bell.due = some d → s.nat K.bellState = 1 → stopBefore d s = true →
          exec .bellStart s = .next (latchStatus (bellsOver (s.passTo d))))
        ∧ (∀ (s : State) (d : Nat), s.bell.due = some d → s.nat K.bellState = 1 → stopBefore d s = true →
          exec .bellsStopped s = .next (latchStatus (bellsOver (s.passTo d))))
        ∧ (∀ (s : State) (d : Nat), s.bell.due = some d → s.running = true → s.bell.acquiring.any BellRec.suppressed = true →
          ∃ v u, exec .bellsStopped s = .next u ∧ u = latchStatus (raise 18 (bellsOver v))
            ∧ v.nat K.bellNumberNext = (s.bell.number + 1) % 2 ^ 48 ∧ v.clk.now = max s.clk.now d
            ∧ u.bell.due = none ∧ u.bell.acquiring = none ∧ u.bell.processing = none ∧ u.bell.number = s.bell.number
            ∧ u.exc.playing = false ∧ u.ic.pending.getLsbD 18 = true))

/-- LAUNCH_WINDOW_CLOSE (R52, R53): the launch offset is the first edge of the window less LAUNCH_DELAY; with none, the offset
of the bell before, else LAUNCH_NOMINAL, and the bell carries "no-launch". The model counts it in sixteenths of a picosecond, of
which a stamp's 7.8125 ps are 125; the header's word is that in whole picoseconds, rounded to the nearest (log entry 65). The
held stream sample stays while the ideal instant is within 0.75 Ts of it, and moves to the nearest sample when it is not; with
none held the nearest sample is taken. The trace (R16, R109, R111, R270): ACQUISITION_WINDOW_CLOSE keeps the samples of N × Ts +
3.024 µs and counts the clipped ones of each converter; TRACE_END_KNOWN closes the bell's trace 2.0 µs later and, under
TRACE_END_ENABLE, publishes its end; OFFSET_ESTIMATE moves each converter's offset within ± 8,191 for the next bell. -/
def Obligations.BellAcquired : Prop :=
  (
      ∀ (s : State) (b : BellRec), s.bell.acquiring = some b → b.suppressed = false → b.launchFixed = false →
        Reachable (b.startAt + 2000) s →
        (b.launchEdge = none → ∀ l : Fin 8, natIn b.settings (K.darkCheck l) ≠ 1 ∨ (s.drive.lines[l]).darkRun < 2) →
        let off : Int := match b.launchEdge with
          | some d => (d : Int) * 125 - 16 * natIn b.settings K.launchDelay
          | none => s.launch.offset.getD (16 * natIn b.settings K.launchNominal)
        let ideal := off + 16 * natIn b.settings K.receivePathDelay
        let ts : Int := 16000 * tsOf b.header.mode
        ∃ u c, exec .launchWindowClose s = .next u ∧ u.bell.acquiring = some c
          ∧ c.launchFixed = true ∧ c.header.launchOffset = off ∧ u.launch.offset = some off
          ∧ (0 ≤ off → c.header.launchWord = (roundDiv off 16).toNat)
          ∧ c.header.has .noLaunch = (b.launchEdge.isNone || b.header.has .noLaunch)
          ∧ ∃ z, u.launch.held = some z ∧ u.launch.heldMode = b.header.mode ∧ c.header.residual = z * ts - ideal
            ∧ (∀ h, s.launch.held = some h → s.launch.heldMode = b.header.mode → 4 * (ideal - h * ts).natAbs ≤ 3 * ts.natAbs → z = h)
            ∧ (∀ h, s.launch.held = some h → s.launch.heldMode = b.header.mode → 3 * ts.natAbs < 4 * (ideal - h * ts).natAbs →
                z = nearestSample b.header.mode ideal)
            ∧ (s.launch.held = none ∨ s.launch.heldMode ≠ b.header.mode → z = nearestSample b.header.mode ideal))
    ∧ (
      ∀ (s : State) (b : BellRec), s.bell.acquiring = some b → b.suppressed = false → b.launchFixed = true →
        let n := b.header.points * tsOf b.header.mode
        (∀ (xs : List Sample) (raman : List RamanSample) (ph : Fin 4), b.windowClosed = false → Reachable (b.startAt + (n + 3024)) s →
          ∃ u c, exec (.acquisitionWindowClose xs raman ph) s = .next u ∧ u.bell.acquiring = some c ∧ c.windowClosed = true
            ∧ c.header.number = b.header.number ∧ u.chain.samples = xs.take (n + 3024) ∧ u.chain.samplesBell = b.header.number
            ∧ ∀ k < 4, u.nat (K.clipCount k)
                = min (s.nat (K.clipCount k) + clipCountOf b.settings k (xs.take (n + 3024))) (2 ^ 32 - 1))
        ∧ (b.endKnown = false → Reachable (b.startAt + (n + 5024)) s →
          let g := bellSignal b (zeroIndex b) (samplesFor s b.header.number)
          ∃ u c, exec .traceEndKnown s = .next u ∧ u.bell.acquiring = some c ∧ c.endKnown = true
            ∧ c.header.number = b.header.number
            ∧ u.nat K.mfSatCount = min (s.nat K.mfSatCount + g.saturations) (2 ^ 32 - 1)
            ∧ (natIn b.settings K.traceEndEnable = 1 →
                u.nat K.traceEndPoint = g.traceEnd (natIn b.settings K.endLevel)))
        ∧ (∀ sums : Vector Int 4, b.offsetDone = false → natIn b.settings K.offsetTrack = 1 → Reachable (b.startAt + (n + 7000)) s →
          ∃ u, exec (.offsetEstimate sums) s = .next u ∧ u.bell.acquiring = some { b with offsetDone := true }
            ∧ u.chain.samples = s.chain.samples
            ∧ ∀ c : Fin 4, ∃ v, u.chain.offsetNext[c] = some v ∧ -8191 ≤ v ∧ v ≤ 8191
              ∧ v = newOffset (s.num (K.offsetEst c)) sums[c] (natIn b.settings K.offsetTc)))

/-- Lessons and the switch's load. LESSON_START (R155, R205): at ENGCLK cycle 1,000 every engine in service that has a lesson
and is not halted starts it at its first bundle. LESSON_DEADLINE (R228): no such engine runs on; one that had ended keeps its
state with nothing stale, another loses what is in flight. BELL_SWITCH_LOAD_DONE (R223, R224): the load is done; with bells
stopped and nothing else waiting the switch is complete. -/
def Obligations.LessonsStartAndStop : Prop :=
  (∀ (s : State) (b p : BellRec), s.bell.acquiring = some b → s.bell.processing = some p → p.header.has .switching = false →
    (b.lessonStarted = false → Reachable (b.startAt + cyclesNs s 1000) s →
      ∃ u, exec .lessonStart s = .next u ∧ u.bell.acquiring = some { b with lessonStarted := true }
        ∧ u.array.deadline = deadlineCycle s b.period
        ∧ ∀ e : Fin 32, hasLesson s e = true → inService s e = true →
          (if s.nat (K.engineState e) = 3 then u.nat (K.engineState e) = 3 ∧ (u.eng e).regs = (s.eng e).regs
           else u.nat (K.engineState e) = 1 ∧ (u.eng e).pc = BitVec.ofNat 12 (lessonBase (engSec s 2 e))
            ∧ (u.eng e).cycle = 1000 ∧ (u.eng e).regs = startRegs s e p.header.number ∧ (u.eng e).flight = []))
    ∧ (b.lessonStarted = true → b.deadlineDone = false →
        Reachable (b.startAt + cyclesNs s (deadlineCycle s b.period)) s →
      ∃ u, exec .lessonDeadline s = .next u ∧ u.bell.acquiring = some { b with deadlineDone := true }
        ∧ ∀ e : Fin 32, hasLesson s e = true → inService s e = true →
          u.nat (K.engineState e) ≠ 1
          ∧ (if lessonEnded s e then u.nat (K.engineState e) = s.nat (K.engineState e) ∧ (u.eng e).stale = 0
             else (u.eng e).flight = [])))
    ∧ ∀ (s : State) (w : Switch), s.tt.switching = some w → w.started = true → w.done = false → Reachable w.endsAt s →
      (s.stopped = false → ∃ u, exec .bellSwitchLoadDone s = .next u ∧ u.tt.switching = some { w with done := true })
      ∧ (s.stopped = true → s.dict.shadow = [] → s.tt.decided = none →
        ∃ u, exec .bellSwitchLoadDone s = .next u ∧ u.tt.switching = none ∧ u.nat K.switchState = 0 ∧ u.array.reseedAll = true)

/-- The frequency reference (R38 to R40). REF_IN_LOST: from locked or relocking to holdover, the steering frozen, HOLDOVER_COUNT
one more; from locking to absent. REF_IN_RETURN: from holdover to relocking, from absent to locking. PLL_LOCK: from locking or
relocking to locked. None of them touches the time servo. The time source (R30, R41, R42) and the fine calibration (R49).
PPS_IN_EDGE, where the edge counts: TIME_OFFSET is its distance from the second PPS_NEXT_SECOND names, which counts on; the new
trim lies within ± SLEW_LIMIT. TIME_COAST: after 2.0 s without a measurement TIME_STATE is 3. FINE_CALIBRATION: new tables wait
for the next bell boundary. -/
def Obligations.ReferenceAndTimeSource : Prop :=
  (
      ∀ (s : State) (dt : Nat),
        let r := s.nat K.refState
        (r = 2 ∨ r = 4 → ∃ u, exec (.refInLost dt) s = .next u ∧ u.nat K.refState = 3 ∧ u.clk.frozen = true
          ∧ u.nat K.holdoverCount = min (s.nat K.holdoverCount + 1) (2 ^ 32 - 1) ∧ u.ic.pending.getLsbD 19 = true
          ∧ u.servo = s.servo ∧ ∀ b, u.bell.acquiring = some b → b.header.has .holdover = true)
        ∧ (r = 1 → ∃ u, exec (.refInLost dt) s = .next u ∧ u.nat K.refState = 0 ∧ u.ic.pending.getLsbD 19 = true ∧ u.servo = s.servo)
        ∧ (r = 3 → ∃ u, exec (.refInReturn dt) s = .next u ∧ u.nat K.refState = 4 ∧ u.clk.frozen = false ∧ u.servo = s.servo)
        ∧ (r = 0 → ∃ u, exec (.refInReturn dt) s = .next u ∧ u.nat K.refState = 1 ∧ u.servo = s.servo ∧ u.ic = s.ic)
        ∧ (r = 1 ∨ r = 4 → ∃ u, exec (.pllLock dt) s = .next u ∧ u.nat K.refState = 2 ∧ u.servo = s.servo ∧ u.ic = s.ic))
    ∧ (
      (∀ (s : State) (dt : Nat) (frac : Fin 128),
        let v := s.elapse dt
        let x : Int := (((v.clk.devTime + v.clk.now % 10) * 16000 + frac.val * 125 : Nat) : Int)
          - ((s.nat K.ppsNextSecond * 16000000000000 : Nat) + s.num K.ppsDelay * 16)
        s.nat K.timeSource = 1 → s.nat K.timeState = 1 ∨ x.natAbs ≤ 16000000000 →
        ∃ u, exec (.ppsInEdge dt frac) s = .next u ∧ u.num K.timeOffset = roundDiv x 16
          ∧ -(s.nat K.slewLimit : Int) ≤ u.num K.freqTrim ∧ u.num K.freqTrim ≤ s.nat K.slewLimit
          ∧ u.nat K.ppsNextSecond = (s.nat K.ppsNextSecond + 1) % 2 ^ 64 ∧ u.servo.lastMeasure = v.clk.now ∧ u.servo.outside = 0)
        ∧ (∀ s : State, s.nat K.timeSource ≠ 0 → s.nat K.timeState = 1 ∨ s.nat K.timeState = 2 →
          Reachable (s.servo.lastMeasure + 2000000000) s →
          ∃ u, exec .timeCoast s = .next u ∧ u.nat K.timeState = 3 ∧ u.ic.pending.getLsbD 20 = true
            ∧ u.clk.now = s.servo.lastMeasure + 2000000000 ∧ u.num K.freqTrim = s.num K.freqTrim)
        ∧ (∀ s : State, let d := s.tdc.lastCal + s.nat K.fineCalPeriod * 1000000000
          Reachable d s →
          ∃ u, exec .fineCalibration s = .next u ∧ u.clk.now = d ∧ u.tdc.lastCal = d ∧ u.tdc.calPending = some (s.tdc.calTable + 1)
            ∧ u.tdc.chan = s.tdc.chan ∧ u.dict.store = s.dict.store))

/-- TDC_EDGE of an enabled channel and selected slope (R43, R44, Table 2-1): less than 5.0 ns after the last recorded edge it
only counts in CLOSE_COUNT; else it is recorded, and its stamp joins a queue of fewer than 512 that the cores own, or is lost to
a full one. The stamper's registers (R50, R51): a read of TDC_POP_LO by either core removes the oldest stamp of a channel that
the cores own, delivers its low half and keeps its high half for TDC_POP_HI; an empty queue, or a channel the host owns, reads
all ones. TDC_STATUS is W1C in bit 17, for the application core alone. -/
def Obligations.EdgeStamps : Prop :=
  (
      ∀ (s : State) (dt : Nat) (frac : Fin 128) (c : Fin 8) (rising : Bool),
        let v := s.elapse dt
        let x := s.tdc.chan[c]
        let t := 128 * v.clk.now + frac.val
        let d := t - (if s.bell.everStarted then 128 * s.bell.startAt else 0)
        let bit (b : Bool) (k : Nat) : Nat := if b then 2 ^ k else 0
        let r := s.nat K.refState
        let stamp := (if s.bell.everStarted then s.bell.number % 2 ^ 24 else 0xFFFFFF) * 2 ^ 40 + d / 320 % 2 ^ 22 * 2 ^ 18
          + d % 320 * 2 ^ 9 + c.val * 2 ^ 6 + bit rising 5 + bit (decide (2 ^ 22 ≤ d / 320)) 4 + bit x.markLost 3
          + bit (r == 0 || r == 3) 2 + bit (r == 3 || r == 4) 1 + bit (!s.running) 0
        bitOf (s.nat K.tdcEnable) c = true → bitOf (s.nat (K.slope c)) (if rising then 0 else 1) = true →
        ∃ u, exec (.tdcEdge dt frac c rising) s = .next u
          ∧ (∀ k : Fin 8, k ≠ c → u.tdc.chan[k] = s.tdc.chan[k])
          ∧ (if x.tooClose t then u.tdc = s.tdc ∧ u.nat (K.closeCount c) = min (s.nat (K.closeCount c) + 1) (2 ^ 32 - 1)
             else u.nat (K.stampCount c) = (s.nat (K.stampCount c) + 1) % 2 ^ 64 ∧ (u.tdc.chan[c]).lastEdge = some t
              ∧ (x.queue.length < 512 → s.nat (K.owner c) = 0 →
                  (u.tdc.chan[c]).queue = x.queue ++ [BitVec.ofNat 64 stamp] ∧ (u.tdc.chan[c]).markLost = false)
              ∧ (512 ≤ x.queue.length → (u.tdc.chan[c]).queue = x.queue ∧ (u.tdc.chan[c]).lostSticky = true
                  ∧ (u.tdc.chan[c]).markLost = true ∧ u.nat (K.lostCount c) = min (s.nat (K.lostCount c) + 1) (2 ^ 32 - 1))))
    ∧ (
      ∀ (s : State) (core : Fin 2) (c : Fin 8),
        let v := CoreView core 0 s
        let x := s.tdc.chan[c]
        (CoreMay core 0 (0x40030000 + 0x10 * c.val + 4) 0 s → ∃ u, exec (.tdcPopLo core c) s = .next u
          ∧ (s.nat (K.owner c) = 0 → ∀ q qs, x.queue = q :: qs →
              u.tdc.lastRead = q.extractLsb' 0 32 ∧ (u.tdc.chan[c]).popHi = q.extractLsb' 32 32 ∧ (u.tdc.chan[c]).queue = qs)
          ∧ (s.nat (K.owner c) ≠ 0 ∨ x.queue = [] → u.tdc.lastRead = 0xFFFFFFFF ∧ (u.tdc.chan[c]).queue = x.queue
              ∧ popHi c u = 0xFFFFFFFF)
          ∧ u.dict = v.dict ∧ u.bell = v.bell)
        ∧ (∀ (value : BitVec 32), core = 1 → CoreMay core 1 (0x40030000 + 0x10 * c.val) 0 s →
          ∃ u, exec (.tdcStatusClear core c value) s = .next u
            ∧ (u.tdc.chan[c]).lostSticky = (x.lostSticky && !value.getLsbD 17) ∧ (u.tdc.chan[c]).queue = x.queue ∧ u.dict = v.dict)
        ∧ (∀ (value : BitVec 32), core = 0 → coreActs core s = true → ∃ u, exec (.tdcStatusClear core c value) s = .next u
            ∧ u.tdc = v.tdc ∧ u.dict = v.dict ∧ CoreFaults core 1 (0x40030000 + 0x10 * c.val) u))

/-! ### Entries at their turn -/

/-- BELL_RUN, DEVICE_TIME, TIME_SOURCE and OWNER, written at their turn. BELL_RUN := 1 arms the generator for BELL_START_TIME,
or for the first REFCLK edge at least 10.000 µs on (R33); BELL_RUN := 0 asks for the stop of R34, unless one is asked for or
bells are stopped; DEVICE_TIME has the value written at the next REFCLK edge (R61); TIME_SOURCE starts its servo afresh (R42);
OWNER moves, and what was queued is lost (R44). BELL_RUN reads as written from its turn on (R56). -/
def Obligations.BellAndTimeEntries : Prop :=
  ∀ (src : Src) (s w : State) (i : Initiator),
    (Writes src K.bellRun [1] s i w → ∃ u, exec (.bellRunArm src) s = .next u ∧ Takes i w u
      ∧ u.nat K.bellRun = 1 ∧ u.nat K.bellState = 1 ∧ u.bell.stopAt = none ∧ u.bell.number = w.bell.number
      ∧ u.bell.due = some (if w.nat K.bellStartTime = 0 then (w.clk.now + 10000 + 9) / 10 * 10
          else w.clk.now / 10 * 10 + ((w.nat K.bellStartTime : Int) - w.edgeTime).toNat))
    ∧ (Writes src K.bellRun [0] s i w → ∃ u, exec (.bellRunStop src) s = .next u ∧ Takes i w u
      ∧ u.nat K.bellRun = 0 ∧ u.bell.number = w.bell.number ∧ u.bell.acquiring = w.bell.acquiring ∧ u.nat K.bellState = (if w.nat K.bellState = 2 then 3 else w.nat K.bellState) ∧ u.bell.due = w.bell.due
      ∧ u.bell.stopAt = (if w.nat K.bellState = 2 ∨ (w.nat K.bellState = 1 ∧ w.bell.stopAt = none) then some w.clk.now
          else w.bell.stopAt))
    ∧ (∀ v : BitVec 64, Writes src K.deviceTime (leBytes 8 v.toNat) s i w →
      ∃ u, exec (.deviceTimeWrite src v) s = .next u ∧ Takes i w u ∧ u.clk = { w.clk with devNext := some v.toNat }
        ∧ (u.passTo (w.clk.now / 10 * 10 + 10)).clk.devTime = v.toNat)
    ∧ (∀ v : BitVec 8, Writes src K.timeSource [v] s i w →
      ∃ u, exec (.timeSourceSelect src v) s = .next u ∧ Takes i w u ∧ u.nat K.timeSource = v.toNat
        ∧ u.nat K.timeState = (if v = 0 then 0 else 1) ∧ u.servo.lastMeasure = w.clk.now)
    ∧ (∀ (c : Fin 8) (v : BitVec 8), Writes src (K.owner c) [v] s i w →
      ∃ u, exec (.tdcOwnerChange src c v) s = .next u ∧ Takes i w u ∧ u.nat (K.owner c) = v.toNat
        ∧ (v.toNat = w.nat (K.owner c) → u.tdc = w.tdc)
        ∧ (v.toNat ≠ w.nat (K.owner c) → (u.tdc.chan[c]).queue = []
          ∧ ((w.tdc.chan[c]).queue ≠ [] → (u.tdc.chan[c]).lostSticky = true
            ∧ u.nat (K.lostCount c) = min (w.nat (K.lostCount c) + (w.tdc.chan[c]).queue.length) (2 ^ 32 - 1))))

/-- Drive, receiver and array entries at their turn. FAULT_CLEAR clears the latched faults and the removal of the lines it
names, and of no other (R96); DRIVE_ENABLE := 1 restores drive, at once where bells are stopped (R100), := 0 removes it; CAL_RUN
starts the converter calibration (R110); CAP_ARM arms with the settings as they stand and drops the old record (R130); CAL_RESET
discards the period (R267); TRACE_END_LEARN counts 64 bells (R276); FAULT_INJECT reaches the engine it names, for the lesson of
the next bell (R173); LINK_DELAY becomes valid (R378). -/
def Obligations.DriveAndReceiverEntries : Prop :=
  ∀ (src : Src) (s w : State) (i : Initiator),
    (∀ v : BitVec 8, Writes src K.faultClear [v] s i w → ∃ u, exec (.faultClear src v) s = .next u ∧ Takes i w u
      ∧ ∀ l : Fin 8, let x := u.drive.lines[l]; let y := w.drive.lines[l]
        if v.getLsbD l then x.latched = false ∧ x.removed = false
        else x.openF = y.openF ∧ x.shortF = y.shortF ∧ x.darkF = y.darkF ∧ x.overF = y.overF ∧ x.removed = y.removed)
    ∧ (Writes src K.driveEnable [1] s i w → ∃ u, exec (.driveRestore src) s = .next u ∧ Takes i w u ∧ u.nat K.driveEnable = 1
      ∧ (if w.stopped then u.drive.applied = true ∧ u.drive.restoreAt = none
         else u.drive.restoreAt = some (w.drive.restoreAt.getD w.clk.now) ∧ u.drive.applied = w.drive.applied ∧ u.drive.lines = w.drive.lines))
    ∧ (Writes src K.driveEnable [0] s i w → ∃ u, exec (.driveRemove src) s = .next u ∧ Takes i w u ∧ u.nat K.driveEnable = 0
      ∧ u.drive.applied = false ∧ u.drive.restoreAt = none)
    ∧ (Writes src K.calRun [1] s i w → ∃ u, exec (.calRun src) s = .next u ∧ Takes i w u ∧ u.nat K.calState = 1
      ∧ u.chain = { w.chain with calSince := some w.clk.now })
    ∧ (Writes src K.capArm [1] s i w → ∃ u, exec (.captureArm src) s = .next u ∧ Takes i w u ∧ u.nat K.capState = 1
      ∧ u.capture = { w.capture with record := [], taken := none, samples := [], armedAt := w.clk.now, bell := w.nat K.capBell, point := w.nat K.capPoint, band := w.nat K.capBand,
                                     offset := w.nat K.capOffset, length := w.nat K.capLength })
    ∧ (Writes src K.calReset [1] s i w → ∃ u, exec (.calReset src) s = .next u ∧ Takes i w u
      ∧ u.profiler = { w.profiler with discard := true })
    ∧ (Writes src K.traceEndLearn [1] s i w → ∃ u, exec (.traceEndLearn src) s = .next u ∧ Takes i w u
      ∧ u.fibre = { w.fibre with learnLeft := 65, learnMax := 0 })
    ∧ (∀ v : BitVec 16, Writes src K.faultInject (leBytes 2 v.toNat) s i w →
      ∃ u, exec (.faultInject src v) s = .next u ∧ Takes i w u
        ∧ ∀ e : Fin 32, u.eng e = if e.val = v.toNat % 32 then { w.eng e with inject := v.toNat / 256, injectAt := w.bell.number + 1 } else w.eng e)
    ∧ (∀ (p : Fin 2) (v : BitVec 32), Writes src (K.linkDelay p) (leBytes 4 v.toNat) s i w →
      ∃ u, exec (.linkDelayWrite src p v) s = .next u ∧ Takes i w u ∧ u.nat (K.linkDelay p) = v.toNat
        ∧ u.nat (K.delayValid p) = 1)

/-- Staged operations (R351 to R354), the upload buffer (R347) and STATUS_LATCH (R358). A start, by OP_START or TT_LOAD, takes
the next OP_ID and its place among the eight, running with no step done, under the CSN of its write, which the answer gives as
its detail; OP_ABORT ends the operation, in its place with state 3 or standing aside for a later one of its place, and raises
source 43; a piece at OFFSET 0 starts the upload afresh; LATCH_CLEAR clears a bit whose condition no longer stands. The steps of
staged operations (R352, R353). STEP_DONE of a running operation makes its report ready, of the older of two with the same OP_ID
mod 8 first; at the report's turn one more step is done; the last report of a profile save or of a flash program whose image
passes its checks is the commit point, where the operation completes under the next CSN. -/
def Obligations.Operations : Prop :=
  (
      ∀ (src : Src) (s w : State) (i : Initiator),
        let started (kind : Nat) (arg : Nat) (u : State) : Prop :=
          let id := w.nat K.opLastId + 1
          let o := u.dict.ops[id % 8]'(Nat.mod_lt _ (by decide))
          Takes i w u ∧ u.nat K.opLastId = id ∧ bitOf (u.nat K.opsRunning) (kind - 1) = true
            ∧ o.id = id ∧ o.kind = kind ∧ o.state = 1 ∧ o.arg = arg ∧ o.stepsDone = 0 ∧ o.startCsn = w.nat K.csnLast + 1
            ∧ o.starter = i ∧ ∃ a, u.dict.answers[i] = some a ∧ a.detail = id
        (∀ arg : BitVec 8,
          (Writes src K.opStart ([1, arg] ++ zeros 14) s i w →
            ∃ u, exec (.opStartTimetableLoad src arg) s = .next u ∧ started 1 arg.toNat u ∧ u.nat K.ttLoadState = 1)
          ∧ (Writes src K.opStart ([2, arg] ++ zeros 14) s i w →
            ∃ u, exec (.opStartProfileSave src arg) s = .next u ∧ started 2 arg.toNat u)
          ∧ (Writes src K.opStart ([3, arg] ++ zeros 14) s i w →
            ∃ u, exec (.opStartProfileApply src arg) s = .next u ∧ started 3 arg.toNat u)
          ∧ (Writes src K.opStart ([4, arg] ++ zeros 14) s i w →
            ∃ u, exec (.opStartFlashProgram src arg) s = .next u ∧ started 4 arg.toNat u))
        ∧ (Writes src K.ttLoad [1] s i w →
          ∃ u, exec (.ttLoad src) s = .next u ∧ started 1 0 u ∧ u.nat K.ttLoadState = 1)
        ∧ (∀ v : BitVec 32, Writes src K.opAbort (leBytes 4 v.toNat) s i w →
          ∃ u, exec (.opAbort src v) s = .next u ∧ Takes i w u ∧ u.ic.pending.getLsbD 43 = true
            ∧ (match w.dict.displaced.find? fun o => o.id == v.toNat with
              | some d => u.dict.displaced = w.dict.displaced.erase d ∧ u.dict.ops = w.dict.ops
              | none => let o := u.dict.ops[v.toNat % 8]'(Nat.mod_lt _ (by decide))
                o.state = 3 ∧ o.reportReady = false ∧ o.endCsn = w.nat K.csnLast + 1))
        ∧ (∀ (off : BitVec 32) (data : List Byte), HasTurn src false [writeItem K.ttImage off.toNat data] s i w →
          writeBars i (levelOf' w i) [writeItem K.ttImage off.toNat data] true w = none →
          ∃ u, exec (.ttImagePiece src off data) s = .next u ∧ Takes i w u
            ∧ u.dict.uploaded = (if off = 0 then data.length else max w.dict.uploaded (off.toNat + data.length))
            ∧ u.dict.upload = overlay off.toNat data (if off = 0 then [] else w.dict.upload))
        ∧ (∀ v : BitVec 32, Writes src K.latchClear (leBytes 4 v.toNat) s i w →
          ∃ u, exec (.latchClear src v) s = .next u ∧ Takes i w u
            ∧ ∀ j < 32, u.dict.latch.getLsbD j = ((w.dict.latch.getLsbD j && !v.getLsbD j) || bitOf (statusNow u) j)))
    ∧ (
      ∀ (s : State) (k : Fin 8) (dt : Nat), let o := s.dict.ops[k]; let v := s.elapse dt
        (∀ d, displacedAt k s = some d → d.state = 1 → d.reportReady = false → d.stalled = false → s.cores.controlAlive = true →
          ∃ u, exec (.stagedOpStepDone k dt) s = .next u ∧ u.dict.ops[k] = o ∧ { d with reportReady := true } ∈ u.dict.displaced)
        ∧ (displacedAt k s = none → o.state = 1 →
        (o.reportReady = false → o.stalled = false → s.cores.controlAlive = true →
          ∃ u, exec (.stagedOpStepDone k dt) s = .next u ∧ u.dict.ops[k] = { o with reportReady := true }
            ∧ (o.kind = 4 → o.stepsDone = 0 → ∀ h : o.arg < 8, u.dict.imageSlots[o.arg] = []))
        ∧ (o.reportReady = true → serialTurn v = some .report → unnamedWaits s = false →
          (o.stepsDone + 1 < o.stepsTotal → ∃ u, exec (.stagedOpStepReport k dt) s = .next u
            ∧ (u.dict.ops[k]).stepsDone = o.stepsDone + 1 ∧ (u.dict.ops[k]).reportReady = false ∧ (u.dict.ops[k]).state = 1
            ∧ u.dict.lastDeferred = 5)
          ∧ (o.stepsTotal ≤ o.stepsDone + 1 → o.kind = 2 ∨ (o.kind = 4 ∧ slotCheck v o.image = 0) →
            ∃ u, exec (.stagedOpStepReport k dt) s = .next u ∧ (u.dict.ops[k]).state = 2 ∧ (u.dict.ops[k]).endCsn = s.nat K.csnLast + 1
              ∧ u.nat K.csnLast = s.nat K.csnLast + 1 ∧ u.ic.pending.getLsbD 43 = true
              ∧ (o.kind = 4 → ∀ h : o.arg < 8, u.dict.imageSlots[o.arg] = o.image)
              ∧ (o.kind = 2 → ∀ h : o.arg < 8, ∃ p, u.dict.profiles[o.arg] = some p ∧ p.csn = s.nat K.csnLast + 1
                  ∧ p.timetableId = activeId s)))))

/-- Detection, harvest, housekeeping and barn entries at their turn. MANUAL_TRIGGER marks its zone (R247); TRIGGER_NEXT answers
with the oldest record and removes it, or with all ones (R259); HARVEST_RELEASE frees complete records up to its number (R253),
a new HARVEST_AREA_BYTES all complete ones; HK_START starts a run, or is counted missed (R280, R282), and takes no CSN;
HK_CAL_RUN begins or waits for the slot's end (R291); STICKY_CLEAR (R297) and LOG_CLEAR (R330). -/
def Obligations.DetectionAndHousekeepingEntries : Prop :=
  ∀ (src : Src) (s w : State) (i : Initiator),
    (∀ v : BitVec 16, Writes src K.manualTrigger (leBytes 2 v.toNat) s i w →
      ∃ u, exec (.manualTrigger src v) s = .next u ∧ Takes i w u
        ∧ ∀ z, zoneState u z = if z = v.toNat then { zoneState w z with manualAt := (zoneState w z).manualAt ++ [w.clk.now] } else zoneState w z)
    ∧ (∀ row, Reads src (wholeRead K.triggerNext 32) row s i w → ∃ u, exec (.triggerNext src) s = .next u
        ∧ (∀ r rest, w.detect.queue = r :: rest → Answers i 0 (w.nat K.csnLast) (triggerBytes r) u ∧ u.detect = { w.detect with queue := rest })
        ∧ (w.detect.queue = [] → Answers i 0 (w.nat K.csnLast) (List.replicate 32 0xFF) u ∧ u.detect = w.detect))
    ∧ (∀ v : BitVec 32, Writes src K.harvestRelease (leBytes 4 v.toNat) s i w →
      ∃ u, exec (.harvestRelease src v) s = .next u ∧ Takes i w u
        ∧ u.granary.harvests = w.granary.harvests.filter (fun h => !(h.complete && decide (h.seq ≤ v.toNat))))
    ∧ (∀ v : BitVec 64, Writes src K.harvestAreaBytes (leBytes 8 v.toNat) s i w →
      ∃ u, exec (.harvestAreaResize src v) s = .next u ∧ Takes i w u ∧ u.nat K.harvestAreaBytes = v.toNat
        ∧ u.granary.harvests = if v.toNat = w.nat K.harvestAreaBytes then w.granary.harvests
            else w.granary.harvests.filter fun h => !h.complete)
    ∧ (Writes src K.hkStart [1] s i w → ∃ u, exec (.hkStartEntry src) s = .next u ∧ Answers i 0 0 [] u
      ∧ u.nat K.csnLast = w.nat K.csnLast
      ∧ (if w.hk.running || w.hk.calBusy then u.nat K.missedStarts = min (w.nat K.missedStarts + 1) (2 ^ 32 - 1)
            ∧ u.hk = { w.hk with sticky := w.hk.sticky ||| 1 }
         else u.nat K.runCount = (w.nat K.runCount + 1) % 2 ^ 32 ∧ u.nat K.hkState = 1 ∧ u.hk.running = true ∧ u.hk.slot = 0
            ∧ u.hk.slotStart = w.clk.now))
    ∧ (Writes src K.hkCalRun [1] s i w → ∃ u, exec (.hkCalRun src) s = .next u ∧ Takes i w u
      ∧ (if w.hk.running then u.hk = { w.hk with calWaits := true }
         else u.nat K.hkState = 2 ∧ u.nat K.hkCalState = 1 ∧ u.hk.calBusy = true ∧ u.hk.calSince = some w.clk.now))
    ∧ (∀ v : BitVec 8, Writes src K.stickyClear [v] s i w → ∃ u, exec (.stickyClear src v) s = .next u ∧ Takes i w u
      ∧ u.hk = { w.hk with sticky := w.hk.sticky &&& ~~~(v.setWidth 4) })
    ∧ (∀ v : BitVec 8, Writes src K.logClear [v] s i w → ∃ u, exec (.logClear src v) s = .next u ∧ Takes i w u
      ∧ ∀ c : Fin 2, (u.barn.chans[c]).log = if v.getLsbD c then [] else (w.barn.chans[c]).log)

/-- Interrupt, application-core and policy entries at their turn. PENDING_CLEAR clears the bits it names, but for a source that
has had an event in the same SUPCLK cycle (sources 42 and 53 can rise again as the answer leaves), and no other (R412); ROUTES
replaces all four routes of every source that exists (R416, R421); TARGET_DISABLE bits 3 and 2 disable the host vector and the
ring alarm (R413); APP_CORE_RUN := 0 holds the application core, := 1 reloads it (R410); LEVEL_RETURN := 1 has the policy decide
afresh, at once or when the turn of its writes comes (R339), unless level 5 stands on a cause that stands or on a failed
self-test (R433). -/
def Obligations.CoreAndPolicyEntries : Prop :=
  ∀ (src : Src) (s w : State) (i : Initiator),
    (∀ data : List Byte, Writes src K.pendingClear data s i w → ∃ u, exec (.pendingClear src data) s = .next u ∧ Takes i w u
      ∧ ∀ j < 192, j ≠ 42 → j ≠ 53 →
        u.ic.pending.getLsbD j
          = (w.ic.pending.getLsbD j && (!bitOf (leNat (slice 0 24 data)) j || (eventsNow w).getLsbD j)))
    ∧ (∀ data : List Byte, Writes src K.routes data s i w → ∃ u, exec (.routesWrite src data) s = .next u ∧ Takes i w u
      ∧ ∀ (t : Fin 4) (j : Fin 192), (u.ic.routes[t]).getLsbD j
        = (sourceExists j && bitOf ((data.getD (j.val / 2) 0).toNat / 16 ^ (j.val % 2)) t))
    ∧ (∀ v : BitVec 8, Writes src K.targetDisable [v] s i w → ∃ u, exec (.targetDisable src v) s = .next u ∧ Takes i w u
      ∧ u.ic.disabled[0] = w.ic.disabled[0] ∧ u.ic.disabled[1] = w.ic.disabled[1]
      ∧ u.ic.disabled[2] = v.getLsbD 3 ∧ u.ic.disabled[3] = v.getLsbD 2)
    ∧ (Writes src K.appCoreRun [0] s i w → w.nat K.powerState ≠ 2 → ∃ u, exec (.appCoreHold src) s = .next u ∧ Takes i w u
      ∧ u.nat K.appCoreRun = 0 ∧ u.nat K.appCoreState = 0 ∧ u.cores.appLoading = false)
    ∧ (Writes src K.appCoreRun [1] s i w → w.nat K.powerState ≠ 2 → ∃ u, exec (.appCoreRelease src) s = .next u ∧ Takes i w u
      ∧ u.nat K.appCoreRun = 1 ∧ u.nat K.appCoreState = 1 ∧ u.cores.appLoading = true)
    ∧ (Writes src K.levelReturn [1] s i w → ∃ u, exec (.levelReturn src) s = .next u
      ∧ Answers i 0 (w.nat K.csnLast + 1) [] u
      ∧ (if w.nat K.levelInEffect = 5 ∧ (w.nat K.quietCause ≠ 0 ∨ causeStands w 3 = true ∨ causeStands w 4 = true) then
          u.nat K.levelInEffect = 5
         else u.ic.pending.getLsbD 56 = true ∨ u.policy.jobs = [.choice 8]))

/-- Protection entries at their turn (R438 to R449). LIFECYCLE_ADVANCE programs the fuses, in force from the next start, and
entry into Retired revokes every signing slot; KEY_PROGRAM fills one key register; KEY_REVOKE revokes one signing slot; NONCE
answers with the 16 bytes that become the session's; SESSION_OPEN sets the session's level and uses its nonce up; SESSION_CLOSE
returns to Visitor; a window written changes within 2.000 µs; DEBUG_REQUEST moves DEBUG_STATE, and entry into Scan, with both
key registers read back as zero, holds the control core, removes drive and takes a CSN of its own. -/
def Obligations.ProtectionEntries : Prop :=
  ∀ (src : Src) (s w : State) (i : Initiator),
    (∀ v : BitVec 8, Writes src K.lifecycleAdvance [v] s i w → ∃ u, exec (.lifecycleAdvance src v) s = .next u ∧ Takes i w u
      ∧ u.nat K.lifecycle = w.nat K.lifecycle ∧ u.nat K.lifecyclePending = v.toNat ∧ u.sec.fuseLifecycle = v.toNat
      ∧ u.sec.revoked = (if v = 3 then 0xF else w.sec.revoked))
    ∧ (∀ data : List Byte, Writes src K.keyProgram data s i w → ∀ k : Fin 6, data.getD 0 0 = BitVec.ofNat 8 k →
      ∃ u, exec (.keyProgram src data) s = .next u ∧ Takes i w u ∧ u.sec.keys = w.sec.keys.set k (some (slice 8 32 data))
        ∧ u.sec.revoked = w.sec.revoked)
    ∧ (∀ v : BitVec 8, Writes src K.keyRevoke [v] s i w → ∃ u, exec (.keyRevoke src v) s = .next u ∧ Takes i w u
      ∧ u.sec.revoked = w.sec.revoked ||| (1#4 <<< v.toNat) ∧ u.sec.keys = w.sec.keys)
    ∧ (∀ (d : Fin 3) (row : EntryRow), Reads src (wholeRead (K.nonce d) 16) row s i w →
      ∃ u b, exec (.nonce src d) s = .next u ∧ b.length = 16 ∧ Answers i 0 (w.nat K.csnLast) b u
        ∧ u.sec.nonces = w.sec.nonces.set d (some b))
    ∧ (∀ (d : Fin 3) (data : List Byte), Writes src (K.sessionOpen d) data s i w →
      ∃ u, exec (.sessionOpen src d data) s = .next u ∧ Takes i w u ∧ u.nat (K.sessionLevel d) = (data.getD 0 0).toNat
        ∧ u.sec.fails = w.sec.fails.set d 0 ∧ u.sec.nonces = w.sec.nonces.set d none)
    ∧ (∀ d : Fin 3, Writes src (K.sessionClose d) [1] s i w →
      ∃ u, exec (.sessionClose src d) s = .next u ∧ Takes i w u ∧ u.nat (K.sessionLevel d) = 2)
    ∧ (∀ (d : Fin 3) (data : List Byte), Writes src (K.window d) data s i w →
      ∃ u c, exec (.windowWrite src d data) s = .next u ∧ Takes i w u ∧ u.sec.windowNext[d] = some (c, data)
        ∧ w.clk.now ≤ c ∧ c ≤ w.clk.now + 2000)
    ∧ (∀ (v : BitVec 8) (stuck : BitVec 2), Writes src K.debugRequest [v] s i w →
      (v ≠ 3 → ∃ u, exec (.debugRequest src v stuck) s = .next u ∧ Takes i w u ∧ u.nat K.debugState = v.toNat
        ∧ (v = 0 → tapInstr u ≠ .dtmcs ∧ tapInstr u ≠ .dmi ∧ tapInstr u ≠ .engDebug) ∧ u.tap.ir = w.tap.ir)
      ∧ (v = 3 → ∃ u, exec (.debugRequest src v stuck) s = .next u ∧ u.nat K.debugState = (if stuck = 0 then 3 else 0)
        ∧ u.nat K.csnLast = w.nat K.csnLast + 2 ∧ u.nat K.driveEnable = 0 ∧ u.drive.applied = false
        ∧ u.cores.controlAlive = false ∧ u.sec.scanEnabled = decide (stuck = 0)
        ∧ (stuck = 0 → u.sec.keyRegs[0] = none ∧ u.sec.keyRegs[1] = none)))

/-- POWER_REQUEST at its turn (R452, R495): during Brace it waits; else POWER_STATE is 3 and the transition stands; a shut-down
removes drive and ends every running operation as aborted. Power transitions (R451 to R453). Standby turns engines and
application core off: every engine that has not failed is idle, the application core is powered off, its memory lost; a word
found hard stays so (R161). Leaving it starts converter calibration and re-seeds every lesson. Run and Watch are shown as 4
while the device is in Quiet. -/
def Obligations.Power : Prop :=
  (
      ∀ (src : Src) (s w : State) (i : Initiator),
        let asks (v : BitVec 8) (c : Instr) : Prop :=
          Writes src K.powerRequest [v] s i w → ∃ u, exec c s = .next u ∧ Takes i w u ∧ u.nat K.powerRequest = v.toNat
            ∧ (if w.nat K.supplyState = 1 then u.power = { w.power with waiting := some v.toNat } ∧ u.nat K.powerState = w.nat K.powerState
               else u.nat K.powerState = 3 ∧ u.power.transition = some (w.nat K.powerState, v.toNat, w.clk.now)
                ∧ u.power.shutdownAt = (if v = 3 then some w.clk.now else w.power.shutdownAt)
                ∧ (v = 3 → u.drive.applied = false ∧ ∀ k : Fin 8, (u.dict.ops[k]).state
                    = if (w.dict.ops[k]).state = 1 then 3 else (w.dict.ops[k]).state))
        asks 0 (.powerRequestRun src) ∧ asks 1 (.powerRequestWatch src) ∧ asks 2 (.powerRequestStandby src)
          ∧ asks 3 (.powerRequestShutdown src))
    ∧ (
      ∀ (s : State) (was dest at_ dt : Nat), s.power.transition = some (was, dest, at_) → dest ≠ 3 →
        ∃ u, exec (.powerTransitionDone dt) s = .next u ∧ u.power.transition = none
          ∧ (dest = 2 → u.nat K.powerState = 2 ∧ u.nat K.appCoreState = 6 ∧ u.cores.appTcm = [] ∧ u.port.txDisable = true
              ∧ u.barn.idleFrom = some u.clk.now
              ∧ ∀ e : Fin 32, u.nat (K.engineState e) = (if s.nat (K.engineState e) = 4 then 4 else 0)
                ∧ u.eng e = { hard := (s.eng e).hard })
          ∧ (dest ≠ 2 → u.nat K.powerState = (if quiet s = true then 4 else if was = 2 then 1 else dest)
              ∧ u.cores.appTcm = s.cores.appTcm)
          ∧ (dest ≠ 2 → was = 2 → s.nat K.barnState ≠ 6 →
              u.nat K.calState = 1 ∧ u.array.reseedAll = true ∧ u.barn.idleFrom = none ∧ u.nat K.barnState = 2)
          ∧ (dest ≠ 2 → was ≠ 2 → u.array = s.array ∧ u.cores = s.cores ∧ u.nat K.calState = s.nat K.calState))

/-! ### The dictionary -/

/-- DICT_READ and DICT_SHADOW_READ (R342, R346, R348): a scalar entry answers with its value, in effect or as it will be once
every accepted write is; a byte block, read whole, with its bytes, or with "data error" where the read meets an uncorrectable
word of the barn (R321); no CSN is taken and nothing waits. A request that fails its checks answers the refusal's status and
counts in REFUSALS (R345, R358). -/
def Obligations.DictionaryReads : Prop :=
  ∀ (src : Src) (args : ReadArgs) (s w : State) (i : Initiator),
    let item (op : BitVec 8) : Item :=
      { index := args.index, sub := args.sub, op := op, offset := args.offset, length := args.length, generation := args.generation }
    let k := itemKey (item 1)
    (∀ row, Reads src (item 1) row s i w → row.ty.isBlock = false → ∃ u, exec (.dictRead src args) s = .next u
      ∧ Answers i 0 (w.nat K.csnLast) (encodeVal row.ty (readVal w row k)) u ∧ u.nat K.csnLast = w.nat K.csnLast
      ∧ u.dict.shadow = w.dict.shadow)
    ∧ (∀ row, Reads src (item 3) row s i w → row.ty.isBlock = false → ∃ u, exec (.dictShadowRead src args) s = .next u
      ∧ Answers i 0 (w.nat K.csnLast) (encodeVal row.ty (shadowVal w row k)) u ∧ u.nat K.csnLast = w.nat K.csnLast
      ∧ u.dict.shadow = w.dict.shadow)
    ∧ (∀ row, Reads src (item 1) row s i w → row.ty = .dom → args.offset = 0 → k ≠ K.triggerNext → k ≠ K.capData →
      ¬(0x6020 ≤ k / 256 ∧ k / 256 ≤ 0x6022) → ∃ u, exec (.dictRead src args) s = .next u ∧ u.nat K.csnLast = w.nat K.csnLast
      ∧ (if readsMarked (refreshBlock k w) k 0 args.length.toNat then Answers i 10 0 [] u
         else Answers i 0 (w.nat K.csnLast) (slice 0 args.length.toNat (readBlock w k)) u))
    ∧ (∀ r, HasTurn src false [item 1] s i w → readChecks w i (levelOf' w i) (item 1) = .error r →
      ∃ u, exec (.dictRead src args) s = .next u ∧ Answers i r.status 0 [] u
        ∧ u.nat K.refusals = min (w.nat K.refusals + 1) (2 ^ 32 - 1) ∧ u.nat K.csnLast = w.nat K.csnLast)

/-- DICT_WRITE and DICT_GROUP_WRITE (R335, R341, R344, R348, R349) of entries without a command row of their own: those of
access RWB and the other ones of access RW; every write-only entry has a row of its own. The request takes the next CSN. Its RWB
values wait together under it, and the answer names the bell at whose start they take effect; none of them is in effect yet. Its
RW values are in effect at once, the later of two for one entry. No other entry changes, but for what every answer moves. A
request that fails a check is refused whole: no CSN, nothing waits, and no entry changes beside the refusal entries and counters
(R345). -/
def Obligations.DictionaryWrites : Prop :=
  ∀ (src : Src) (items : List Item) (s w : State) (i : Initiator),
    let puts := items.filterMap (putOf w)
    let slot := puts.any fun p => p.key == K.ttActiveSlot && p.val != valIn (shadowStore w) K.ttActiveSlot
    let csn := w.nat K.csnLast + 1
    let waiting := (puts.filter Put.waits).map fun p => (p.key, p.val)
    let now := (puts.filter Put.immediate).map fun p => (p.key, p.val)
    let accepted (u : State) : Prop :=
      u.dict.shadow = w.dict.shadow ++ (if waiting.isEmpty then [] else [{ csn := csn, at_ := w.clk.now, values := waiting }])
        ∧ u.nat K.csnLast = csn
        ∧ u.nat K.csnInEffect = (if waiting.isEmpty then max csn (w.nat K.csnInEffect) else w.nat K.csnInEffect)
        ∧ (∃ a, u.dict.answers[i] = some a ∧ a.status = 0 ∧ a.csn = csn
            ∧ a.effectBell = if waiting.isEmpty then 0xFFFFFFFFFFFFFFFF else effectBell slot u)
        ∧ (∀ p ∈ puts.filter Put.waits, valIn u.dict.store p.key = valIn w.dict.store p.key)
        ∧ ∀ k ∉ requestKeys, valIn u.dict.store k = lastOf w.dict.store now k
    let refused (r : Refuse) (u : State) : Prop :=
      Answers i r.status 0 [] u ∧ u.nat K.csnLast = w.nat K.csnLast ∧ u.nat K.csnInEffect = w.nat K.csnInEffect
        ∧ u.dict.shadow = w.dict.shadow ∧ u.nat K.refusals = min (w.nat K.refusals + 1) (2 ^ 32 - 1)
        ∧ ∀ k ∉ requestKeys ++ refusalKeys, valIn u.dict.store k = valIn w.dict.store k
    let one (a : WriteArgs) : Item :=
      { index := a.index, sub := a.sub, op := 2, length := BitVec.ofNat 32 a.data.length, data := a.data }
    (∀ args : WriteArgs, items = [one args] → HasTurn src false items s i w →
      (writeBars i (levelOf' w i) items true w = none → (∀ p ∈ puts, p.waits = true ∨ p.immediate = true) →
        ∃ u, exec (.dictWrite src args) s = .next u ∧ accepted u)
      ∧ ∀ j r, writeBars i (levelOf' w i) items true w = some (j, r) →
        ∃ u, exec (.dictWrite src args) s = .next u ∧ refused r u)
    ∧ (HasTurn src true items s i w → 1 < items.length → items.length ≤ 32 → (∀ it ∈ items, it.op = 2) →
      (writeBars i (levelOf' w i) items true w = none → (∀ p ∈ puts, p.waits = true ∨ p.immediate = true) →
        ∃ u, exec (.dictGroupWrite src items) s = .next u ∧ accepted u)
      ∧ ∀ j r, writeBars i (levelOf' w i) items true w = some (j, r) →
        ∃ u, exec (.dictGroupWrite src items) s = .next u ∧ refused r u)

/-- The dictionary port (R350): GO submits the request buffer where no request of the port is unanswered, else sets GO_LOST; a
request that breaks R343 is answered 0x0D where it has the next turn; DONE and GO_LOST are W1C; an application core that does
not execute does neither. SHADOW_APPLY_STOPPED (R348): with bells stopped and no switch in progress every waiting write takes
effect, in CSN order: every bell-committed entry then holds the last value that waited for it, or what it held; TT_ACTIVE_SLOT
holds its number; the entries of a timetable's own parameters follow an activation too (R220) and are left out here. While bells
run or the generator is armed nothing is applied. -/
def Obligations.PortAndShadow : Prop :=
  (∀ (s : State) (dt : Nat) (v : BitVec 32), CoreMay 1 1 0x4001F000 dt s → unnamedWaits s = false →
      let c := CoreView 1 dt s
      let req := parseRequest ((List.range 20480).map fun k => sparseGet (fun _ => 0) s.dict.portRequest k)
      let given := presentRequest 3 req .port { c with dict := { c.dict with portBusy := true } }
      ∃ u, exec (.dpGo v dt) s = .next u
        ∧ (if v.getLsbD 0 = false then u.dict.waiting = c.dict.waiting ∧ u.dict.portGoLost = c.dict.portGoLost
              ∧ u.dict.portBusy = c.dict.portBusy
           else if c.dict.portBusy || (c.dict.waiting[3]).isSome then u.dict.portGoLost = true ∧ u.dict.waiting = c.dict.waiting
           else if malformed req = true ∧ serialTurn given = some (.place 3) then u.dict.waiting[3] = none ∧ u.dict.portBusy = false
            ∧ u.dict.portDone = true ∧ u.dict.portStatus = 0x0D ∧ u.ic.pending.getLsbD 42 = true
           else u.dict.portBusy = true ∧ u.dict.waiting = given.dict.waiting ∧ u.dict.store = c.dict.store))
    ∧ (∀ (s : State) (dt : Nat) (v : BitVec 32), CoreMay 1 1 0x4001F004 dt s →
      ∃ u, exec (.dpStatusClear v dt) s = .next u ∧ u.dict.portDone = (s.dict.portDone && !v.getLsbD 30)
        ∧ u.dict.portGoLost = (s.dict.portGoLost && !v.getLsbD 29) ∧ u.dict.portBusy = s.dict.portBusy
        ∧ u.dict.store = (CoreView 1 dt s).dict.store)
    ∧ (∀ (s : State) (dt : Nat) (v : BitVec 32), coreActs 1 s = false →
      exec (.dpGo v dt) s = .next (latchStatus s) ∧ exec (.dpStatusClear v dt) s = .next (latchStatus s))
    ∧ (∀ s : State, s.stopped = true → s.tt.switching = none → s.tt.decided = none →
      ∃ u, exec .shadowApplyStopped s = .next u ∧ u.dict.shadow = []
        ∧ ((∀ e ∈ s.dict.shadow.flatMap ShadowWrite.values, bellCommitted e.1 = true) →
            let vs := s.dict.shadow.flatMap ShadowWrite.values
            u.nat K.bellState = 0
              ∧ u.nat K.csnInEffect = s.dict.shadow.foldl (fun n x => max x.csn n) (s.nat K.csnInEffect)
              ∧ (∀ k, bellCommitted k = true → k ≠ K.ttActiveSlot → ¬(0x3400 ≤ k / 256 ∧ k / 256 ≤ 0x343F) →
                  valIn u.dict.store k = lastOf s.dict.store vs k)
              ∧ u.nat K.ttActiveSlot = natIn (putAll s.dict.store vs) K.ttActiveSlot))
    ∧ ∀ s : State, s.stopped = false → exec .shadowApplyStopped s = .next (latchStatus s)

/-- Sub-index 0x00 of every index that has entries is a U8, CONST, r/r/r, and reads as the highest sub-index defined at that
index, the parameters of the active timetable included (R333). -/
def Obligations.HighestSubIndexes : Prop :=
  ∀ (s : State) (index sub : Nat), index < 0x10000 → 0 < sub → sub < 256 → s.nat K.quietCause ≠ 3 →
    (entryOf s (256 * index + sub)).isSome = true →
    ∃ (row : EntryRow) (top : Nat), entryOf s (256 * index) = some row ∧ row.ty = .u8 ∧ row.access = .const ∧ row.rights = .rRR
      ∧ readVal s row (256 * index) = .num top ∧ sub ≤ top ∧ top < 256 ∧ (entryOf s (256 * index + top)).isSome = true

/-! ### Drive, receiver, housekeeping and barn -/

/-- Conduction and the cap (R88, R94, R100 to R102). A PWM period starts at the end of the one in progress, or at once, and
where drive reaches the line it conducts for its on-time; a gate-mode line fires once a bell, GATE_DELAY and 24.0 ns in, for
GATE_WIDTH, and ends there (R90); a proving pulse starts at its due instant and takes the place of 2 µs of the line's own
conduction; 10.0 ms after INTERLOCK_N rose the hold-off ends; the averages of SINK_POWER lower CAP_SCALE to 1.40 W / average 500
µs later, and raise it by 16 every 1.000 ms while no bell runs. No other line changes. -/
def Obligations.Conduction : Prop :=
  ∀ (s : State) (l : Fin 8),
    let x := s.drive.lines[l]
    let rest (u : State) : Prop := u.dict.store = s.dict.store ∧ ∀ k : Fin 8, k ≠ l → u.drive.lines[k] = s.drive.lines[k]
    (pwmCounts s l = true →
      let t := match x.pwmFrom with
        | some a => a + 4 * pwmTicks s l
        | none => s.clk.now
      let on := if lineMode s l = 4 then onTicks s l else s.nat (K.pwmDuty l)
      Reachable t s ∨ x.pwmFrom = none →
      ∃ u, exec (.pwmPeriodStart l) s = .next u ∧ rest u
        ∧ let y := u.drive.lines[l]
          let a := max t x.pulseUntil
          y.pwmFrom = some t ∧ y.pwmBits = s.nat (K.pwmBits l) ∧ y.pwmDuty = s.nat (K.pwmDuty l)
            ∧ (if driven s l = true ∧ a < t + 4 * on then
                y.conductFrom = some a ∧ y.conductUntil = some (t + 4 * on) ∧ y.judgedAt = none
               else y.conductFrom = none))
    ∧ (∀ b, s.bell.acquiring = some b → b.suppressed = false → driven s l = true → inWatch s = false → lineMode s l = 3 →
        x.fired = false → Reachable (b.startAt + s.nat (K.gateDelay l) + 24) s →
      let t := b.startAt + s.nat (K.gateDelay l) + 24
      ∃ u c, exec (.gateLineFire l) s = .next u ∧ rest u ∧ u.bell.acquiring = some c
        ∧ c.header.has .noLaunch = (x.flagNoLaunch || b.header.has .noLaunch)
        ∧ u.drive.lines[l] = { x with conductFrom := some t, conductUntil := some (t + s.nat (K.gateWidth l)), way := 3,
                                      judgedAt := none, fired := true })
    ∧ (∀ a e, x.conductFrom = some a → x.conductUntil = some e → lineMode s l = 3 → Reachable e s →
      ∃ u, exec (.gateLineEnd l) s = .next u ∧ rest u
        ∧ u.drive.lines[l] = { x with conductFrom := none, conductUntil := none, way := 0, judgedAt := none })
    ∧ (∀ t, needsProof s l = true → proofDue s l = some t → Reachable t s →
      ∃ u, exec (.provingPulseStart l) s = .next u ∧ rest u
        ∧ let y := u.drive.lines[l]
          y.proving = some t ∧ y.lastProve = t ∧ y.pulseUntil = t + 2000
            ∧ (x.conductFrom = none → y.conductFrom = none)
            ∧ (∀ a, x.conductFrom = some a → x.conductUntil = none → y.conductFrom = some (max a (t + 2000)) ∧ y.conductUntil = none)
            ∧ (∀ a e, x.conductFrom = some a → x.conductUntil = some e → t + 2000 < e →
                y.conductFrom = some (max a (t + 2000)) ∧ y.conductUntil = some e)
            ∧ (∀ a e, x.conductFrom = some a → x.conductUntil = some e → t < e → e ≤ t + 2000 → y.conductFrom = none))
    ∧ (s.drive.holdOff = true → Reachable (s.drive.roseAt + 10000000) s →
      ∃ u, exec .driveEnableHoldoffEnd s = .next u ∧ u.drive = { s.drive with holdOff := false } ∧ u.dict.store = s.dict.store)
    ∧ (∀ mw : Nat, Reachable (s.drive.lastAverage + 100000) s →
      ∃ u, exec (.dissipationAverage mw) s = .next u ∧ u.nat K.sinkPower = min mw 65535 ∧ u.drive.lines = s.drive.lines
        ∧ u.drive.lastAverage = s.drive.lastAverage + 100000
        ∧ (mw ≤ 1500 → u.drive.capNext = s.drive.capNext)
        ∧ (1500 < mw →
            let x := s.nat K.capScale * 1400
            ∃ v, (v = x / mw ∨ (x % mw ≠ 0 ∧ v = x / mw + 1))
              ∧ u.drive.capNext = s.drive.capNext ++ [(v, s.drive.lastAverage + 100000)])
        ∧ (u.drive.below135.isSome = decide (mw < 1350)))
    ∧ (∀ v t w, s.drive.capNext = (v, t) :: w → Reachable (t + 500000) s →
      ∃ u, exec .capScaleApply s = .next u ∧ u.nat K.capScale = v ∧ u.drive.capNext = w ∧ u.drive.cappedBell = true)
    ∧ (∀ t, s.drive.below135 = some t → s.running = false → s.nat K.capScale < 255 →
        Reachable (max (t + 10000000) (s.drive.lastRaise + 1000000)) s →
      ∃ u, exec .capScaleRaise s = .next u ∧ u.nat K.capScale = min 255 (s.nat K.capScale + 16)
        ∧ u.drive.lastRaise = max (t + 10000000) (s.drive.lastRaise + 1000000))

/-- Judgements (R93, R94, R96 to R98). On-chip: "open" from 1 mA up at less than half the demand, "short" above SHORT_THRESHOLD
× 100 mV; external: "open" below half with the gate at its limit, "over-current" above 1.2 times the demand. A fault newly found
is latched and counted, and source 8 + l is pending; short and over-current remove the line's drive. A proving verdict sets
LINE_STATUS [3], and "no-launch" flags follow it. Where LINE_DISABLE lets the policy act, a line found "open" is also disabled
by a decision, at once if nothing else waits for the serialiser, else at its turn (R339, R427). INTERLOCK_N low removes all
drive and stops the excitation (R66, R99). -/
def Obligations.LineFaults : Prop :=
  (∀ (s : State) (l : Fin 8) (current pin : Nat) (limit : Bool) (t : Nat), s.nat K.lineDisable ≠ 1 →
      judgementDue s.drive.lines[l] = some t → Reachable t s →
      let x := s.drive.lines[l]
      let dem := onCurrent s l
      let cur := current * 100
      let isOpen := if external s l then decide (cur * 2 < dem) && limit else decide (1000 ≤ dem ∧ cur * 2 < dem)
      let isShort := !external s l && decide (s.nat (K.shortThreshold l) * 100 < pin)
      let isOver := external s l
        && decide ((0 < dem ∧ dem * 12 < cur * 10) ∨ (dem = 0 ∧ fullScale s l < cur * 10))
      let one (new old : Bool) : Nat := if new && !old then 1 else 0
      let found := one isOpen x.openF + one isShort x.shortF + one isOver x.overF
      ∃ u, exec (.complianceJudgement l current pin limit) s = .next u
        ∧ u.nat (K.lineCurrent l) = min current 65535 ∧ u.nat (K.pinVoltage l) = min pin 65535
        ∧ (let y := u.drive.lines[l]
           y.openF = (x.openF || isOpen) ∧ y.shortF = (x.shortF || isShort) ∧ y.overF = (x.overF || isOver) ∧ y.darkF = x.darkF
            ∧ y.removed = (x.removed || (isShort && !x.shortF) || (isOver && !x.overF)))
        ∧ (s.nat (K.faultCount l) + found < 2 ^ 32 → u.nat (K.faultCount l) = s.nat (K.faultCount l) + found)
        ∧ (0 < found → u.ic.pending.getLsbD (8 + l.val) = true)
        ∧ ∀ k : Fin 8, k ≠ l → u.drive.lines[k] = s.drive.lines[k])
    ∧ (∀ (s : State) (l : Fin 8) (current pin : Nat) (limit : Bool) (t : Nat), s.nat K.lineDisable = 1 →
      judgementDue s.drive.lines[l] = some t → Reachable t s →
      let fs := judge s l (onCurrent s l) (current * 100) pin limit
      ∃ u, exec (.complianceJudgement l current pin limit) s = .next u ∧ u.nat (K.lineCurrent l) = min current 65535
        ∧ (.openLine ∈ fs → (u.drive.lines[l]).openF = true)
        ∧ (.openLine ∈ fs → (s.drive.lines[l]).openF = false → u.ic.pending.getLsbD (8 + l.val) = true
            ∧ (s.policy.disabled.getLsbD l = false →
                (u.policy.disabled.getLsbD l = true ∧ u.ic.pending.getLsbD 56 = true) ∨ .line l ∈ u.policy.jobs)
            ∧ (s.policy.disabled.getLsbD l = false → OwnFree s →
                u.policy.disabled.getLsbD l = true ∧ u.ic.pending.getLsbD 56 = true)))
    ∧ (∀ (s : State) (l : Fin 8) (current pin t : Nat), s.nat K.lineDisable ≠ 1 → (s.drive.lines[l]).proving = some t →
      Reachable (t + 1500) s →
      let fs := judge s l 1000 (current * 100) pin false
      let flags := fs.contains .openLine && s.nat (K.darkCheck l) == 1
      ∃ u, exec (.provingVerdict l current pin) s = .next u ∧ (u.drive.lines[l]).proving = none
        ∧ (u.drive.lines[l]).proveOpen = fs.contains .openLine
        ∧ (u.drive.lines[l]).flagNoLaunch = (flags || (!fs.isEmpty && (s.drive.lines[l]).flagNoLaunch))
        ∧ (flags = true → ∀ b, u.bell.acquiring = some b → b.header.has .noLaunch = true))
    ∧ (∀ (s : State) (dt : Nat),
      (s.drive.interlockLow = false → ∃ u, exec (.interlockAssert dt) s = .next u ∧ u.drive.interlockLow = true
        ∧ u.nat K.driveEnable = 0 ∧ u.nat K.interlockCount = min (s.nat K.interlockCount + 1) (2 ^ 32 - 1)
        ∧ u.drive.applied = false ∧ u.drive.restoreAt = none ∧ u.drive.holdOff = false ∧ u.exc.playing = false ∧ u.exc.gates = 0
        ∧ u.ic.pending.getLsbD 16 = true)
      ∧ (s.drive.interlockLow = true → ∃ u, exec (.interlockRelease dt) s = .next u
        ∧ u.drive = { s.drive with interlockLow := false, roseAt := (s.elapse dt).clk.now, holdOff := true }
        ∧ u.nat K.driveEnable = s.nat K.driveEnable))

/-- The ends of long work (R110, R130, R135, R253, R262 to R268, R276): a capture's record stands, complete or cut by an
overrun; the oldest DTS block is LAST_BLOCK and joins its period, which a block of another size ends (the model's reading, log
entry 92); an ended period becomes LAST_PROFILE with its words and sequence number; the learned maximum becomes TRACE_END_REF;
of measured gains within 0.9 to 1.1 the correcting factors, which bring each converter to full scale, take effect 3.2 ms after
the calibration's start (their rounding is the model's, log entry 22), others fail it whole; a formed harvest is complete.
Captures, blocks, profiles and harvests have their source pending. -/
def Obligations.WorkEnds : Prop :=
  ∀ s : State,
    (∀ b, s.nat K.capState = 2 → capturedBell s = some b →
      let n := if 5 ≤ s.capture.point ∧ b.launchFixed = false then 0 else min s.capture.length (capRoom s.capture b)
      let xs := capturedSamples b s
      (s.capture.taken = some b → ∃ u, exec .captureComplete s = .next u ∧ u.nat K.capState = 3
        ∧ u.capture.record = capRecord s s.capture b xs n false ∧ u.ic.pending.getLsbD 21 = true)
      ∧ ∀ m, ∃ u, exec (.captureOverrun m) s = .next u ∧ u.nat K.capState = 4
        ∧ u.capture.record = capRecord s s.capture b xs (min m n) true ∧ u.ic.pending.getLsbD 21 = true)
    ∧ (∀ b t rest, s.raman.complete = (b, t) :: rest →
      let q := s.profiler.period.filter fun q => decide (q.points = b.points)
      let p := joinBlock b t q
      ∃ u, exec .dtsBlockCopyDone s = .next u ∧ u.raman.complete = rest ∧ u.raman.last = some b
        ∧ u.block K.lastBlock = blockBytes b ∧ u.ic.pending.getLsbD 22 = true
        ∧ (if b.short || decide (p.firstTime + s.nat K.updatePeriod * 1000000000 ≤ p.endTime) then
            u.profiler.period = none ∧ ∃ cal, u.profiler.ended = some { p with cal }
           else u.profiler.period = some p ∧ match s.profiler.period with
             | some o => if o.points = b.points then u.profiler.ended = s.profiler.ended
                 else ∃ cal, u.profiler.ended = some { o with cal }
             | none => u.profiler.ended = s.profiler.ended))
    ∧ (∀ p, s.profiler.ended = some p →
      ∃ u, exec .profileStore s = .next u ∧ u.profiler.ended = none ∧ u.nat K.profileSeq = s.profiler.nextSeq
        ∧ u.profiler.nextSeq = (s.profiler.nextSeq + 1) % 2 ^ 32 ∧ u.ic.pending.getLsbD 23 = true
        ∧ ∀ j < p.points, fieldAt (64 + 2 * j) 2 (u.block K.lastProfile) = profileWord p u.profiler.solved j)
    ∧ (s.fibre.learnLeft = 1 → ∃ u, exec .traceEndLearnDone s = .next u ∧ u.nat K.traceEndRef = s.fibre.learnMax
        ∧ u.fibre = { s.fibre with learnLeft := 0 })
    ∧ (∀ (gains : Vector (BitVec 16) 4) (skews : Vector Int 4) (t : Nat), s.chain.calSince = some t → Reachable (t + 3200000) s →
      ∃ u, exec (.converterCalDone gains skews) s = .next u ∧ u.chain.calSince = none
        ∧ ((∀ c : Fin 4, 9 * 32768 ≤ 10 * (gains[c]).toNat ∧ 10 * (gains[c]).toNat ≤ 11 * 32768) →
            u.nat K.calState = 2 ∧ u.chain.skew = skews ∧ ∀ c : Fin 4, u.nat (K.calGain c)
              = (2 ^ 31 + (gains[c]).toNat) / (2 * (gains[c]).toNat))
        ∧ ((∃ c : Fin 4, 10 * (gains[c]).toNat < 9 * 32768 ∨ 11 * 32768 < 10 * (gains[c]).toNat) →
            u.nat K.calState = 3 ∧ u.chain.skew = s.chain.skew ∧ ∀ c : Fin 4, u.nat (K.calGain c) = s.nat (K.calGain c)))
    ∧ (∀ (seq : BitVec 32) (dt : Nat), (s.granary.harvests.any fun h => h.seq == seq.toNat && h.forming && !h.complete) = true →
      ∃ u, exec (.harvestComplete seq dt) s = .next u ∧ u.granary.harvests.length = s.granary.harvests.length
        ∧ u.nat K.harvestCount = min (s.nat K.harvestCount + 1) (2 ^ 32 - 1) ∧ u.ic.pending.getLsbD 37 = true
        ∧ ∀ (i : Nat) (h : Harvest), s.granary.harvests[i]? = some h → ∃ g, u.granary.harvests[i]? = some g ∧ g.seq = h.seq
          ∧ (if h.seq = seq.toNat ∧ h.forming = true then g.complete = true else g = h))

/-- The starts of a run (R280, R282, R283): the timer at its instant, which sets the next; in mode 2 a PWM on-time start plus
PWM_DELAY; HK_START by the application core, for the control core only reads the block (Table 16-2). A start during a run or a
self-calibration is counted missed. HK_STATUS [11:8] is W1C (R295). A core that does not execute writes nothing, and one whose
protection or window bars the access takes the fault (R402, R446). Slots (R281, R284 to R286, R290, R291). Each sample joins the
slot's conversions at its instant. At a slot's end each input of it, one of Table 11-1 or none as R279 requires, has its new
CODE_FINE, CODE and VALUE and carries the low 8 bits of RUN_COUNT; converted twice, the second result stays. A test slot writes
TEST_CODE instead, keeps CODE, CODE_FINE, VALUE, RESISTANCE, TEMPERATURE and the limit monitors, and sets PATH_FAULT where the
code is more than 24 from 16 × TEST_DAC, else clears it. The next slot, the waiting self-calibration, or the end of the run
follows, where changed start settings take effect (R283) and after which no sensor is excited; results of source 0x23 then reach
the thermal policy (R428). A self-calibration whose 68 factors lie within their limits puts them into effect. -/
def Obligations.Housekeeping : Prop :=
  (
      let started (v u : State) : Prop :=
        if v.hk.running || v.hk.calBusy then
          u.nat K.missedStarts = min (v.nat K.missedStarts + 1) (2 ^ 32 - 1) ∧ u.hk.sticky = v.hk.sticky ||| 1
            ∧ u.hk.running = v.hk.running ∧ u.hk.slot = v.hk.slot ∧ u.nat K.runCount = v.nat K.runCount
        else u.nat K.runCount = (v.nat K.runCount + 1) % 2 ^ 32 ∧ u.nat K.hkState = 1 ∧ u.hk.running = true ∧ u.hk.slot = 0
          ∧ u.hk.raws = [] ∧ u.hk.slotStart = u.clk.now ∧ u.nat K.missedStarts = v.nat K.missedStarts ∧ u.hk.settings = v.dict.store
      let barred (core : Fin 2) (a : Nat) (s u : State) : Prop := u.hk = s.hk ∧ CoreFaults core 1 a u
      (∀ (s : State) (t : Nat), s.hk.nextTimer = some t → natIn (startSettings s) K.hkMode = 1 → Reachable t s →
          ∃ u, exec .hkTimerStart s = .next u ∧ u.clk.now = t ∧ started s u
            ∧ u.hk.nextTimer = some (t + natIn (startSettings s) K.timerPeriod * 1000))
        ∧ (∀ s : State, s.hk.nextTimer = none ∨ natIn (startSettings s) K.hkMode ≠ 1 → exec .hkTimerStart s = .next (latchStatus s))
        ∧ (∀ (s : State) (e : Nat) (rest : List Nat), s.hk.edges = e :: rest → natIn (startSettings s) K.hkMode = 2 →
          let t := (e + 10 * natIn (startSettings s) K.pwmDelay + 3) / 4 * 4
          Reachable t s → ∃ u, exec .hkPwmEdgeStart s = .next u ∧ u.clk.now = t ∧ started s u ∧ u.hk.edges = rest)
        ∧ (∀ s : State, s.hk.edges = [] ∨ natIn (startSettings s) K.hkMode ≠ 2 → exec .hkPwmEdgeStart s = .next (latchStatus s))
        ∧ (∀ (s : State) (dt : Nat) (v : BitVec 32), CoreMay 1 1 0x40040004 dt s →
          ∃ u, exec (.hkStartRegister 1 v dt) s = .next u
            ∧ (if v.getLsbD 0 = true then started (CoreView 1 dt s) u else u.hk = s.hk ∧ u.dict.store = (CoreView 1 dt s).dict.store))
        ∧ (∀ (s : State) (dt : Nat) (v : BitVec 32), CoreMay 1 1 0x40040000 dt s →
          ∃ u, exec (.hkStatusClear 1 v dt) s = .next u ∧ u.hk = { s.hk with sticky := s.hk.sticky &&& ~~~(v.extractLsb' 8 4) }
            ∧ u.dict.store = (CoreView 1 dt s).dict.store)
        ∧ (∀ (s : State) (dt : Nat) (v : BitVec 32),
          (coreActs 0 s = true → (∃ u, exec (.hkStartRegister 0 v dt) s = .next u ∧ barred 0 0x40040004 s u)
            ∧ ∃ u, exec (.hkStatusClear 0 v dt) s = .next u ∧ barred 0 0x40040000 s u)
          ∧ (CoreBarred 1 1 0x40040004 dt s → ∃ u, exec (.hkStartRegister 1 v dt) s = .next u ∧ barred 1 0x40040004 s u)
          ∧ (CoreBarred 1 1 0x40040000 dt s → ∃ u, exec (.hkStatusClear 1 v dt) s = .next u ∧ barred 1 0x40040000 s u)
          ∧ ∀ c : Fin 2, coreActs c s = false → exec (.hkStartRegister c v dt) s = .next (latchStatus s)
            ∧ exec (.hkStatusClear c v dt) s = .next (latchStatus s)))
    ∧ (
      ∀ s : State,
        let h := s.hk
        let w := runSlot s h.slot
        (∀ (a b : BitVec 12) (oa ob : Bool), h.running = true → h.raws.length < slotConversions w →
          Reachable (h.slotStart + slotSettle w * 100 + h.raws.length * 1000) s →
          ∃ u, exec (.hkSample a b oa ob) s = .next u
            ∧ u.hk = { h with raws := h.raws ++ [(a.toNat, b.toNat)], openA := h.openA || oa, openB := h.openB || ob }
            ∧ u.dict.store = s.dict.store)
        ∧ (h.running = true → h.raws.length = slotConversions w →
          (slotA w < 48 ∨ slotA w = 255) → (slotB w < 48 ∨ slotB w = 255) →
          Reachable (h.slotStart + slotLength w) s →
          let m := h.settings
          let t := h.slotStart + slotLength w
          let fine (code : Nat) (second opened : Bool) : Nat :=
            if opened && (sensorOf code).isSome && !slotTest w then 65520
            else codeFine m second (h.raws.map fun r => if second then r.2 else r.1)
          let result (code f : Nat) (v : State) : Prop :=
            if slotTest w = false then
              v.nat (K.hkCodeFine code) = f ∧ v.nat (K.hkCode code) = min 4095 ((f + 8) / 16) ∧ v.num (K.hkValue code) = hkValueOf m code f
                ∧ (hkInput v code).runSeq = s.nat K.runCount % 256
            else
              let x := min 4095 ((f + 8) / 16)
              v.nat (K.testCode code) = x
                ∧ (if 24 < ((x : Int) - 16 * natIn m K.testDac).natAbs then
                    bitOf (v.nat (K.hkInFlags code)) 5 = true ∧ v.hk.sticky.getLsbD 1 = true ∧ v.ic.pending.getLsbD 40 = true
                   else bitOf (v.nat (K.hkInFlags code)) 5 = false)
          ∃ v, exec .hkSlotEnd s = .next (latchStatus (watchThermal (thermalReadings (s.reach t)) v))
            ∧ (slotB w < 48 → result (slotB w) (fine (slotB w) true h.openB) v)
            ∧ (slotA w < 48 → slotA w ≠ slotB w → result (slotA w) (fine (slotA w) false h.openA) v)
            ∧ (slotTest w = true → v.hk.inputs = h.inputs ∧ ∀ code < 48, v.nat (K.hkCode code) = s.nat (K.hkCode code)
                ∧ v.nat (K.hkCodeFine code) = s.nat (K.hkCodeFine code) ∧ v.num (K.hkValue code) = s.num (K.hkValue code)
                ∧ ∀ c < 4, v.num (K.resistance c) = s.num (K.resistance c) ∧ v.nat (K.temperature c) = s.nat (K.temperature c))
            ∧ let changed := ∃ k ∈ hkStartKeys, valIn m k ≠ valIn s.dict.store k
              let renewed : Prop := if changed then v.hk.nextTimer = (if s.nat K.hkMode = 1 then some t else none) ∧ v.hk.edges = []
                else v.hk.nextTimer = h.nextTimer ∧ v.hk.edges = h.edges
              if h.calWaits then v.hk.running = false ∧ v.hk.calBusy = true ∧ v.hk.calWaits = false ∧ v.nat K.hkState = 2
                  ∧ v.nat K.hkCalState = 1 ∧ v.hk.calSince = some t ∧ renewed
               else if h.slot + 1 < natIn m K.hkSeqLength then v.hk.running = true ∧ v.hk.slot = h.slot + 1 ∧ v.hk.raws = []
                  ∧ v.hk.slotStart = t ∧ v.hk.settings = m
               else if s.nat K.hkMode = 3 then v.hk.running = true ∧ v.hk.slot = 0 ∧ v.hk.slotStart = t
                  ∧ v.nat K.runCount = (s.nat K.runCount + 1) % 2 ^ 32 ∧ renewed
               else v.hk.running = false ∧ v.nat K.hkState = 0 ∧ (∀ c, excitationNow v c = 0) ∧ renewed)
        ∧ (∀ (factors : List Int) (t : Nat), h.calSince = some t → Reachable (t + 1600000) s →
          ∃ u, exec (.hkSelfCalDone factors) s = .next u ∧ u.hk.calBusy = false ∧ u.hk.calSince = none
            ∧ u.nat K.hkState = (if s.nat K.hkMode = 3 then 1 else 0)
            ∧ (h.renewWaits = true → u.hk.renewWaits = false
                ∧ u.hk.nextTimer = if s.nat K.hkMode = 1 then some (t + 1600000) else none)
            ∧ ((∀ i < 68, factorOk i (factors.getD i 0) = true) → u.nat K.hkCalState = 2
                ∧ ∀ i < 68, u.num (factorKeys.getD i 0) = factors.getD i 0)
            ∧ ((∃ i < 68, factorOk i (factors.getD i 0) = false) → u.nat K.hkCalState = 3
                ∧ ∀ i < 68, u.num (factorKeys.getD i 0) = s.num (factorKeys.getD i 0))))

/-- Requests (R307, R310, R311, R314, R315, R317, R327, R403). A trained barn takes a read into its channel's queue, of the
scheduled class for requesters 0 to 3 and 13, before those requests of its own cycle that R311 accepts after it, with the bytes
that the writes accepted before it left (log entries 84, 44). A write enters the write queue, where newer bytes replace older
and reads of the line see them; writes of its cycle that R311 accepts after it keep theirs; one that finds 64 entries waits
there. A request in self-refresh wakes the barn; one while an entry is prepared cancels it. A supervisor core's request outside
its area is its access fault. No line lies at or above BARN_BYTES: the one stop of the model. -/
def Obligations.BarnRequests : Prop :=
  ∀ (s : State) (r : Fin 14) (line : BitVec 29) (dt : Nat) (wr : Option (List (Fin 64 × Byte))),
    let st := barnState s
    let v := s.elapse dt
    let l := line.toNat
    let c := chanOf s l
    let now := v.clk.now
    let me : Rank := (decide (r.val ≤ 3 ∨ r.val = 13), r.val)
    let later := acceptedAfter (s.chan c) now l me
    st = 2 ∨ st = 3 ∨ st = 4 ∨ st = 5 →
    (s.nat K.barnBytes ≤ 64 * l → exec (.barnRequest r line wr dt) s = .fault .noSuchBarnAddress)
    ∧ (64 * l < s.nat K.barnBytes → requesterMay r l s = false →
      let core : Fin 2 := if r = 9 then 0 else 1
      (coreActs core s = false → exec (.barnRequest r line wr dt) s = .next (latchStatus s))
      ∧ (coreActs core s = true → ∃ u, exec (.barnRequest r line wr dt) s = .next u ∧ u.barn = v.barn
          ∧ CoreFaults core (if wr.isSome then 1 else 0) (0x80000000 + (64 * l - areaBase s 6)) u))
    ∧ (64 * l < s.nat K.barnBytes → requesterMay r l s = true →
      ∃ u, exec (.barnRequest r line wr dt) s = .next u
        ∧ (barnState v = 3 → v.barn.idleFrom ≠ none →
            u.nat K.barnState = 2 ∧ u.nat K.srCancelCount = min (s.nat K.srCancelCount + 1) (2 ^ 32 - 1))
        ∧ (barnState v = 4 → u.nat K.barnState = 5 ∧ u.nat K.srWakeCount = min (s.nat K.srWakeCount + 1) (2 ^ 32 - 1)
            ∧ ∃ x, u.barn.exitAt = some x ∧ now ≤ x ∧ x ≤ now + 1200)
        ∧ u.barn.chans[1 - c] = s.barn.chans[1 - c]
        ∧ (wr = none → (u.chan c).writes = (s.chan c).writes ∧ (∀ a, barnByte u a = barnByte s a)
            ∧ ∃ (q : BarnReq) (a b : List BarnReq), q.requester = r.val ∧ q.scheduled = me.1 ∧ q.line = l ∧ q.at_ = now
              ∧ q.metSr = decide (barnState v = 4) ∧ q.marks = none
              ∧ (later = [] → q.data = readBarn s (64 * l) 64
                  ∧ q.given = ((queuedWrite s l).map fun w => w.bytes.map Prod.fst).getD [])
              ∧ (∀ x ∈ later.head?, q.data = x.data ∧ q.given = x.given)
              ∧ let after_ (o : BarnReq) : Prop := o.at_ = now ∧ acceptsFirst me o.rank = true
                (s.chan c).queue = a ++ b ∧ (u.chan c).queue = a ++ q :: b ∧ (∀ o ∈ a, ¬after_ o) ∧ ∀ o ∈ b.head?, after_ o)
        ∧ (∀ d, wr = some d →
            let mine := withLater (maskBytes d) later
            (u.chan c).lastWrite = some (r.val, l, decide (barnState v = 4))
            ∧ (u.chan c).queue.length = (s.chan c).queue.length
            ∧ (∀ (i : Nat) (o : BarnReq), (s.chan c).queue[i]? = some o → ¬(o.at_ = now ∧ o.line = l ∧ acceptsFirst me o.rank = true) →
                (u.chan c).queue[i]? = some o)
            ∧ (∃ w ∈ (u.chan c).writes, w.line = l ∧ ∀ b ∈ mine, b ∈ w.bytes)
            ∧ ((s.chan c).writes.length < 64 ∨ (∀ o ∈ (s.chan c).writes, o.at_ ≠ now) →
                ∀ a, a / 64 ≠ l → barnByte u a = barnByte s a)
            ∧ ((s.chan c).writes.length < 64 ∨ (queuedWrite s l).isSome = true →
                ∀ i < 64, barnByte u (64 * l + i) = match mine.find? fun b => b.1 == i with
                  | some b => b.2
                  | none => barnByte s (64 * l + i))))

/-- The read in turn (R311, R312, R314, R315, R318, R321): the oldest scheduled one, else the next background requester's. It
returns its line as it stood at its acceptance. A corrected word is counted, logged and, unless a later write of the line has
been performed, written back; an uncorrectable or marked word is counted by its kind, answered with the error response for that
word only, latches the barn's condition, and stays bad; a supervisor core takes a fault of it. A write is issued (R314, R316,
R317), the oldest entry of the queue, in a burst or while no read is ready. Its bytes stand in the devices and no other byte
changes but those of the error log, which the model holds in the barn too (log entry 76). A word that it covers whole is good; a
bad word that it covers in part is stored as poison. Reads that are queued keep their data. What waits beyond the 64 entries
enters as places come free, in its order. Upkeep and alerts (R319, R320, R321, R323, R324, R326, R327). Refresh keeps its
interval in each rank, with at most two postponed (which is free, log entry 87); recalibration makes at most one step per rank
and tREFI (in how many, free, log entry 93), in each rank that is due; a scrub pass ends at most once per SCRUB_PERIOD and
changes no byte; in Standby without requests the queues drain and BARN_STATE is 4. An alert of 12 cycles or more is a command
parity error: retried once, then a failure of the reads that the command serves; a shorter one a write CRC error: retried three
times, each line for itself, then the write is lost and its line marked. -/
def Obligations.BarnService : Prop :=
  (
      ∀ (s : State) (c : Fin 2) (dt i : Nat) (r : BarnReq),
        let queue := (s.chan c).queue
        let shown (q : BarnReq) : Nat × Nat × Nat := (q.requester, q.line, q.at_)
        let marks := r.marks.getD (lineMarks s r.line)
        nextRead (s.chan c) = some i → queue[i]? = some r → chanOf s r.line = c →
        let done (bad : List Nat) (u : State) : Prop := (u.chan c).queue.map shown = (queue.eraseIdx i).map shown
          ∧ (u.chan c).lastRead = some { requester := r.requester, line := r.line, data := r.data, bad, metSr := r.metSr }
          ∧ (bad ≠ [] → (r.requester = 9 ∨ r.requester = 10) → u.cores.accessFault = true)
        let turn (q : BarnReq) : Nat := (q.requester + 13 - (s.chan c).lastTurn) % 14
        ((∃ q ∈ queue, q.scheduled = true) → r.scheduled = true ∧ ∀ q ∈ queue.take i, q.scheduled = false)
        ∧ ((∀ q ∈ queue, q.scheduled = false) → (s.chan c).lastTurn < 14 → ∀ q ∈ queue, q.requester < 14 → turn r ≤ turn q)
        ∧ (r.full = true ∨ marks = [] →
            ∃ u, exec (.barnReadComplete c [] dt) s = .next u ∧ done [] u ∧ (u.chan c).queue = queue.eraseIdx i
              ∧ (u.chan c).writes = (s.chan c).writes
              ∧ if r.scheduled = true ∧ r.at_ + 6020 < (s.elapse dt).clk.now then
                  u.nat K.schedLate = min (s.nat K.schedLate + 1) (2 ^ 32 - 1) ∧ u.ic.pending.getLsbD 48 = true
                else u.nat K.schedLate = s.nat K.schedLate)
        ∧ (r.full = false → marks = [] → ∀ (w : Fin 8) (syn : BitVec 8),
            (∃ u, exec (.barnReadComplete c [(w, .corrected syn)] dt) s = .next u ∧ done [] u
              ∧ u.nat (K.ceCount c) = (s.nat (K.ceCount c) + 1) % 2 ^ 64 ∧ u.ic.pending.getLsbD 46 = true
              ∧ (u.chan c).log.length = min 32 ((s.chan c).log.length + 1) ∧ (r.marks = none → ∃ x ∈ (u.chan c).writes, x.line = r.line))
            ∧ ∃ u, exec (.barnReadComplete c [(w, .uncorrectable syn)] dt) s = .next u ∧ done [w.val] u
              ∧ u.nat (K.ueCount c) = min (s.nat (K.ueCount c) + 1) (2 ^ 32 - 1) ∧ u.ic.pending.getLsbD 47 = true
              ∧ (u.chan c).log.length = min 32 ((s.chan c).log.length + 1) ∧ u.dict.latch.getLsbD 7 = true
              ∧ (r.marks = none → wordMark u (64 * r.line + 8 * w) = .damaged))
        ∧ ∀ (w : Nat) (m : WordMark), r.full = false → marks = [(w, m)] →
            ∃ u, exec (.barnReadComplete c [] dt) s = .next u ∧ done [w] u ∧ u.ic.pending.getLsbD 47 = true ∧ u.dict.latch.getLsbD 7 = true
              ∧ (if m = .poison then u.nat (K.poisonReads c) = min (s.nat (K.poisonReads c) + 1) (2 ^ 32 - 1)
                    ∧ u.nat (K.ueCount c) = s.nat (K.ueCount c)
                 else u.nat (K.ueCount c) = min (s.nat (K.ueCount c) + 1) (2 ^ 32 - 1)
                    ∧ u.nat (K.poisonReads c) = s.nat (K.poisonReads c)))
    ∧ (
      ∀ (s : State) (c : Fin 2) (dt : Nat) (w : BarnWrite) (rest : List BarnWrite),
        (s.chan c).writes = w :: rest → (s.chan c).burst = true ∨ (s.chan c).queue = [] →
        (w.bytes.map Prod.fst).Nodup → (∀ b ∈ w.bytes, b.1 < 64) →
        let covered (k : Nat) : Nat := (w.bytes.filter fun b => b.1 / 8 == k).length
        let mark (v : State) (k : Nat) : WordMark := wordMark v (64 * w.line + 8 * k)
        let inLog (a : Nat) : Prop := logPlace s ≤ a ∧ a < logPlace s + 1024
        let kept (q : BarnReq) : Nat × Nat × Nat × List Byte := (q.requester, q.line, q.at_, q.data)
        ∃ u, exec (.barnWriteBurst c dt) s = .next u ∧ (u.chan c).queue.map kept = (s.chan c).queue.map kept
          ∧ ((u.chan c).writes.take 64).map BarnWrite.line = (rest.take 64).map BarnWrite.line
          ∧ (rest.length ≤ 63 → (u.chan c).writes.map BarnWrite.line = rest.map BarnWrite.line)
          ∧ (u.chan c).burst = ((s.chan c).burst && decide (16 < rest.length))
          ∧ (∀ b ∈ w.bytes, dramByte u (64 * w.line + b.1) = b.2)
          ∧ (∀ a, ¬inLog a → (∀ b ∈ w.bytes, a ≠ 64 * w.line + b.1) → dramByte u a = dramByte s a)
          ∧ (∀ k < 8, covered k = 8 → mark u k = .good)
          ∧ (w.bytes.length = 64 → rest.length ≤ 63 → (u.chan c).writes = rest)
          ∧ ((∀ i < 64, ¬inLog (64 * w.line + i)) →
              ∀ k < 8, 0 < covered k → covered k < 8 → mark s k ≠ .good → mark u k = .poison))
    ∧ (
      ∀ (s : State) (c : Fin 2),
        let inLog (a : Nat) : Prop := logPlace s ≤ a ∧ a < logPlace s + 1024
        (let x := s.chan c
          let r := earliest s c x.lastRefresh
          chanInUse s c = true → barnAwake s = true → Reachable (x.lastRefresh[r] + refreshInterval s) s →
          ∃ u, exec (.refreshDue c) s = .next u ∧ u.dict.store = s.dict.store ∧ u.barn.chans[1 - c] = s.barn.chans[1 - c]
            ∧ ∃ kept ≤ min 2 (x.owed[r] + 1), u.barn.chans[c] = { x with
                lastRefresh := vmod x.lastRefresh r (· + refreshInterval s), owed := x.owed.set r kept,
                refreshes := vmod x.refreshes r (· + (x.owed[r] + 1 - kept)) })
        ∧ (∀ dt, let v := s.elapse dt
          let x := s.chan c
          chanInUse s c = true → barnAwake v = true →
          (∀ r, (ranksOf v c = 2 ∨ r = 0) → recalDue v c r = true → ∃ q, recalRank v c = some q)
          ∧ ∀ r, recalRank v c = some r →
            x.lastRecal[r] + refreshInterval s ≤ v.clk.now
              ∧ (x.recalLeft[r] ≠ 0 ∨ x.recalFrom[r] + s.nat K.recalPeriod * 1000000 ≤ v.clk.now)
            ∧ ∃ u, exec (.recalStep c dt) s = .next u ∧ u.dict.store = s.dict.store ∧ u.barn.chans[1 - c] = s.barn.chans[1 - c]
              ∧ ∃ n, u.barn.chans[c] = { x with
                  lastRecal := x.lastRecal.set r v.clk.now, recalSteps := vmod x.recalSteps r (· + 1),
                  recalFrom := if x.recalLeft[r] = 0 then x.recalFrom.set r v.clk.now else x.recalFrom,
                  recalLeft := x.recalLeft.set r (if x.recalLeft[r] = 0 then n else x.recalLeft[r] - 1) })
        ∧ (∀ dt, let v := s.elapse dt
          s.nat K.scrubPeriod ≠ 0 → barnAwake v = true → s.barn.lastScrub + s.nat K.scrubPeriod * 1000000000 ≤ v.clk.now →
          ∃ u, exec (.scrubPassEnd dt) s = .next u ∧ u.nat K.scrubPasses = (s.nat K.scrubPasses + 1) % 2 ^ 32
            ∧ u.barn.lastScrub = v.clk.now ∧ u.barn.scrubAt = 0 ∧ ∀ a, ¬inLog a → dramByte u a = dramByte s a)
        ∧ (∀ t, s.barn.idleFrom = some t → s.nat K.powerState = 2 → barnAwake s = true → (s.chan 0).queue = [] → (s.chan 1).queue = [] →
          Reachable (t + 1000 * s.nat K.srEntryDelay) s →
          ∃ u, exec .selfRefreshEntry s = .next u ∧ u.nat K.barnState = 4 ∧ ∀ k : Fin 2, (u.chan k).writes = [])
        ∧ ∀ (r : Fin 14) (line : BitVec 29) (cycles dt : Nat),
          let x := s.chan c
          let l := line.toNat
          let tries := ((x.crcTries.find? fun t => t.1 == l).map Prod.snd).getD 0
          let shown (q : BarnReq) : Nat × Nat × Nat × List Byte := (q.requester, q.line, q.at_, q.data)
          let mine (q : BarnReq) : Bool := q.requester == r.val && q.line == l
          ∃ u, exec (.barnAlert c r line cycles dt) s = .next u
            ∧ (u.chan (1 - c)).queue.map shown = (s.chan (1 - c)).queue.map shown ∧ (u.chan (1 - c)).log = (s.chan (1 - c)).log
            ∧ (u.chan c).log.length = min 32 (x.log.length + 1)
            ∧ (if 12 ≤ cycles then
                (if (r.val, l) ∈ x.caRetried then (u.chan c).caRetried = x.caRetried.filter (fun f => f != (r.val, l))
                    ∧ u.ic.pending.getLsbD 47 = true
                    ∧ u.nat (K.caParityFails c) = min (s.nat (K.caParityFails c) + 1) (2 ^ 32 - 1)
                    ∧ (u.chan c).queue.map shown = (x.queue.filter fun q => !mine q).map shown
                    ∧ (∀ q, x.queue.find? mine = some q →
                        (u.chan c).lastRead = some { requester := r.val, line := l, data := q.data, bad := List.range 8, metSr := q.metSr }
                        ∧ (r = 9 ∨ r = 10 → u.cores.accessFault = true))
                    ∧ (x.queue.find? mine = none → (∀ w ∈ x.writes, w.line ≠ l) → (r.val, l) ∈ (u.chan c).caFailed)
                 else (u.chan c).caRetried = (r.val, l) :: x.caRetried ∧ (u.chan c).queue.map shown = x.queue.map shown
                    ∧ u.nat (K.caParityRetries c) = min (s.nat (K.caParityRetries c) + 1) (2 ^ 32 - 1))
               else if tries < 3 then (u.chan c).crcTries = (l, tries + 1) :: x.crcTries.filter (fun t => t.1 != l)
                  ∧ (u.chan c).queue.map shown = x.queue.map shown
                  ∧ (u.chan c).writes.map BarnWrite.line = x.writes.map BarnWrite.line
                  ∧ u.nat (K.crcRetries c) = min (s.nat (K.crcRetries c) + 1) (2 ^ 32 - 1)
               else (u.chan c).crcTries = x.crcTries.filter (fun t => t.1 != l) ∧ (∀ w ∈ (u.chan c).writes, w.line ≠ l)
                  ∧ u.ic.pending.getLsbD 47 = true
                  ∧ u.nat (K.crcFails c) = min (s.nat (K.crcFails c) + 1) (2 ^ 32 - 1)
                  ∧ ((∀ i < 64, ¬inLog (64 * l + i)) → ∀ k < 8, wordMark u (64 * l + 8 * k) = .poison)))

/-- A low pulse of BARNa_ALERT_N of at least 12 MEMCLK cycles is a CA parity error, and a shorter pulse is a write CRC error
(R319): the one moves CA_PARITY_RETRIES or CA_PARITY_FAILS of its channel and no CRC counter, the other the other way round. -/
def Obligations.BarnAlertPulses : Prop :=
  ∀ (s : State) (c : Fin 2) (r : Fin 14) (line : BitVec 29) (cycles dt : Nat), s.nat (K.caParityRetries c) < 2 ^ 32 - 1 →
    s.nat (K.caParityFails c) < 2 ^ 32 - 1 → s.nat (K.crcRetries c) < 2 ^ 32 - 1 → s.nat (K.crcFails c) < 2 ^ 32 - 1 →
    ∃ u, exec (.barnAlert c r line cycles dt) s = .next u
      ∧ (12 ≤ cycles →
          u.nat (K.caParityRetries c) + u.nat (K.caParityFails c) = s.nat (K.caParityRetries c) + s.nat (K.caParityFails c) + 1
            ∧ u.nat (K.crcRetries c) = s.nat (K.crcRetries c) ∧ u.nat (K.crcFails c) = s.nat (K.crcFails c)
            ∧ (u.chan c).crcTries = (s.chan c).crcTries)
      ∧ (cycles < 12 →
          u.nat (K.caParityRetries c) = s.nat (K.caParityRetries c) ∧ u.nat (K.caParityFails c) = s.nat (K.caParityFails c)
            ∧ (u.chan c).caRetried = (s.chan c).caRetried
            ∧ u.nat (K.crcRetries c) + u.nat (K.crcFails c) = s.nat (K.crcRetries c) + s.nat (K.crcFails c) + 1)

/-! ### Cores and policy -/

/-- The controller as the cores reach it (R411 to R418): IC_PENDING is W1C, the application core clearing only sources routed to
it; IC_ROUTE moves route bits 0 and 1, the application core bit 1 only; IC_TARGET moves GLOBAL_DISABLE of targets 0 and 1,
target 0 not by the application core; IC_TAKE takes the lowest source presented to its target, with its count; IC_SOFT raises
sources 64 + j. A source that has an event in the same SUPCLK cycle stays pending through a clear; a route write in an event's
cycle completes in the next (log entry 118), and yields to a dictionary write of its cycle. (Source 53 can rise with a black-box
drop.) A core that does not execute reaches nothing, and one whose protection or window bars the access takes the fault (R402,
R446). The machine timer (R405) and the application core's load (R410). MTIME counts microseconds since reset; its low half read
latches the high half; from the instant MTIME reaches its compare a core's timer interrupt is pending. A load that ends starts
the valid copy at 0x1800_0000 + ENTRY in machine mode, every integer register 0 and mstatus.MIE clear, its bytes in Application
TCM, or leaves state 5 where no copy is valid. -/
def Obligations.InterruptsAndTimer : Prop :=
  (
      ∀ (s : State) (core : Fin 2) (dt : Nat) (v : BitVec 32),
        let ic := s.ic
        let reach (kind a : Nat) (c : Instr) : Prop :=
          (coreActs core s = false → exec c s = .next (latchStatus s))
          ∧ (CoreBarred core kind a dt s → ∃ u, exec c s = .next u ∧ CoreFaults core kind a u)
        (∀ k : Fin 6, reach 1 (0x40020000 + 4 * k.val) (.icPendingClear core k v dt))
        ∧ (∀ k : Fin 24, reach 1 (0x40020040 + 4 * k.val) (.icRouteWrite core k v dt))
        ∧ (∀ t : Fin 4, reach 1 (0x40020200 + 4 * t.val) (.icTargetWrite core t v dt))
        ∧ (∀ t : Fin 2, reach 0 (0x40020210 + 4 * t.val) (.icTake core t dt))
        ∧ reach 1 0x40020220 (.icSoft core v dt)
        ∧ (∀ k : Fin 6, CoreMay core 1 (0x40020000 + 4 * k.val) dt s →
          ∃ u, exec (.icPendingClear core k v dt) s = .next u
            ∧ ∀ j < 192, j ≠ 53 →
                let gone := decide (32 * k.val ≤ j) && v.getLsbD (j - 32 * k.val) && (core == 0 || (ic.routes[1]).getLsbD j)
                  && !(eventsNow (CoreView core dt s)).getLsbD j
                u.ic.pending.getLsbD j = (ic.pending.getLsbD j && !gone)
                  ∧ (gone = true → sparseGet (fun _ => 0) u.ic.counts j = 0))
        ∧ (∀ k : Fin 24, CoreMay core 1 (0x40020040 + 4 * k.val) dt s →
          ∃ u, exec (.icRouteWrite core k v dt) s = .next u ∧ u.ic.routes[2] = ic.routes[2] ∧ u.ic.routes[3] = ic.routes[3]
            ∧ let w := afterEvents (CoreView core dt s)
              if w.ic.dictCycle = some (w.clk.now / 4) then u.ic.routes = ic.routes
              else ∀ j < 192, let mine := decide (j / 8 = k.val) && sourceExists j
              (u.ic.routes[1]).getLsbD j = (if mine then v.getLsbD (4 * (j % 8) + 1) else (ic.routes[1]).getLsbD j)
              ∧ (u.ic.routes[0]).getLsbD j = (if mine && core == 0 then v.getLsbD (4 * (j % 8)) else (ic.routes[0]).getLsbD j))
        ∧ (∀ t : Fin 4, CoreMay core 1 (0x40020200 + 4 * t.val) dt s →
          ∃ u, exec (.icTargetWrite core t v dt) s = .next u
            ∧ u.ic.disabled = (if t = 0 ∧ core = 0 ∨ t = 1 then ic.disabled.set t (v.getLsbD 0) else ic.disabled))
        ∧ (∀ t : Fin 2, CoreMay core 0 (0x40020210 + 4 * t.val) dt s →
          ∃ u, exec (.icTake core t dt) s = .next u
            ∧ (core = 1 → t = 0 → u.ic.lastTake = 0xFFFFFFFF ∧ u.ic.pending = ic.pending)
            ∧ (¬(core = 1 ∧ t = 0) →
                let open_ := ic.pending &&& targetMask ⟨t.val, by omega⟩ (CoreView core dt s)
                (open_ = 0 → u.ic.lastTake = 0xFFFFFFFF ∧ u.ic.pending = ic.pending)
                ∧ ∀ n < 192, open_.getLsbD n = true → (∀ k < n, open_.getLsbD k = false) →
                  u.ic.lastTake = BitVec.ofNat 32 (n + 256 * sparseGet (fun _ => 0) ic.counts n)
                  ∧ ∀ j < 192, j ≠ 53 → u.ic.pending.getLsbD j = (ic.pending.getLsbD j
                      && (decide (j ≠ n) || (eventsNow (CoreView core dt s)).getLsbD n))))
        ∧ (CoreMay core 1 0x40020220 dt s →
          ∃ u, exec (.icSoft core v dt) s = .next u
            ∧ ∀ j < 192, j ≠ 53 → u.ic.pending.getLsbD j
              = (ic.pending.getLsbD j || (decide (64 ≤ j ∧ j < 96) && v.getLsbD (j - 64)))))
    ∧ (
      ∀ s : State,
        (∀ (core : Fin 2) (dt : Nat),
          (coreActs core s = false → exec (.mtimeLoRead core dt) s = .next (latchStatus s))
          ∧ (CoreBarred core 0 0x40050000 dt s → ∃ u, exec (.mtimeLoRead core dt) s = .next u ∧ u.timer = s.timer
              ∧ CoreFaults core 0 0x40050000 u))
        ∧ (∀ (core : Fin 2) (dt : Nat), CoreMay core 0 0x40050000 dt s →
          let t := (CoreView core dt s).clk.now / 1000
          ∃ u, exec (.mtimeLoRead core dt) s = .next u ∧ u.timer.lastRead = BitVec.ofNat 32 t
            ∧ u.timer.hiLatch = BitVec.ofNat 32 (t / 2 ^ 32) ∧ u.timer.cmp = s.timer.cmp ∧ u.dict.store = (CoreView core dt s).dict.store)
        ∧ (∀ core : Fin 2, s.mtip core = false → Reachable (1000 * (s.timer.cmp[core]).toNat) s →
          ∃ u, exec (.mtimeCompare core) s = .next u ∧ u.mtip core = true ∧ u.clk.now = 1000 * (s.timer.cmp[core]).toNat
            ∧ u.timer.cmp = s.timer.cmp ∧ (s.cores.waiting[core] = false → u.dict.store = s.dict.store)
            ∧ (s.cores.waiting[core] = true → u.cores.waiting[core] = !((s.hart core).enables.getLsbD 7)))
        ∧ (∀ dt : Nat, s.cores.appLoading = true → ∃ u, exec (.appCoreLoadDone dt) s = .next u ∧ u.cores.appLoading = false
            ∧ (appCopy s = none → u.nat K.appCoreState = 5 ∧ u.cores.appTcm = s.cores.appTcm)
            ∧ ∀ f, appCopy s = some f → u.nat K.appCoreState = 2
              ∧ u.hart 1 = { pc := BitVec.ofNat 32 (0x18000000 + f.entry) } ∧ (u.hart 1).mode = .machine ∧ (u.hart 1).mie = false
              ∧ (∀ i : Fin 31, (u.hart 1).regs[i] = 0)
              ∧ ∀ i < f.load.length, sparseGet (fun _ => 0) u.cores.appTcm i = f.load.getD i 0))

/-- The evaluations (R422, R424 to R426), while the control firmware runs. A full window of launch power, with mean M, moves
LINE_SET of POWER_LINE by POWER_STEP within its limits: down where CLIP_LIMIT bells clipped or M exceeds POWER_TARGET × 9/8, up
where M is below POWER_TARGET × 7/8; else it leaves it and decides nothing. A full weight period writes the four weights in one
group, and decides, only where a weight moves by 512. A full fade window counts the evaluations above FADE_LIMIT in a row, and
writes the next candidate that is accepted where PATTERN_DWELL bells have passed since the last change. The written value waits
for its bell; a write that is refused changes no setting. Each decision raises source 56 and stands in LAST_DECISION with its
code, its CSN (0 for none) and its value. While another request has the next turn the evaluation waits whole (R339). The
policy's instants (R428, R429, R434), while the control firmware runs. Results below THERMAL_LOW for RETURN_DWELL clear the
thermal and shut-down causes; holdover beyond HOLDOVER_LIMIT is decided on once, with code 7 and no write; RETURN_DWELL after
the last cause cleared, and below level 5, the choice is made again, with code 8, or 9 where nothing is left to choose: at once
if nothing else waits for the serialiser, else at its turn (R339). -/
def Obligations.Policy : Prop :=
  (
      ∀ s : State,
        s.cores.controlAlive = true →
        let decided (code csn : Nat) (u : State) : Prop :=
          u.ic.pending.getLsbD 56 = true ∧ (u.block K.lastDecision).getD 16 0 = BitVec.ofNat 8 code
            ∧ fieldAt 20 8 (u.block K.lastDecision) = csn % 2 ^ 64
        let quiet (u : State) : Prop := u.dict.store = s.dict.store ∧ u.dict.shadow = s.dict.shadow ∧ u.ic = s.ic
        (s.nat K.powerLine < 8 → 256 ≤ s.policy.powerBells →
          let l := s.nat K.powerLine
          let set := s.nat (K.lineSet l)
          let up := min (s.nat K.powerSetMax) (set + s.nat K.powerStep)
          let down := max (s.nat K.powerSetMin) (set - s.nat K.powerStep)
          let mean8 := 8 * s.policy.powerSum
          let target := s.nat K.powerTarget * (256 * s.policy.powerDen)
          let new := if s.nat K.clipLimit ≤ s.policy.powerClipped then down else if mean8 < 7 * target then up
            else if 9 * target < mean8 then down else set
          let v := restartPower s
          let puts := [(K.lineSet l, DVal.num new)]
          (new = set → ∃ u, exec .powerEvaluation s = .next u ∧ u.policy.powerBells = 0 ∧ u.policy.powerSum = 0
              ∧ u.policy.powerClipped = 0 ∧ quiet u)
          ∧ (new ≠ set → ownTurn puts s = false → exec .powerEvaluation s = .next (latchStatus s))
          ∧ (new ≠ set → new ≤ 4095 → ownTurn puts s = true → ∃ u, exec .powerEvaluation s = .next u ∧ u.policy.powerBells = 0
              ∧ u.policy.powerSum = 0 ∧ u.policy.powerClipped = 0 ∧ fieldAt 28 4 (u.block K.lastDecision) = new
              ∧ (OwnAccepted puts v → decided 1 (s.nat K.csnLast + 1) u ∧ u.nat K.csnLast = s.nat K.csnLast + 1
                  ∧ valIn (shadowStore u) (K.lineSet l) = .num new)
              ∧ (¬OwnAccepted puts v → decided 1 0 u ∧ u.nat K.csnLast = s.nat K.csnLast ∧ u.dict.shadow = s.dict.shadow)))
        ∧ (s.nat K.weightEnable = 1 → s.nat K.spatialMode = 2 → s.nat K.weightPeriod ≤ s.policy.weightBells →
          let ws := (newWeights s).1
          let v := restartWeights (newWeights s).2
          let far := ∃ b < 4, 512 + s.nat (K.bandWeight b) ≤ ws.getD b 0 ∨ 512 + ws.getD b 0 ≤ s.nat (K.bandWeight b)
          (¬far → ∃ u, exec .weightEvaluation s = .next u ∧ u.policy.weightBells = 0 ∧ u.policy.weightSums = Vector.replicate 4 0 ∧ quiet u)
          ∧ (far → ownTurn (weightPuts ws) s = false → exec .weightEvaluation s = .next (latchStatus s))
          ∧ (far → (∀ b < 4, ws.getD b 0 ≤ 32768) → ownTurn (weightPuts ws) s = true → ∃ u, exec .weightEvaluation s = .next u
              ∧ u.policy.weightBells = 0 ∧ u.policy.weightSums = Vector.replicate 4 0
              ∧ (OwnAccepted (weightPuts ws) v → decided 2 (s.nat K.csnLast + 1) u ∧ u.nat K.csnLast = s.nat K.csnLast + 1
                  ∧ ∀ b < 4, valIn (shadowStore u) (K.bandWeight b) = .num (ws.getD b 0 : Nat))
              ∧ (¬OwnAccepted (weightPuts ws) v → decided 2 0 u ∧ u.nat K.csnLast = s.nat K.csnLast ∧ u.dict.shadow = s.dict.shadow)))
        ∧ (s.nat K.patternEnable = 1 → 256 ≤ s.policy.fadeBells →
          let high := decide ((s.nat K.fadeLimit * 256 : Nat) < s.policy.fadeSum * 1000)
          let run := if high then s.policy.fadeRun + 1 else 0
          let rested := ∀ n, s.policy.sincePattern = some n → s.nat K.patternDwell ≤ n
          let v := { s with policy := { s.policy with fadeBells := 0, fadeSum := 0, fadeRun := run } }
          let counted (u : State) : Prop := u.policy.fadeBells = 0 ∧ u.policy.fadeSum = 0 ∧ u.policy.fadeRun = run
          (nextCandidates s = none ∨ run < s.nat K.fadeEvals ∨ ¬rested → ∃ u, exec .fadeEvaluation s = .next u ∧ counted u ∧ quiet u)
          ∧ ∀ cs, nextCandidates s = some cs → s.nat K.fadeEvals ≤ run → rested →
            (∀ c ∈ cs.head?, ownTurn [(K.seqEntry 0, .num (c : Nat))] s = false → exec .fadeEvaluation s = .next (latchStatus s))
            ∧ ((∀ c ∈ cs.head?, ownTurn [(K.seqEntry 0, .num (c : Nat))] s = true) →
                ∃ u, exec .fadeEvaluation s = .next u ∧ counted u
                  ∧ (∀ c csn, (tryCandidates cs v).2 = some (c, csn) → c ∈ cs ∧ decided 3 csn u ∧ u.policy.sincePattern = some 0
                      ∧ fieldAt 28 4 (u.block K.lastDecision) = c ∧ valIn (shadowStore u) (K.seqEntry 0) = .num c
                      ∧ csn = s.nat K.csnLast + 1 ∧ u.nat K.csnLast = csn)
                  ∧ (∀ c ∈ cs.head?, OwnAccepted [(K.seqEntry 0, .num (c : Nat))] v →
                      (tryCandidates cs v).2 = some (c, s.nat K.csnLast + 1))
                  ∧ ((tryCandidates cs v).2 = none → decided 3 0 u ∧ u.dict.shadow = s.dict.shadow
                      ∧ u.nat K.csnLast = s.nat K.csnLast ∧ u.policy.sincePattern = s.policy.sincePattern))))
    ∧ (
      ∀ (s : State) (t : Nat), s.cores.controlAlive = true →
        (s.policy.belowSince = some t → bitOf (s.nat K.levelCause) 2 = true ∨ bitOf (s.nat K.levelCause) 3 = true →
          Reachable (t + s.nat K.returnDwell * 1000000000) s →
          ∃ u, exec .thermalCauseClear s = .next u
            ∧ (∀ i < 8, bitOf (u.nat K.levelCause) i = (bitOf (s.nat K.levelCause) i && i != 2 && i != 3))
            ∧ u.policy.lastCleared = some (t + s.nat K.returnDwell * 1000000000) ∧ u.ic = s.ic)
        ∧ (s.policy.holdoverSince = some t → s.nat K.holdoverLimit ≠ 0 → s.policy.holdoverNoted = false →
          Reachable (t + s.nat K.holdoverLimit * 1000000000) s →
          ∃ u, exec .holdoverLimitExpiry s = .next u ∧ u.policy.holdoverNoted = true ∧ u.ic.pending.getLsbD 56 = true
            ∧ u.nat K.decisionCount = min (s.nat K.decisionCount + 1) (2 ^ 32 - 1)
            ∧ (u.block K.lastDecision).getD 16 0 = 7 ∧ u.nat K.levelInEffect = s.nat K.levelInEffect
            ∧ fieldAt 20 8 (u.block K.lastDecision) = 0 ∧ u.dict.shadow = s.dict.shadow ∧ u.nat K.csnLast = s.nat K.csnLast)
        ∧ (s.policy.lastCleared = some t → s.nat K.levelInEffect ≠ 5 → Reachable (t + s.nat K.returnDwell * 1000000000) s →
          let decided (u : State) : Prop := u.ic.pending.getLsbD 56 = true
            ∧ ((u.block K.lastDecision).getD 16 0 = 8 ∨ (u.block K.lastDecision).getD 16 0 = 9)
          ∃ u, exec .levelDwellReturn s = .next u ∧ (decided u ∨ .choice 8 ∈ u.policy.jobs) ∧ (OwnFree s → decided u)))

/-! ### The ring -/

/-- A frame is carried (R361, R362, R364, R365, R373): it leaves by the other port, or by its own where the other loops, its FCS
as good as it came; FRAMES_IN, RESIDENCE_MAX and FCS_ERRORS follow it. A foreign frame and a JoenLink frame of no known type
pass unchanged and are counted; a carriage frame that breaks the layout is rejected and counted, whoever it is for and however
long it is, and one of another ring is not touched but for LOOPED. A frame above 4,200 bytes leaves cut to them with a bad FCS
(what of it is processed is the model's reading, log entry 46). -/
def Obligations.RingFrames : Prop :=
  ∀ (rx : RxFrame) (s : State),
    let p := rx.port
    let inc (k : Key) : Nat := min (s.nat k + 1) (2 ^ 32 - 1)
    let carried (out : List Byte) (u : State) : Prop :=
      u.node.lastOut = some { port := outPort s p, payload := out, badFcs := !rx.fcsOk }
        ∧ u.nat (K.framesIn p) = (s.nat (K.framesIn p) + 1) % 2 ^ 64
        ∧ u.nat (K.residenceMax p) = max (s.nat (K.residenceMax p)) (480000 + rx.residence.val)
        ∧ (rx.fcsOk = false → u.nat (K.fcsErrors p) = inc (K.fcsErrors p)) ∧ u.dict.waiting = s.dict.waiting
    (ringRuns s = true → s.nat (K.linkState p) ≠ 0 → 4200 < rx.payload.length + 18 →
      ∃ u, exec (.foreignFrame rx) s = .next u ∧ u.nat (K.framesIn p) = (s.nat (K.framesIn p) + 1) % 2 ^ 64
        ∧ u.nat (K.foreignFrames p) = inc (K.foreignFrames p)
        ∧ u.node.lastOut = some { port := outPort s p, payload := rx.payload.take 4182, badFcs := true })
    ∧ (ringRuns s = true → s.nat (K.linkState p) ≠ 0 → 4200 < rx.payload.length + 18 → isFrame 1 rx.payload = true →
      ∃ u, exec (.carriageFrame rx) s = .next u ∧ u.nat (K.framesIn p) = (s.nat (K.framesIn p) + 1) % 2 ^ 64
        ∧ u.nat (K.rejectedFrames p) = (if carriageOk rx.payload = true then s.nat (K.rejectedFrames p) else inc (K.rejectedFrames p))
        ∧ u.node.lastOut = some { port := outPort s p, payload := rx.payload.take 4182, badFcs := true })
    ∧ (Carries rx s →
    (∃ u, exec (.foreignFrame rx) s = .next u ∧ carried rx.payload u ∧ u.nat (K.foreignFrames p) = inc (K.foreignFrames p))
    ∧ ((∀ k < 6, isFrame (k + 1) rx.payload = false) →
        ∃ u, exec (.joenlinkFrameUnknown rx) s = .next u ∧ carried rx.payload u ∧ u.nat (K.rejectedFrames p) = inc (K.rejectedFrames p))
    ∧ (isFrame 1 rx.payload = true →
        let out := if turnsBack s p then setLooped rx.payload else rx.payload
        (forNode s rx.payload = false → carriageOk rx.payload = true → ∃ u, exec (.carriageFrame rx) s = .next u ∧ carried out u
            ∧ u.nat (K.rejectedFrames p) = s.nat (K.rejectedFrames p))
        ∧ (carriageOk rx.payload = false →
            ∃ u, exec (.carriageFrame rx) s = .next u ∧ carried out u ∧ u.nat (K.rejectedFrames p) = inc (K.rejectedFrames p))))

/-- Carriage slots (R366 to R368, R374). A downlink slot with a bad SLOT_CRC gives USTAT 4; a first request of one scalar item
is presented for the port, any other slot of CTRL 1 gives USTAT 3; a copy within DUP_WINDOW, whatever its CTRL, counts in
DUPLICATES, is not presented again, and gives USTAT 5 where its slot differs from the first copy's; CTRL 2 asks for the latest
answer. The uplink slot of the same frame then holds USTAT 1, the SEQ and the answer, or the USTAT alone: 2 where no answer
stands yet, 0 where a refetch finds none; with CTRL 0 nothing is written. The mailbox (R343, R370). A fragment for this node
that follows on is kept and answered MSTATE 1, the last one makes the request wait; one that breaks R343 is answered 0x0D at its
turn, at once where nothing else waits (the model's reading, log entry 124); a fragment while a request is unanswered is busy,
MSTATE 2; a bad FCS keeps nothing. A poll collects the bytes asked for of the answer to its MBX_SEQ, PSTATE 1; PSTATE 2 where it
is not answered yet, 3 where there is none. -/
def Obligations.RingSlotsAndMailbox : Prop :=
  (
      ∀ (rx : RxFrame) (s : State) (k : Nat),
        let v := s.elapse rx.dt
        let p := rx.port
        let b := rx.payload
        let d := downSlot b k
        let arrived (ustat : Nat) (u : State) : Prop :=
          (u.node.ports[p]).slotted = some { ringId := frameRing b, seq := frameSeq b, carriage := fieldAt 8 1 b, ustat, payload := b,
                                             passed := 32 + 40 * (k + 1) }
        Carries rx s → carriagePosition s b = some k →
        (∀ c : Nat, c = 1 ∨ c = 2 → fieldAt 0 1 d = c → slotCrcOk d = false →
          ∃ u, exec (if c = 1 then .carriageRequest rx else .carriageRefetch rx) s = .next u ∧ arrived 4 u
            ∧ u.nat (K.slotCrcErrors p) = min (s.nat (K.slotCrcErrors p) + 1) (2 ^ 32 - 1) ∧ u.dict.waiting = s.dict.waiting)
        ∧ (fieldAt 0 1 d = 1 → slotCrcOk d = true →
          (∀ c, firstCopy v (frameRing b) (frameSeq b) (fieldAt 8 1 b) = some c →
            ∃ u, exec (.carriageRequest rx) s = .next u ∧ arrived (if c.slot ≠ d then 5 else if (slotPresents v d).isSome then 1 else 3) u
              ∧ u.nat K.duplicates = min (s.nat K.duplicates + 1) (2 ^ 32 - 1) ∧ u.dict.waiting = s.dict.waiting)
          ∧ (∀ r, firstCopy v (frameRing b) (frameSeq b) (fieldAt 8 1 b) = none → slotRequest d = some r → expedited v r = true →
            s.dict.waiting[portIni p] = none →
            ∃ u w, exec (.carriageRequest rx) s = .next u ∧ arrived 1 u ∧ u.dict.waiting[portIni p] = some w ∧ w.req = r
              ∧ w.arrived = v.clk.now
              ∧ (firstCopy u (frameRing b) (frameSeq b) (fieldAt 8 1 b)).isSome = true)
          ∧ (firstCopy v (frameRing b) (frameSeq b) (fieldAt 8 1 b) = none → slotPresents v d = none →
            ∃ u, exec (.carriageRequest rx) s = .next u ∧ arrived 3 u ∧ u.dict.waiting = s.dict.waiting
              ∧ (firstCopy u (frameRing b) (frameSeq b) (fieldAt 8 1 b)).isSome = true))
        ∧ (fieldAt 0 1 d = 2 → slotCrcOk d = true →
          (∀ c, firstCopy v (frameRing b) (frameSeq b) (fieldAt 8 1 b) = some c →
            ∃ u, exec (.carriageRefetch rx) s = .next u ∧ arrived (if c.slot ≠ d then 5 else 6) u ∧ u.dict.waiting = s.dict.waiting
              ∧ u.nat K.duplicates = min (s.nat K.duplicates + 1) (2 ^ 32 - 1))
          ∧ (firstCopy v (frameRing b) (frameSeq b) (fieldAt 8 1 b) = none →
            ∃ u, exec (.carriageRefetch rx) s = .next u ∧ arrived 6 u ∧ u.dict.waiting = s.dict.waiting
              ∧ ∃ c, firstCopy u (frameRing b) (frameSeq b) (fieldAt 8 1 b) = some c ∧ c.slot = d ∧ c.latest = s.node.latest))
        ∧ (fieldAt 0 1 d = 0 → slotCrcOk d = true → s.dict.waiting[portIni p] = none → s.nat K.ringAddress ≤ 120 →
            (∀ x, (s.node.ports[p]).slotted = some x → ¬(x.ringId = frameRing b ∧ x.seq = frameSeq b ∧ x.carriage = fieldAt 8 1 b)) →
          let o := ulOffset b + 52 * k
          ∃ u out, exec (.carriageFrame rx) s = .next u ∧ u.node.lastOut = some out
            ∧ (firstCopy v (frameRing b) (frameSeq b) (fieldAt 8 1 b) = none →
                slice o 52 out.payload = slice o 52 b ∧ (firstCopy u (frameRing b) (frameSeq b) (fieldAt 8 1 b)).isSome = true)
            ∧ ∀ c, firstCopy v (frameRing b) (frameSeq b) (fieldAt 8 1 b) = some c →
                u.nat K.duplicates = min (s.nat K.duplicates + 1) (2 ^ 32 - 1)
                ∧ (if c.slot ≠ d then out.payload.getD o 0 = 5 else slice o 52 out.payload = slice o 52 b))
        ∧ (∀ x, (s.node.ports[p]).slotted = some x → x.ringId = frameRing b → x.seq = frameSeq b → x.carriage = fieldAt 8 1 b →
            s.dict.waiting[portIni p] = none → s.nat K.ringAddress ≤ 120 →
          let o := ulOffset b + 52 * k
          let first := copyOf x s
          ∃ u out, exec (.carriageFrame rx) s = .next u ∧ u.node.lastOut = some out ∧ out.port = outPort s p
            ∧ (u.node.ports[p]).slotted = none
            ∧ (x.ustat = 1 → ∀ c a, first = some c → c.answer = some a →
                slice o 52 out.payload = [1#8, 0] ++ leBytes 2 x.seq ++ slice 0 48 a)
            ∧ (x.ustat = 1 → (first.bind fun c => c.answer) = none →
                out.payload.getD o 0 = 2 ∧ u.nat K.pendingAnswers = min (s.nat K.pendingAnswers + 1) (2 ^ 32 - 1))
            ∧ (x.ustat = 6 → ∀ c q a, first = some c → c.latest = some (q, a) → slice o 52 out.payload = [1#8, 0] ++ leBytes 2 q ++ slice 0 48 a)
            ∧ (x.ustat = 6 → (first.bind fun c => c.latest) = none → out.payload.getD o 0 = 0)
            ∧ (x.ustat = 3 ∨ x.ustat = 4 ∨ x.ustat = 5 → out.payload.getD o 0 = BitVec.ofNat 8 x.ustat)))
    ∧ (
      ∀ (rx : RxFrame) (s : State),
        let p := rx.port
        let b := rx.payload
        let m := (s.node.ports[p]).mailbox
        let v := s.elapse rx.dt
        Carries rx s → forNode s b = true → fieldAt 8 2 b = s.nat K.ringAddress →
        (isFrame 5 b = true → mailSeen v (fieldAt 12 4 b) = false →
          let len := fieldAt 20 4 b
          let last := bitOf (fieldAt 11 1 b) 0
          (m.presented = true → m.answer = none → ∃ u out, exec (.mailbox rx) s = .next u ∧ u.node.lastOut = some out
            ∧ out.payload.getD 10 0 = 2 ∧ (u.node.ports[p]).mailbox = m)
          ∧ (rx.fcsOk = false → ∃ u, exec (.mailbox rx) s = .next u ∧ (u.node.ports[p]).mailbox = m)
          ∧ (rx.fcsOk = true → m.seq = none → m.presented = false → fieldAt 16 4 b = 0 → 0 < len → len ≤ 4096 → 32 + len ≤ b.length →
            unnamedWaits s = false →
            ∃ u out, exec (.mailbox rx) s = .next u ∧ u.node.lastOut = some out ∧ out.payload.getD 10 0 = 1
              ∧ let x := (u.node.ports[p]).mailbox
                x.seq = some (fieldAt 12 4 b) ∧ x.bytes = slice 32 len b ∧ x.presented = last
                ∧ ((last = true → malformed (parseRequest (slice 32 len b)) = false) → x.answer = none)
                ∧ (last = true → malformed (parseRequest (slice 32 len b)) = true → serialiserRuns s = true →
                    (∀ i : Initiator, s.dict.waiting[i] = none) → mailRequest s (otherPort p) = none → reportWaits s = false →
                    ∃ a, x.answer = some a ∧ a.getD 0 0 = 0x0D)))
        ∧ (isFrame 6 b = true →
          let seq := fieldAt 12 4 b
          let off := fieldAt 16 4 b
          let n := min (fieldAt 20 4 b) (b.length - 32)
          (∀ a, m.seq = some seq → m.answer = some a →
            ∃ u out, exec (.poll rx) s = .next u ∧ u.node.lastOut = some out ∧ out.payload.getD 10 0 = 1
              ∧ fieldAt 24 4 out.payload = a.length % 2 ^ 32
              ∧ (∀ j < min n (a.length - off), out.payload.getD (32 + j) 0 = a.getD (off + j) 0)
              ∧ (u.node.ports[p]).mailbox = m)
          ∧ (m.seq = some seq → m.answer = none → ((s.node.ports[otherPort p]).mailbox).answer = none →
            ∃ u out, exec (.poll rx) s = .next u ∧ u.node.lastOut = some out ∧ out.payload.getD 10 0 = 2)
          ∧ (m.seq ≠ some seq → ((s.node.ports[otherPort p]).mailbox).seq ≠ some seq →
            ∃ u out, exec (.poll rx) s = .next u ∧ u.node.lastOut = some out ∧ out.payload.getD 10 0 = 3)))

/-- Addresses, time transfer and links (R371, R373, R375 to R379). A roll call with room gives the node its address, once for a
RING_ID and SEQ; a sweep leaves with the node's entry of this pass; a bell-mark leaves with its CORRECTION grown by link delay,
asymmetry and residence, and a usable one is a measurement; stamps are multiples of 7.8125 ps (the last one not after the
instant, the model's choice, log entry 114), moved by the PHY's delays in SGMII mode; a port that goes down sends ordered sets
in place of frames, cuts short the frame that it was receiving, loops the other, ends its session and its delay; a link back up
loops on for LINK_HOLD. -/
def Obligations.RingAddressesTimeLinks : Prop :=
  ∀ (rx : RxFrame) (s : State),
    let p := rx.port
    let b := rx.payload
    let v := s.elapse rx.dt
    let phy (q : Fin 2) (k : Key) : Nat := if s.node.portMode[q] = 2 then s.nat k else 0
    let instant := (v.clk.devTime + v.clk.now % 10) * 1000 + rx.ps
    let stamped (t : Nat) (x : Int) : Prop := ∃ n : Nat, x = 125 * n ∧ 125 * n ≤ 16 * t ∧ 16 * t < 125 * (n + 1)
    (stamped instant (rxStamp rx v + 16 * phy p (K.phyDelayRx p))
      ∧ stamped (instant + residence rx) (txStamp rx v - 16 * phy (outPort s p) (K.phyDelayTx (outPort s p))))
    ∧ (Carries rx s → isFrame 4 b = true → 1952 ≤ b.length → rx.fcsOk = true → s.node.rollTaken ≠ some (frameRing b, frameSeq b) →
      let n := fieldAt 8 1 b
      (n < 120 → ∃ u out, exec (.rollCall rx) s = .next u ∧ u.nat K.ringAddress = n + 1 ∧ u.nat K.ringId = frameRing b
        ∧ u.nat K.rollSeq = frameSeq b ∧ u.node.rollTaken = some (frameRing b, frameSeq b) ∧ u.ic.pending.getLsbD 45 = true
        ∧ u.node.lastOut = some out ∧ out.payload.getD 8 0 = BitVec.ofNat 8 (n + 1)
        ∧ slice (32 + 16 * n) 16 out.payload = rollEntry p v)
      ∧ (120 ≤ n → ∃ u out, exec (.rollCall rx) s = .next u ∧ u.nat K.ringAddress = s.nat K.ringAddress
        ∧ u.node.lastOut = some out ∧ (out.payload.getD 9 0).getLsbD 0 = true))
    ∧ (Carries rx s → isFrame 3 b = true → forNode s b = true → 3872 ≤ b.length → s.nat K.ringAddress ≤ 120 →
      let a := s.nat K.ringAddress
      let i := if fieldAt (32 + 16 * (a - 1) + 6) 1 b = 255 then a - 1 else 119 + a
      ∃ u out, exec (.sweep rx) s = .next u ∧ u.node.lastOut = some out
        ∧ slice (32 + 16 * i) 6 out.payload = stampBytes (rxStamp rx v)
        ∧ out.payload.getD (32 + 16 * i + 6) 0 = BitVec.ofNat 8 p
        ∧ slice (32 + 16 * i + 8) 6 out.payload = stampBytes (txStamp rx v)
        ∧ u.dict.waiting = s.dict.waiting)
    ∧ (Carries rx s → isFrame 2 b = true →
      let dly : Int := (s.nat (K.linkDelay p) : Int) + s.num (K.linkAsym p)
      let corr := toSigned 64 (fieldAt 20 8 b)
      let offset := psOfStamp (rxStamp rx v - 16 * ((fieldAt 8 8 b * 1000 + fieldAt 16 2 b : Nat) + corr + dly))
      let used := s.nat K.timeSource == 2 && frameRing b == s.nat K.ringId && s.nat (K.delayValid p) == 1 && rx.fcsOk
        && !markSeen v (frameSeq b)
      ∃ u out, exec (.bellMark rx) s = .next u ∧ u.node.lastOut = some out
        ∧ slice 20 8 out.payload = leBytes 8 (ofSigned 64 (corr + dly + psOfStamp (txStamp rx v - rxStamp rx v)))
        ∧ (used = true → u.nat K.marksUsed = min (s.nat K.marksUsed + 1) (2 ^ 32 - 1) ∧ u.num K.timeOffset = offset
            ∧ u.nat K.masterQuality = fieldAt 18 1 b)
        ∧ (used = false → u.num K.timeOffset = s.num K.timeOffset ∧ u.nat K.marksUsed = s.nat K.marksUsed))
    ∧ (∀ dt, ringRuns s = true → s.nat (K.linkState p) ≠ 0 → ∃ u, exec (.linkDown p dt) s = .next u ∧ u.nat (K.linkState p) = 0
        ∧ (u.node.ports[p]).looped = true ∧ u.nat (K.delayValid p) = 0 ∧ u.nat (K.sessionLevel p) = 2
        ∧ u.nat (K.linkDowns p) = min (s.nat (K.linkDowns p) + 1) (2 ^ 32 - 1) ∧ u.ic.pending.getLsbD 44 = true
        ∧ u.node.ports[1 - p] = s.node.ports[1 - p] ∧ (u.node.ports[p]).ordered = true ∧ (u.node.ports[p]).slotted = none
        ∧ (∀ x, (s.node.ports[p]).slotted = some x → s.nat K.ringAddress ≤ 120 → 32 ≤ x.passed → x.passed ≤ x.payload.length →
            ∃ out, u.node.lastOut = some out ∧ out.port = outPort s p ∧ out.badFcs = true ∧ x.passed ≤ out.payload.length
              ∧ out.payload.length ≤ x.payload.length))
    ∧ (∀ dt, ringRuns s = true → s.nat (K.linkState p) = 0 → ∃ u, exec (.ringLinkUp p dt) s = .next u ∧ u.nat (K.linkState p) = 1
        ∧ (u.node.ports[p]).upSince = some (s.elapse dt).clk.now ∧ (u.node.ports[p]).looped = (s.node.ports[p]).looped
        ∧ (u.node.ports[p]).ordered = false)
    ∧ (∀ t, (s.node.ports[p]).upSince = some t → (s.node.ports[p]).looped = true → Reachable (t + s.nat K.linkHold * 1000000) s →
      ∃ u, exec (.loopEnd p) s = .next u ∧ u.nat (K.linkState p) = 2 ∧ (u.node.ports[p]).looped = false)

/-! ### Host and stream ports -/

/-- The request ring (R387, R392, R393). While ENABLE is 1, the ring is not empty, DMA runs and fewer than 16 dictionary
requests wait, an entry is fetched: a dictionary request joins those that wait and is presented as initiator 2 when none is
before it (one that breaks R343 is answered 0x0D at its turn, at once where nothing else waits: the model's reading, log entry
124); a buffer joins its channel, or completes with STATUS 5 where the channel holds 64; a fetch that fails counts in
AER_COUNTS, sets FETCH_ERROR unless the completion was poisoned, and completes with STATUS 4; a malformed entry completes with
STATUS 5. Otherwise none is fetched. The host's writes cross the link, which leaves L1 for them; until step 7 of a start, in
Hold, Off and reset, and once a shut-down has taken the link down they reach no register (R451, R488, R495). -/
def Obligations.HostRequests : Prop :=
  ∀ (s : State) (dt : Nat),
    let h := { s.host with lastTlp := (s.elapse dt).clk.now }
    let next := (s.host.rqHead + 1) % 2 ^ 32
    let completes (r : Fin 4) (c : Completion) (u : State) : Prop :=
      s.host.rings[r].held = [] → s.host.rings[r].room = true →
        u.host.rings[r].last = some { c with cqSeq := s.host.rings[r].written }
          ∧ u.host.rings[r].written = (s.host.rings[r].written + 1) % 2 ^ 32 ∧ u.host.rings[r].held = []
    let counted (i : Fin 6) (u : State) : Prop := ∀ j : Fin 6, u.host.aer[j] = if j = i then min (s.host.aer[j] + 1) 0xFFFFFFFF else s.host.aer[j]
    (s.host.enable = true → s.host.rqHead ≠ s.host.rqTail → dmaRuns (s.elapse dt) = true → s.host.fetched.length < 16 →
      (∀ (cq : Fin 4) (tag dstLen : BitVec 32) (dst : BitVec 64) (req : Request),
        unnamedWaits s = false →
        (malformed req = true → s.host.fetched = [] → s.host.presented = false → (∀ i : Initiator, s.dict.waiting[i] = none) →
          mailRequest s 0 = none → mailRequest s 1 = none → reportWaits s = false → serialiserRuns s = true →
          s.host.rings[cq].held = [] → s.host.rings[cq].room = true → 40 ≤ dstLen.toNat →
          ∃ u c, exec (.hostDictRequest cq tag dst dstLen req dt) s = .next u ∧ u.host.fetched = [] ∧ u.host.presented = false
            ∧ u.host.rings[cq].last = some c ∧ c.tag = tag.toNat ∧ c.opcode = 1 ∧ c.status = 0 ∧ c.channel = req.channel.toNat
            ∧ c.data.getD 0 0 = 0x0D ∧ u.nat K.refusals = min (s.nat K.refusals + 1) (2 ^ 32 - 1))
        ∧ (malformed req = false → ∃ u, exec (.hostDictRequest cq tag dst dstLen req dt) s = .next u ∧ u.host.rqHead = next
          ∧ u.host.fetched = s.host.fetched ++ [{ tag := tag.toNat, cq, channel := req.channel.toNat, dst := dst.toNat,
                                                  dstLen := dstLen.toNat, req }]
          ∧ u.host.rings = s.host.rings ∧ u.host.buffers = s.host.buffers
          ∧ (s.host.fetched = [] → s.dict.waiting[2] = none → s.host.presented = false → u.host.presented = true
              ∧ u.dict.waiting[2] = some { req, arrived := (s.elapse dt).clk.now, replyTo := .host tag.toNat dst.toNat dstLen.toNat })
          ∧ (s.host.presented = true → u.dict.waiting = s.dict.waiting)))
      ∧ (∀ (cq : Fin 4) (ch : Fin 16) (tag len : BitVec 32) (addr : BitVec 64),
        ∃ u, exec (.hostBufferPost cq ch tag addr len dt) s = .next u ∧ u.host.rqHead = next ∧ u.host.fetched = s.host.fetched
          ∧ (len.toNat % 64 = 0 → s.host.buffers[ch].length < 64 → (∀ k : Fin 8, s.streams[k].records.find? StreamRec.toHost = none) →
              (∀ k : Fin 8, s.tdc.chan[k].queue = []) →
              u.host.buffers = s.host.buffers.set ch
                (s.host.buffers[ch] ++ [{ tag := tag.toNat, cq, channel := ch.val, addr := addr.toNat, len := len.toNat }]))
          ∧ (len.toNat % 64 = 0 → s.host.buffers[ch].length = 64 → u.host.buffers = s.host.buffers ∧ u.host.aer = s.host.aer
              ∧ completes cq { tag := tag.toNat, status := 5, opcode := 2, channel := ch.val } u)
          ∧ (len.toNat % 64 ≠ 0 → u.host.buffers = s.host.buffers ∧ counted 4 u
              ∧ completes cq { tag := tag.toNat, status := 5, opcode := 2, channel := ch.val } u))
      ∧ ∀ (h : EntryHead) (hq : h.cq.toNat < 4),
        let c (status : Nat) : Completion := { tag := h.tag.toNat, status, opcode := h.opcode.toNat, channel := h.channel.toNat }
        (∃ u, exec (.fetchCompletionTimeout (some h) dt) s = .next u ∧ u.host.rqHead = next ∧ u.host.fetchError = true ∧ counted 3 u
          ∧ completes ⟨h.cq.toNat, hq⟩ (c 4) u ∧ u.host.fetched = s.host.fetched)
        ∧ (∃ u, exec (.fetchCompletionError (some h) false dt) s = .next u ∧ u.host.rqHead = next ∧ u.host.fetchError = true ∧ counted 3 u
          ∧ completes ⟨h.cq.toNat, hq⟩ (c 4) u ∧ u.host.fetched = s.host.fetched)
        ∧ (∃ u, exec (.fetchCompletionError (some h) true dt) s = .next u ∧ u.host.rqHead = next
          ∧ u.host.fetchError = s.host.fetchError ∧ counted 2 u ∧ completes ⟨h.cq.toNat, hq⟩ (c 4) u ∧ u.host.fetched = s.host.fetched)
        ∧ ∃ u, exec (.malformedRequestEntry h dt) s = .next u ∧ u.host.rqHead = next ∧ counted 4 u
          ∧ completes ⟨h.cq.toNat, hq⟩ (c 5) u ∧ u.host.fetched = s.host.fetched)
    ∧ (s.host.enable = false ∨ s.host.rqHead = s.host.rqTail ∨ dmaRuns s = false ∨ 16 ≤ s.host.fetched.length →
      ∀ (cq : Fin 4) (ch : Fin 16) (tag len : BitVec 32) (addr : BitVec 64) (req : Request),
        (∃ u, exec (.hostDictRequest cq tag addr len req dt) s = .next u ∧ u.host = s.host ∧ u.dict.waiting = s.dict.waiting)
        ∧ ∃ u, exec (.hostBufferPost cq ch tag addr len dt) s = .next u ∧ u.host = s.host)
    ∧ (hostOpen s = false → ∀ (v : BitVec 32) (e : Bool), exec (.rqDoorbell v dt) s = .next (latchStatus s)
        ∧ exec (.hostEnable e dt) s = .next (latchStatus s))
    ∧ (hostOpen s = true → ∀ v : BitVec 32, ∃ u, exec (.rqDoorbell v dt) s = .next u ∧ u.host = { h with rqTail := v.toNat }
        ∧ Crossed s u ∧ u.dict.waiting = s.dict.waiting)
    ∧ (hostOpen s = true → ∀ e : Bool, ∃ u, exec (.hostEnable e dt) s = .next u ∧ u.host = { h with enable := e }
        ∧ Crossed s u ∧ u.dict.waiting = s.dict.waiting)

/-- Completions and their messages (R388 to R391). A held completion is written when CQ_HEAD makes room: its data in writes of
at most 256 bytes, its record of Table 15-4 at CQ_BASE + 32 × (index mod size), and CQ_WRITTEN at CQ_INDEX, in that order; it
takes its place as CQ_WRITTEN, starts the timer if it is the first counted, and brings the message due at MOD_COUNT; a full ring
sets CQ_STALL and keeps it. A timer that expires brings the message due: it is sent, and the bit cleared, where vector and
function allow it; otherwise its PBA bit stays set, and in D3hot PME_Status is set. An unmasked vector sends what is pending.
TDC_FLUSH after its first stamp a buffer completes with its stamps. Records into buffers (R388). The oldest record routed to the
host goes whole into the buffer posted for its channel and completes with its RECORD_SEQ, STATUS 3 where the barn marks a word
of it, whose bytes go out with EP set (Table 15-6); a buffer that is too small completes empty with STATUS 2 and the record
stays. (A record lies outside the error log, which a marked word writes.) -/
def Obligations.HostCompletions : Prop :=
  (
      ∀ (s : State) (r : Fin 4) (dt : Nat),
        let q := s.host.rings[r]
        let vec : Fin 5 := ⟨r, by omega⟩
        let closed (c : Instr) : Prop := hostOpen s = false → exec c s = .next (latchStatus s)
        (∀ (v : BitVec 32) (x : Option (Fin 32)), closed (.cqHeadWrite r v dt) ∧ closed (.msixUnmask x dt) ∧ closed (.hostStatusClear v dt))
        ∧ (∀ (v : BitVec 32) (c : Completion), hostOpen s = true → q.held = [c] → dmaRuns (s.elapse dt) = true →
          let full := ¬ (q.written + 2 ^ 32 - v.toNat) % 2 ^ 32 < q.size
          ∃ u, exec (.cqHeadWrite r v dt) s = .next u ∧ u.host.rings[r].head = v.toNat ∧ u.host.buffers = s.host.buffers
            ∧ (full → u.host.cqStall = true ∧ u.host.rings[r].held = [c] ∧ u.host.rings[r].written = q.written)
            ∧ (¬ full → u.host.rings[r].held = [] ∧ u.host.rings[r].last = some { c with cqSeq := q.written }
              ∧ u.host.rings[r].written = (q.written + 1) % 2 ^ 32 ∧ u.host.cqStall = s.host.cqStall
              ∧ (∃ b : List Byte, b.length = 32 ∧ fieldAt 0 4 b = c.tag % 2 ^ 32 ∧ fieldAt 4 1 b = c.status % 256 ∧ fieldAt 5 1 b = c.opcode % 256
                  ∧ fieldAt 6 2 b = c.channel % 65536 ∧ fieldAt 8 4 b = c.length % 2 ^ 32 ∧ fieldAt 12 4 b = q.written % 2 ^ 32
                  ∧ fieldAt 16 8 b = c.detail % 2 ^ 64 ∧ u.host.postedWrites
                    = dataWrites c ++ [{ addr := q.base + 32 * (q.written % q.size), bytes := b },
                                       { addr := q.index, bytes := leBytes 4 ((q.written + 1) % 2 ^ 32) }])
              ∧ (∀ i w, (dataWrites c)[i]? = some w → w.addr = c.dataAt + 256 * i ∧ w.bytes.length ≤ 256
                  ∧ w.ep = c.poisoned.any fun b => b / 256 == i)
              ∧ (q.count + 1 < max 1 (q.modReg % 65536) → u.host.rings[r].count = q.count + 1 ∧ u.host.messages = s.host.messages
                  ∧ (q.timer = none → q.expired = false → q.modReg / 65536 ≠ 0 → u.host.rings[r].timer = some u.clk.now))
              ∧ (max 1 (q.modReg % 65536) ≤ q.count + 1 → vectorOpen vec s = true → u.host.rings[r].count = 0 ∧ u.host.rings[r].timer = none
                  ∧ u.host.messages[vec] = s.host.messages[vec] + 1 ∧ u.host.pba.getLsbD r = false)))
        ∧ (∀ t, q.timer = some t → Reachable (t + 1000 * (q.modReg / 65536)) s →
          ∃ u, exec (.modTimerExpiry r) s = .next u ∧ u.host.rings[r].timer = none ∧ u.dict.waiting = s.dict.waiting
            ∧ (vectorOpen vec s = true → u.host.messages[vec] = s.host.messages[vec] + 1 ∧ u.host.pba.getLsbD r = false
                ∧ u.host.rings[r].count = 0)
            ∧ (vectorOpen vec s = false → u.host.messages = s.host.messages ∧ u.host.pba = s.host.pba ||| (1#32 <<< r.val)
                ∧ u.host.rings[r].count = q.count
                ∧ u.host.pmeStatus = (s.host.pmeStatus || s.nat K.hostDState == 3)
                ∧ u.nat K.pmeCount = (if s.nat K.hostDState = 3 ∧ s.host.pmeEnable = true then min (s.nat K.pmeCount + 1) (2 ^ 32 - 1)
                    else s.nat K.pmeCount)))
        ∧ (hostOpen s = true → ∀ v : Fin 5, let on := s.host.msixEnable = true ∧ s.host.functionMask = false ∧ s.nat K.hostDState = 0
          ∃ u, exec (.msixUnmask (some ⟨v, by omega⟩) dt) s = .next u ∧ u.host.maskBits = s.host.maskBits &&& ~~~(1#32 <<< v.val)
            ∧ u.host.buffers = s.host.buffers
            ∧ (on → s.host.pba.getLsbD v = true → u.host.messages[v] = s.host.messages[v] + 1 ∧ u.host.pba.getLsbD v = false)
            ∧ ((¬ on ∨ s.host.pba.getLsbD v = false) → u.host.messages = s.host.messages ∧ u.host.pba = s.host.pba))
        ∧ (hostOpen s = true → ∃ u, exec (.msixUnmask none dt) s = .next u ∧ u.host.msixEnable = true ∧ u.host.functionMask = false
            ∧ u.host.maskBits = s.host.maskBits ∧ (s.nat K.hostDState = 0 → ∀ v : Fin 5,
              if s.host.pba.getLsbD v = true ∧ s.host.maskBits.getLsbD v = false then
                u.host.messages[v] = s.host.messages[v] + 1 ∧ u.host.pba.getLsbD v = false
              else u.host.messages[v] = s.host.messages[v] ∧ u.host.pba.getLsbD v = s.host.pba.getLsbD v))
        ∧ (∀ (ch : Fin 8) (p : Posted) (ps : List Posted), s.posted (tdcChannel ch) = p :: ps → p.bytes ≠ [] →
          let t := p.firstAt + 1000 * s.nat K.tdcFlush
          Reachable t s → dmaRuns (s.reach t) = true → s.host.rings[p.cq].held = [] → s.host.rings[p.cq].room = true →
          ∃ u, exec (.tdcFlushExpiry ch) s = .next u ∧ u.posted (tdcChannel ch) = ps ∧ u.tdc = s.tdc
            ∧ u.host.rings[p.cq].last = some {
                tag := p.tag, status := 0, opcode := 2, channel := p.channel, length := p.bytes.length,
                cqSeq := s.host.rings[p.cq].written, detail := p.bytes.length / 8, dataAt := p.addr, data := p.bytes })
        ∧ (hostOpen s = true → ∀ v : BitVec 32, ∃ u, exec (.hostStatusClear v dt) s = .next u ∧ Crossed s u
            ∧ u.host = { s.host with
                lastTlp := (s.elapse dt).clk.now, fetchError := s.host.fetchError && !v.getLsbD 2, cqStall := s.host.cqStall && !v.getLsbD 1,
                resetDone := s.host.resetDone && !v.getLsbD 0 }))
    ∧ (
      ∀ (s : State) (cq : Fin 4) (k : Fin 8) (tag len : BitVec 32) (addr : BitVec 64) (dt : Nat) (r : StreamRec),
        let v := s.elapse dt
        let bad := (List.range r.bytes).filter fun i => barnBad 7 v (r.slot + i)
        fetches s = true → dmaRuns v = true → r.slot + r.bytes ≤ logPlace s ∨ logPlace s + 1024 ≤ r.slot → len.toNat % 64 = 0 →
        s.posted (streamChannel k) = [] → s.streams[k].records.find? StreamRec.toHost = some r →
        (∀ j : Fin 8, j ≠ k → s.streams[j].records.find? StreamRec.toHost = none) → (∀ j : Fin 8, s.tdc.chan[j].queue = []) →
        (∀ j : Fin 4, s.host.rings[j].held = []) → s.host.rings[cq].room = true →
        let done (status : Nat) (data : List Byte) (bad : List Nat) (u : State) : Prop := u.posted (streamChannel k) = []
          ∧ u.host.rings[cq].last = some {
              tag := tag.toNat, status := status, opcode := 2, channel := k.val, length := data.length,
              cqSeq := s.host.rings[cq].written, detail := r.seq, dataAt := addr.toNat, data := data, poisoned := bad }
        ∃ u, exec (.hostBufferPost cq (streamChannel k) tag addr len dt) s = .next u
          ∧ (∀ j : Fin 8, j ≠ k → u.streams[j] = s.streams[j])
          ∧ (len.toNat < r.bytes → done 2 [] [] u ∧ u.streams[k] = s.streams[k] ∧ u.host.aer = s.host.aer)
          ∧ (r.bytes ≤ len.toNat → done (if bad = [] then 0 else 3) (readBarn v r.slot r.bytes) bad u
              ∧ u.streams[k] = dropRoute true r.seq s.streams[k]
              ∧ u.host.aer[0] = if bad = [] then s.host.aer[0] else min (s.host.aer[0] + 1) 0xFFFFFFFF))

/-- Resets, link and power of the host function (R392, R397). RESET_QUEUES drops posted buffers and fetched requests without a
completion, and what was fetched is answered in its turn and the answer discarded; a hot reset, FLR or link down does the same,
counts, ends the host's session (R443), and returns every BAR0 register to 0; that it returns the function to D0 with its MSI-X
control reset is the base specification's (log entry 50). L1 follows 10 µs without a TLP. D3hot stops DMA; D0 returns it, writes
what was held, and then sends each pending message once. HOST_LINK is 1 while the link trains, and it trains only where PCI
Express is on (R451, R495). -/
def Obligations.HostResetsAndPower : Prop :=
  ∀ (s : State) (dt : Nat),
    let dropped (u : State) : Prop := u.host.fetched = s.host.fetched.map (fun f => { f with discard := true })
      ∧ u.host.presented = s.host.presented ∧ u.host.rqHead = 0 ∧ u.host.rqTail = 0
      ∧ (∀ c : Fin 16, u.host.buffers[c] = [])
      ∧ (∀ r : Fin 4, u.host.rings[r].written = 0 ∧ u.host.rings[r].held = [] ∧ u.host.rings[r].count = 0)
      ∧ u.dict.waiting = s.dict.waiting ∧ u.bell = s.bell ∧ u.array = s.array
    (hostOpen s = false → exec (.resetQueues dt) s = .next (latchStatus s))
    ∧ (hostOpen s = true → ∃ u, exec (.resetQueues dt) s = .next u ∧ dropped u ∧ u.host.resetDone = true ∧ Crossed s u
        ∧ ∀ r : Fin 4, u.host.rings[r].base = s.host.rings[r].base ∧ u.host.rings[r].size = s.host.rings[r].size)
    ∧ (∀ down : Bool, ∃ u, exec (.hostHotReset down dt) s = .next u ∧ dropped u
        ∧ u.host.enable = false ∧ u.host.fetchError = false ∧ u.host.cqStall = false ∧ u.host.resetDone = false
        ∧ u.host.rqBase = 0 ∧ u.host.rqSize = 0 ∧ (∀ r : Fin 4, u.host.rings[r].base = 0 ∧ u.host.rings[r].size = 0
            ∧ u.host.rings[r].index = 0 ∧ u.host.rings[r].modReg = 0)
        ∧ u.nat K.hostResets = min (s.nat K.hostResets + 1) (2 ^ 32 - 1) ∧ u.ic.pending.getLsbD 49 = true
        ∧ u.nat K.hostDState = 0 ∧ u.nat (K.sessionLevel 2) = 2 ∧ u.host.msixEnable = false
        ∧ (down = true → u.nat K.hostLink = 0 ∧ u.nat K.linkSpeed = 0 ∧ u.nat K.linkWidth = 0))
    ∧ (s.host.aspmEnable = true → s.nat K.hostLink = 2 → Reachable (s.host.lastTlp + 10000) s →
        ∃ u, exec .aspmL1Entry s = .next u ∧ u.nat K.hostLink = 3 ∧ u.host = s.host
          ∧ (portsOn u = true → dmaRuns u = dmaRuns s))
    ∧ (hostOpen s = true → 2 ≤ s.nat K.hostLink → s.nat K.hostDState = 0 →
        ∃ u, exec (.hostD3hotEntry dt) s = .next u ∧ u.nat K.hostDState = 3 ∧ dmaRuns u = false ∧ u.ic.pending.getLsbD 49 = true
          ∧ u.host.buffers = s.host.buffers ∧ u.host.rings = s.host.rings ∧ u.host.fetched = s.host.fetched)
    ∧ (hostOpen s = true → 2 ≤ s.nat K.hostLink → s.nat K.hostDState = 3 →
        ∃ u, exec (.hostD0Return dt) s = .next u ∧ u.nat K.hostDState = 0 ∧ (portsOn u = true → dmaRuns u = true) ∧ u.ic.pending.getLsbD 49 = true
          ∧ u.host.functionMask = s.host.functionMask
          ∧ (∀ (r : Fin 4) (c : Completion), (∀ k : Fin 16, s.host.buffers[k] = []) → dmaRuns u = true → s.host.rings[r].held = [c] →
              s.host.rings[r].room = true → u.host.rings[r].held = []
                ∧ u.host.rings[r].last = some { c with cqSeq := s.host.rings[r].written })
          ∧ ∀ v : Fin 5, s.host.pba.getLsbD v = true → s.host.msixEnable = true → s.host.functionMask = false →
              s.host.maskBits.getLsbD v = false →
              u.host.messages[v] = s.host.messages[v] + 1 ∧ u.host.pba.getLsbD v = false)
    ∧ (∀ (speed : BitVec 2) (width : BitVec 3), speed ≠ 0 → width = 1 ∨ width = 2 ∨ width = 4 → s.nat K.hostLink ≤ 1 → hostOn s = true →
        ∃ u, exec (.hostLinkUp speed width dt) s = .next u ∧ u.nat K.hostLink = 2 ∧ u.nat K.linkSpeed = speed.toNat
          ∧ u.nat K.linkWidth = width.toNat)
    ∧ (s.nat K.hostLink = 0 → hostOn s = true → ∃ u, exec (.hostLinkUp 0 0 dt) s = .next u ∧ u.nat K.hostLink = 1)
    ∧ (hostOn s = false → ∀ (speed : BitVec 2) (width : BitVec 3), exec (.hostLinkUp speed width dt) s = .next (latchStatus s))

/-- The BAR2 window (R386, R393, R447). An access inside the window of a trained barn waits for a change of the host's window or
of HOST_WINDOW_BASE that is due, and is checked under what then holds. Permitted by initiator window 1, it reads the bytes at
HOST_WINDOW_BASE plus its offset, or writes them and no others, where the write queues have room and no other write of its cycle
comes after it (R311, log entry 44); a word that is marked, or whose command failed its CA parity (R321), aborts the read, and
the error log is written; a refused access reads nothing, writes nothing and counts as a refusal of the window. -/
def Obligations.Bar2Window : Prop :=
  ∀ (s : State) (off : BitVec 32) (dt : Nat),
    let v := awaitBase (awaitWindow 1 (s.elapse dt))
    let a := v.host.windowBase + off.toNat
    let inLog (a : Nat) : Prop := logPlace s ≤ a ∧ a < logPlace s + 1024
    let refused (u : State) : Prop := u.nat (K.windowRefusals 1) = min (s.nat (K.windowRefusals 1) + 1) (2 ^ 32 - 1)
      ∧ (∃ i : Fin 6, ∀ j : Fin 6, u.host.aer[j] = if j = i then min (s.host.aer[j] + 1) 0xFFFFFFFF else s.host.aer[j])
      ∧ u.barn = s.barn
    (∀ len, bar2Reaches off.toNat len s = true →
      ∃ u, exec (.bar2Read off len dt) s = .next u
        ∧ (windowPermits v 1 0 off.toNat len = true → (∀ i < len, barnBad 7 s (a + i) = false) →
            u.host.lastRead = some ((List.range len).map fun i => barnByte s (a + i)) ∧ u.host.aer = s.host.aer
              ∧ ∀ x, barnByte u x = barnByte s x)
        ∧ (windowPermits v 1 0 off.toNat len = true → (∃ i < len, barnBad 7 s (a + i) = true) →
            u.host.lastRead = none ∧ u.host.aer[1] = min (s.host.aer[1] + 1) 0xFFFFFFFF
              ∧ ((∃ i < len, barnMarked s (a + i) = true) → u.ic.pending.getLsbD 47 = true)
              ∧ ∀ x, ¬inLog x → barnByte u x = barnByte s x)
        ∧ (windowPermits v 1 0 off.toNat len = false → u.host.lastRead = none ∧ refused u))
    ∧ ∀ data : List Byte, bar2Reaches off.toNat data.length s = true →
      ∃ u, exec (.bar2Write off data dt) s = .next u
        ∧ (windowPermits v 1 1 off.toNat data.length = true → (∀ c : Fin 2, (s.chan c).writes.length + data.length / 64 + 2 ≤ 64
              ∧ ∀ x ∈ (s.chan c).arrivals, x.at_ ≠ v.clk.now) →
            ∀ x, barnByte u x = if a ≤ x ∧ x < a + data.length then data.getD (x - a) 0 else barnByte s x)
        ∧ (windowPermits v 1 1 off.toNat data.length = false → refused u)

/-- Plain register writes (R7, R386, R391, R392). Each BAR0 register takes its value, the ring bases with their low bits 0; a
write of a read-only register does nothing; an undefined offset is discarded and counted, and reads 0 (Table 15-6);
configuration space's controls take theirs; a poisoned write is counted and reported; configuration reads answer CRS until step
7 of a start (R488). A register that the host does not reach takes nothing. Plain stores of the supervisor cores (R7, R400, R402
to R404, R446). An aligned store inside a memory the core may reach changes those four bytes and no others, and a load there
returns them; one in the barn window joins the write queue of its line; the control core's TCM, the dictionary port, and the TDC
and housekeeping blocks are closed to the other core, as is what the core's protection or window bars: a store there is a store
access fault; a misaligned store raises its own exception and is not performed. A core that does not execute stores nothing.
What else a supervisor core does (R400, R402 to R405, R415; traps, CSRs, WFI and MRET by the RISC-V standards the manual cites,
log entry 117). A load of its RAM returns the bytes, extended as it asks; LR reserves a word, and SC stores and answers 0 only
where the reservation stands; an AMO answers the old word and stores the new one; outside the TCMs and shared SRAM they are
store access faults. WFI waits unless the core's level is presented or an enabled interrupt is pending. MRET gives back what a
trap saved. The debug modules of the supervisor cores (R446, R448, R459, R501). Without DMI in the instruction register, or
where the debug state does not allow it, a request does nothing. Full halts, resumes and steps a core that is available; a
halted core executes nothing, and its integer registers are read and written; Observe has none of these. An access that window 2
refuses is counted and fails. An opcode that Table 20-10 does not list acts as BYPASS. -/
def Obligations.PlainRegisters : Prop :=
  (
      ∀ (s : State) (v : BitVec 32) (dt : Nat),
        let bar0 (o : Nat) := exec (.registerWrite (.bar0 (BitVec.ofNat 16 o) v) dt) s
        let x := v.toNat
        let h := { s.host with lastTlp := (s.elapse dt).clk.now }
        let reads (o : Nat) (value : HostPort → Nat) : Prop := ∃ u, exec (.registerWrite (.bar0Read (BitVec.ofNat 16 o)) dt) s = .next u
          ∧ u.host = { h with lastWord := BitVec.ofNat 32 (value s.host) }
        let undefined (o : Nat) : Prop := o = 0x08 ∨ o = 0x0C ∨ (0x24 ≤ o ∧ o < 0x100) ∨ (0x180 ≤ o ∧ o < 0x8000)
        (hostOpen s = false → (∀ o, bar0 o = .next (latchStatus s))
          ∧ (∀ w, exec (.registerWrite (.pmcsr w) dt) s = .next (latchStatus s) ∧ exec (.registerWrite (.linkControl w) dt) s = .next (latchStatus s)
              ∧ exec (.registerWrite (.msixControl w) dt) s = .next (latchStatus s)))
        ∧ (hostOn s = true → ∀ o, ∃ u w, exec (.registerWrite (.configRead o) dt) s = .next u
            ∧ u.host = { h with lastConfig := if s.host.crs then none else some w }
            ∧ (o = 0 → w.toNat / 65536 = 0x8320) ∧ (o = 8 → w.toNat / 256 = 0x118000))
        ∧ (hostOpen s = true →
        (∃ u, bar0 0x04 = .next u ∧ u.host = { h with
            fetchError := s.host.fetchError && !v.getLsbD 2, cqStall := s.host.cqStall && !v.getLsbD 1,
            resetDone := s.host.resetDone && !v.getLsbD 0 })
        ∧ (v.getLsbD 1 = false → ∃ u, bar0 0x00 = .next u ∧ u.host = { h with enable := v.getLsbD 0 })
        ∧ (∃ u, bar0 0x10 = .next u ∧ u.host = { h with rqBase := s.host.rqBase / 2 ^ 32 * 2 ^ 32 + x / 64 * 64 })
        ∧ (∃ u, bar0 0x14 = .next u ∧ u.host = { h with rqBase := s.host.rqBase % 2 ^ 32 + x * 2 ^ 32 })
        ∧ (∃ u, bar0 0x18 = .next u ∧ u.host = { h with rqSize := x })
        ∧ (∃ u, bar0 0x1C = .next u ∧ u.host = { h with rqTail := x })
        ∧ (∃ u, bar0 0x20 = .next u ∧ u.host = h)
        ∧ (∀ r : Fin 4, let q := s.host.rings[r]
          let takes (o : Nat) (q' : CqRing) : Prop := ∃ u, bar0 (0x100 + 0x20 * r + o) = .next u ∧ u.host = { h with rings := s.host.rings.set r q' }
          takes 0x00 { q with base := q.base / 2 ^ 32 * 2 ^ 32 + x / 32 * 32 } ∧ takes 0x04 { q with base := q.base % 2 ^ 32 + x * 2 ^ 32 }
            ∧ (q.held = [] → takes 0x08 { q with size := x } ∧ takes 0x0C { q with head := x }) ∧ takes 0x10 q
            ∧ takes 0x14 { q with index := q.index / 2 ^ 32 * 2 ^ 32 + x / 4 * 4 } ∧ takes 0x18 { q with index := q.index % 2 ^ 32 + x * 2 ^ 32 }
            ∧ takes 0x1C { q with modReg := x })
        ∧ (∀ o, undefined o → (∃ u, bar0 o = .next u
            ∧ u.host = { h with aer := s.host.aer.set 5 (min (s.host.aer[5] + 1) 0xFFFFFFFF) })
            ∧ ∃ u, exec (.registerWrite (.bar0Read (BitVec.ofNat 16 o)) dt) s = .next u
              ∧ u.host = { h with aer := s.host.aer.set 5 (min (s.host.aer[5] + 1) 0xFFFFFFFF), lastWord := 0 })
        ∧ (∀ o, o = 0x9000 ∨ o = 0x9004 → ∃ u, bar0 o = .next u ∧ u.host = h)
        ∧ reads 0x18 HostPort.rqSize ∧ reads 0x1C HostPort.rqTail ∧ reads 0x20 HostPort.rqHead ∧ reads 0x9000 (fun y => y.pba.toNat)
        ∧ reads 0x9004 (fun _ => 0) ∧ reads 0x00 (fun y => if y.enable then 1 else 0)
        ∧ (∃ u, exec (.registerWrite .poisonedWrite dt) s = .next u
            ∧ u.host = { h with aer := s.host.aer.set 2 (min (s.host.aer[2] + 1) 0xFFFFFFFF), aerReported := s.host.aerReported ||| 4#6 })
        ∧ (∀ rows, ∃ u, exec (.registerWrite (.aerClear rows) dt) s = .next u ∧ u.host = { h with aerReported := s.host.aerReported &&& ~~~rows })
        ∧ (∀ w, ∃ u, exec (.registerWrite (.deviceControl2 w) dt) s = .next u ∧ u.host = { h with timeoutSetting := w.extractLsb' 0 4 })
        ∧ (∀ w : BitVec 16, w.toNat % 4 = 3 → s.nat K.hostDState = 0 → ∃ u, exec (.registerWrite (.pmcsr w) dt) s = .next u
            ∧ u.nat K.hostDState = 3 ∧ u.ic.pending.getLsbD 49 = true ∧ u.host.pmeEnable = w.getLsbD 8)
        ∧ (∀ w : BitVec 16, w.toNat % 4 = 0 → s.nat K.hostDState = 0 → ∃ u, exec (.registerWrite (.pmcsr w) dt) s = .next u
            ∧ u.host = { h with pmeEnable := w.getLsbD 8, pmeStatus := s.host.pmeStatus && !w.getLsbD 15 })
        ∧ (∀ w : BitVec 16, ∃ u, exec (.registerWrite (.linkControl w) dt) s = .next u ∧ u.host = { h with aspmEnable := w.getLsbD 1 })
        ∧ (∀ w : BitVec 16, s.host.pba = 0 → ∃ u, exec (.registerWrite (.msixControl w) dt) s = .next u
            ∧ u.host = { h with msixEnable := w.getLsbD 15, functionMask := w.getLsbD 14 })))
    ∧ (
      ∀ (s : State) (a v : BitVec 32) (dt : Nat),
        let write (c : Fin 2) := exec (.registerWrite (.core c a v) dt) s
        let put (o : Nat) (old new : Sparse Byte) : Prop :=
          ∀ i, sparseGet (fun _ => (0 : Byte)) new i
            = if o ≤ i ∧ i < o + 4 then (leBytes 4 v.toNat).getD (i - o) 0 else sparseGet (fun _ => (0 : Byte)) old i
        let n := a.toNat
        let kept (u : State) : Prop := u.cores.controlTcm = s.cores.controlTcm ∧ u.cores.appTcm = s.cores.appTcm
          ∧ u.cores.sharedSram = s.cores.sharedSram ∧ u.barn = s.barn ∧ u.host = s.host ∧ u.tdc = s.tdc ∧ u.hk = s.hk
        (∀ c : Fin 2, (coreActs c s = false → write c = .next (latchStatus s))
          ∧ (coreActs c s = true → n % 4 ≠ 0 → ∃ u, write c = .next u ∧ kept u ∧ u.cores.accessFault = false
              ∧ (u.hart c).fault = some .storeMisaligned ∧ (u.hart c).mcause = 6 ∧ (u.hart c).mtval = a)
          ∧ (n % 4 = 0 → CoreBarred c 1 n dt s → ∃ u, write c = .next u ∧ kept u ∧ CoreFaults c 1 n u))
        ∧ (n % 4 = 0 →
          (0x10000000 ≤ n → n < 0x10080000 → (CoreMay 0 1 n dt s → ∃ u, write 0 = .next u
              ∧ put (n - 0x10000000) s.cores.controlTcm u.cores.controlTcm ∧ coreLoad 0 n 4 u = some v.toNat ∧ u.cores.accessFault = false
              ∧ u.cores.appTcm = s.cores.appTcm ∧ u.cores.sharedSram = s.cores.sharedSram ∧ u.barn = s.barn)
            ∧ (coreActs 1 s = true → ∃ u, write 1 = .next u ∧ kept u ∧ CoreFaults 1 1 n u))
          ∧ (0x18000000 ≤ n → n < 0x18080000 → ∀ c : Fin 2, CoreMay c 1 n dt s → ∃ u, write c = .next u
              ∧ put (n - 0x18000000) s.cores.appTcm u.cores.appTcm ∧ u.cores.accessFault = false ∧ (∀ k, coreLoad k n 4 u = some v.toNat)
              ∧ u.cores.controlTcm = s.cores.controlTcm ∧ u.cores.sharedSram = s.cores.sharedSram ∧ u.barn = s.barn)
          ∧ (0x20000000 ≤ n → n < 0x20100000 → ∀ c : Fin 2, CoreMay c 1 n dt s → ∃ u, write c = .next u
              ∧ put (n - 0x20000000) s.cores.sharedSram u.cores.sharedSram ∧ u.cores.accessFault = false ∧ (∀ k, coreLoad k n 4 u = some v.toNat)
              ∧ u.cores.controlTcm = s.cores.controlTcm ∧ u.cores.appTcm = s.cores.appTcm ∧ u.barn = s.barn)
          ∧ (0x80000000 ≤ n → n < 0x80000000 + s.barn.supArea → ∀ c : Fin 2,
              (∀ k : Fin 2, (s.chan k).writes.length < 64 ∧ ∀ x ∈ (s.chan k).arrivals, x.at_ ≠ (coreArrives c dt s).clk.now) →
              CoreMay c 1 n dt s → ∃ u, write c = .next u ∧ u.cores.accessFault = false
                ∧ let o := areaBase s 6 + (n - 0x80000000)
                  ∀ i, barnByte u i = if o ≤ i ∧ i < o + 4 then (leBytes 4 v.toNat).getD (i - o) 0 else barnByte s i)
          ∧ (0x40010000 ≤ n ∧ n < 0x40020000 ∨ 0x40030000 ≤ n ∧ n < 0x40050000 → coreActs 0 s = true → ∃ u, write 0 = .next u ∧ kept u
              ∧ CoreFaults 0 1 n u ∧ u.dict = { s.dict with latch := u.dict.latch })))
    ∧ (
      ∀ (s : State) (c : Fin 2) (a : BitVec 32) (dt : Nat),
        let run (op : CoreOp) := exec (.registerWrite (.coreOp c op) dt) s
        let n := a.toNat
        let word (u : State) : BitVec 32 := BitVec.ofNat 32 (ramLoad n 4 u)
        (coreActs c s = false → ∀ op, run op = .next (latchStatus s))
        ∧ (coreActs c s = true → n % 4 = 0 →
          (coreRam c n = true → CoreMay c 0 n dt s →
            (∃ u, run (.load .word false a) = .next u ∧ (u.hart c).loaded = word s ∧ u.cores.accessFault = false)
            ∧ ∃ u, run (.loadReserved a) = .next u ∧ (u.hart c).loaded = word s ∧ (u.hart c).reserved = some a)
          ∧ (coreRam c n = true → CoreMay c 1 n dt s → ∀ v : BitVec 32,
            (∃ u, run (.storeConditional a v) = .next u ∧ (u.hart c).reserved = none
              ∧ (if (s.hart c).reserved = some a then (u.hart c).loaded = 0 ∧ word u = v else (u.hart c).loaded = 1 ∧ word u = word s))
            ∧ ∀ op, ∃ u, run (.amo op a v) = .next u ∧ (u.hart c).loaded = word s ∧ word u = amoResult op (word s) v
              ∧ (∀ x ∈ (s.hart (1 - c)).reserved, x.toNat / 4 = n / 4 → (u.hart (1 - c)).reserved = none))
          ∧ (coreRam c n = false → ∀ (v : BitVec 32) (op : AmoOp),
            (∃ u, run (.loadReserved a) = .next u ∧ CoreFaults c 1 n u) ∧ (∃ u, run (.storeConditional a v) = .next u ∧ CoreFaults c 1 n u)
              ∧ ∃ u, run (.amo op a v) = .next u ∧ CoreFaults c 1 n u))
        ∧ (coreActs c s = true → n % 4 ≠ 0 → ∃ u, run (.load .word false a) = .next u ∧ (u.hart c).fault = some .loadMisaligned
            ∧ (u.hart c).mcause = 4 ∧ (u.hart c).mtval = a)
        ∧ (CoreBarred c 0 n dt s → n % 4 = 0 → coreRam c n = true → ∃ u, run (.load .word false a) = .next u ∧ CoreFaults c 0 n u)
        ∧ (coreActs c s = true → (s.hart c).stepping = false →
          (∃ u, run .wfi = .next u ∧ (wfiPasses c (s.elapse dt) = true → u.cores.waiting[c] = false)
            ∧ (wfiPasses c (s.elapse dt) = false → u.cores.waiting[c] = true ∧ coreActs c u = false ∧ (c = 1 → u.nat K.appCoreState = 3)))
          ∧ ((s.hart c).mode = .machine → ∃ u, run .mret = .next u ∧ (u.hart c).mode = (s.hart c).mpp ∧ (u.hart c).mie = (s.hart c).mpie
              ∧ (u.hart c).pc = (s.hart c).mepc)
          ∧ ((s.hart c).mode = .user → ∃ u, run .mret = .next u ∧ (u.hart c).fault = some .illegalInstruction ∧ (u.hart c).mode = .machine
              ∧ (u.hart c).mepc = (s.hart c).pc ∧ (u.hart c).mcause = 2)
          ∧ ((s.hart c).mode = .machine → ∀ w : BitVec 32, ∃ u, run (.csr 0x304 (some w)) = .next u
              ∧ (u.hart c).loaded = (s.hart c).enables ∧ (u.hart c).enables = w &&& 0x880#32)))
    ∧ (
      ∀ (s : State) (c : Fin 2) (dt : Nat),
        let ask (op : DebugOp) := exec (.registerWrite (.debug c op) dt) s
        let full := tapInstr s = .dmi ∧ s.nat K.debugState = 2
        let failed (u : State) : Prop := u.cores.debugUnit.failed = true ∧ u.cores.harts = s.cores.harts
        (tapInstr s ≠ .dmi → ∀ op, ∃ u, ask op = .next u ∧ u.cores = s.cores ∧ u.dict.store = s.dict.store)
        ∧ (full → coreAvailable c s = true → ∃ u, ask .halt = .next u ∧ (u.hart c).halted = true ∧ coreActs c u = false
            ∧ u.cores.debugUnit.failed = false ∧ (c = 1 → u.nat K.appCoreState = 4))
        ∧ (full → coreAvailable c s = false → ∃ u, ask .halt = .next u ∧ failed u)
        ∧ (full → coreAvailable c s = true → (s.hart c).halted = true →
          (∃ u, ask .resume = .next u ∧ (u.hart c).halted = false ∧ (u.hart c).stepping = false ∧ (c = 1 → u.nat K.appCoreState = 2))
          ∧ (∃ u, ask .step = .next u ∧ (u.hart c).halted = false ∧ (u.hart c).stepping = true)
          ∧ (∀ r : Fin 32, r ≠ 0 → ∃ u, ask (.readReg r) = .next u ∧ u.cores.debugUnit.data = (s.hart c).regs[r] ∧ u.cores.debugUnit.failed = false)
          ∧ ∀ (r : Fin 32) (v : BitVec 32), ∃ u, ask (.writeReg r v) = .next u
              ∧ (u.hart c).regs = (if r = 0 then (s.hart c).regs else (s.hart c).regs.set r v))
        ∧ (tapInstr s = .dmi → s.nat K.debugState = 1 → ∀ (r : Fin 32) (v : BitVec 32), (∃ u, ask .halt = .next u ∧ failed u)
            ∧ (∃ u, ask .step = .next u ∧ failed u) ∧ (∃ u, ask (.readReg r) = .next u ∧ failed u)
            ∧ ∃ u, ask (.writeReg r v) = .next u ∧ failed u)
        ∧ (tapInstr s = .dmi → ∀ a : BitVec 32, a.toNat % 4 = 0 → windowPermits (awaitWindow 2 (s.elapse dt)) 2 0 a.toNat 4 = false →
            ∃ u, ask (.readBus .word a) = .next u ∧ failed u
              ∧ u.nat (K.windowRefusals 2) = min (s.nat (K.windowRefusals 2) + 1) (2 ^ 32 - 1))
        ∧ (tapInstr s = .dmi → ∀ a : BitVec 32, a.toNat % 4 = 0 → windowPermits (awaitWindow 2 (s.elapse dt)) 2 0 a.toNat 4 = true →
            coreRam c a.toNat = true → ∃ u, ask (.readBus .word a) = .next u ∧ u.cores.debugUnit.failed = false
              ∧ u.cores.debugUnit.data = BitVec.ofNat 32 (ramLoad a.toNat 4 s))
        ∧ (∀ b : BitVec 8, s.power.hold = false → s.power.off = false → (∀ i : TapInstr, i.opcode ≠ b) →
            ∃ u, exec (.registerWrite (.tapOpcode b) dt) s = .next u ∧ u.tap.ir = b ∧ tapInstr u = .bypass))

/-- An ARP request for STREAM_IP is answered and counted while the port sends; every other received frame is discarded and
counted; a change of the link raises its event. While STREAM_LOS is high there is no link (R399). One datagram (R394 to R396).
The next stream in turn sends the next D_max bytes of its oldest record, at the settings taken at the record's first datagram,
under the header of Table 15-7 and IPv4 and UDP headers without options, with DF and good checksums; the last one ends the
record's route; the other streams keep their queues. A started record waits while the link is down, in Standby and in a
shut-down (log entry 40); one that has not started is discarded and counted where the port discards. -/
def Obligations.StreamPort : Prop :=
  (
      ∀ (s : State) (dt : Nat),
        let discards (u : State) : Prop := u.nat K.rxDiscarded = min (s.nat K.rxDiscarded + 1) (2 ^ 32 - 1) ∧ u.port = s.port
          ∧ u.nat K.arpReplies = s.nat K.arpReplies
        (s.nat K.streamLink = 1 →
        (∀ (ip senderIp : BitVec 32) (mac : BitVec 48), ∃ u, exec (.arpRequest ip mac senderIp dt) s = .next u
          ∧ (portSends (s.elapse dt) = true → s.nat K.streamIp ≠ 0 → ip.toNat = s.nat K.streamIp →
              u.nat K.arpReplies = min (s.nat K.arpReplies + 1) (2 ^ 32 - 1) ∧ u.nat K.rxDiscarded = s.nat K.rxDiscarded
              ∧ u.port = { s.port with lastArp := some (mac.toNat, senderIp.toNat) })
          ∧ (ip.toNat ≠ s.nat K.streamIp → discards u))
        ∧ (∃ u, exec (.streamRxDiscard dt) s = .next u ∧ discards u)
        ∧ (∃ u, exec (.streamLinkChange (.link false) dt) s = .next u ∧ u.nat K.streamLink = 0 ∧ u.ic.pending.getLsbD 50 = true ∧ u.port = s.port)
        ∧ ∃ u, exec (.streamLinkChange (.los true) dt) s = .next u ∧ u.nat K.streamLink = 0 ∧ u.ic.pending.getLsbD 50 = true
            ∧ u.port = { s.port with los := true })
        ∧ (s.nat K.streamLink = 0 → ∃ u, exec (.streamLinkChange (.link true) dt) s = .next u ∧ u.port = s.port
            ∧ (s.port.los = false → u.nat K.streamLink = 1 ∧ u.ic.pending.getLsbD 50 = true)
            ∧ (s.port.los = true → u.nat K.streamLink = 0 ∧ u.ic = s.ic))
        ∧ ∃ u, exec (.streamLinkChange (.los false) dt) s = .next u ∧ u.nat K.streamLink = s.nat K.streamLink ∧ u.ic = s.ic
            ∧ u.port = { s.port with los := false })
    ∧ (
      ∀ (s : State) (dt : Nat) (k : Fin 8) (r : OutRecord) (rest : List OutRecord) (x : StreamRec),
        nextTurn s = some k → s.port.queues[k] = r :: rest → 
        (r.sent = 0 → portDiscards k s = true → ∃ u, exec (.datagramSend dt) s = .next u ∧ u.port.queues[k] = rest ∧ u.port.lastTurn = k
          ∧ u.nat K.droppedUnsent = min (s.nat K.droppedUnsent + 1) (2 ^ 32 - 1) ∧ u.streams[k] = dropRoute false r.seq s.streams[k]
          ∧ u.port.lastSent = s.port.lastSent)
        ∧ (r.sent ≠ 0 → s.nat K.streamLink = 0 ∨ s.nat K.powerState = 2 ∨ portsOn s = false →
            ∃ u, exec (.datagramSend dt) s = .next u ∧ u.port = s.port ∧ u.streams = s.streams)
        ∧ ((if r.sent = 0 then portDiscards k s = false
            else s.nat K.streamLink ≠ 0 ∧ s.nat K.powerState ≠ 2 ∧ portsOn s = true) →
        s.streams[k].records.find? (fun y => y.seq == r.seq && y.toPort) = some x →
        let f (i : Nat) : Nat := if r.sent = 0 then (portSettings k s).getD i 0 else s.port.inForce[k].getD i 0
        let d := (f 2 - 60) / 8 * 8
        let n := min d (r.bytes - r.sent)
        let last := decide (r.bytes ≤ r.sent + n)
        ∃ u g, exec (.datagramSend dt) s = .next u ∧ u.port.lastSent = some g ∧ u.port.lastTurn = k
          ∧ g.payload = (portData s x.slot r.sent n).1 ∧ g.srcMac = f 0 ∧ g.dstMac = f 5 ∧ g.srcIp = f 1 ∧ g.dstIp = f 6 ∧ g.srcPort = f 8
          ∧ g.dstPort = f 7 ∧ g.ttl = f 3 ∧ g.dscp = f 4 ∧ g.ident = s.port.ident ∧ u.port.ident = (s.port.ident + 1) % 65536
          ∧ slice 0 4 g.ipHeader = [0x45, BitVec.ofNat 8 (4 * f 4)] ++ beBytes 2 (60 + n) ∧ slice 6 4 g.ipHeader = [0x40, 0, BitVec.ofNat 8 (f 3), 0x11]
          ∧ g.ipHeader.length = 20 ∧ g.udpHeader.length = 8 ∧ onesSum g.ipHeader % 65535 = 0
          ∧ onesSum (beBytes 4 (f 1) ++ beBytes 4 (f 6) ++ [0, 0x11] ++ beBytes 2 (40 + n) ++ g.udpHeader ++ g.header ++ g.payload) % 65535 = 0
          ∧ slice 0 5 g.header = [0x43, 0x57, 0x53, 0x50, 0x01] ∧ g.header.getD 5 0 = BitVec.ofNat 8 k
          ∧ fieldAt 6 1 g.header = b2n (r.sent == 0) + b2n last * 2 + b2n (portData s x.slot r.sent n).2 * 4 + b2n s.port.lostBefore[k] * 8
          ∧ fieldAt 16 4 g.header = r.seq % 2 ^ 32 ∧ fieldAt 20 4 g.header = r.bytes % 2 ^ 32 ∧ fieldAt 24 4 g.header = r.sent % 2 ^ 32
          ∧ fieldAt 28 2 g.header = r.fragIndex % 2 ^ 16 ∧ fieldAt 30 2 g.header = (r.bytes + d - 1) / d % 2 ^ 16
          ∧ u.nat K.datagramsSent = (s.nat K.datagramsSent + 1) % 2 ^ 64
          ∧ u.port.queues[k] = (if last then rest else { r with sent := r.sent + n, fragIndex := r.fragIndex + 1 } :: rest)
          ∧ (∀ j : Fin 8, j ≠ k → u.port.queues[j] = s.port.queues[j] ∧ u.streams[j] = s.streams[j])
          ∧ u.streams[k] = (if last then dropRoute false r.seq s.streams[k] else s.streams[k])))

/-! ### Protection, start and test -/

/-- Supply events (R454 to R457). A warning crossing enters Brace: the configuration store is held, the event raised; another
rail only adds its crossing. Brace ends without reset: counted, LAST_DIP shows the rail, its record formed, and what waited goes
on; a power request that waited and whose condition is gone is discarded (the model's choice, log entry 121). Resets (R161,
R165, R360, R457, R465, R476, R477, R485, R487, R495, R496). A supply below reset level holds the device and counts it, from
RESET_N too within 1 ms; RESET_N low for 1.0 µs resets it, below 100 ns does nothing; between the two the manual says neither
(free, log entry 58); a supply gone in Off, or 1 ms into RESET_N, makes the next start one from power-on. Each removes source
drive and leaves the kept entries, the fuses, the firmware copies, profiles, the words found hard and every sealed record; every
other entry and unit is at reset. An orderly shut-down writes the report card into the older slot, of the partitions that ran,
in order, none after a Brace, and ends in Off with SHDN_DONE high; what cuts the writing of the card short leaves its slot
without one. -/
def Obligations.SupplyAndResets : Prop :=
  (
      ∀ (s : State) (rail : Fin 3) (dt : Nat),
        let v := s.elapse dt
        (awake s = true → s.nat K.supplyState ≠ 1 → s.power.crossed[rail] = none →
          ∃ u, exec (.supplyWarning rail dt) s = .next u ∧ u.nat K.supplyState = 1 ∧ u.power.held = some s.dict.store
            ∧ u.ic.pending.getLsbD 51 = true
            ∧ u.power.crossed = s.power.crossed.set rail (some (v.clk.now - 200, v.clk.devTime - 200))
            ∧ u.array = s.array ∧ u.dict.waiting = s.dict.waiting ∧ u.drive = s.drive)
        ∧ (awake s = true → s.nat K.supplyState = 1 → s.power.crossed[rail] = none →
          ∃ u, exec (.supplyWarning rail dt) s = .next u ∧ u.dict.store = s.dict.store ∧ u.ic = s.ic
            ∧ u.power = { s.power with crossed := s.power.crossed.set rail (some (v.clk.now - 200, v.clk.devTime - 200)) })
        ∧ (∀ (minima : Vector (BitVec 16) 3) (durations : Vector (BitVec 32) 3) (t0 t : Nat), s.nat K.supplyState = 1 →
          s.power.waiting = none → s.power.crossed = (Vector.replicate 3 none).set rail (some (t0, t)) →
          ∃ u, exec (.braceEnd minima durations dt) s = .next u ∧ u.nat K.supplyState = 0
            ∧ u.nat K.dipCount = min (s.nat K.dipCount + 1) (2 ^ 32 - 1)
            ∧ u.block K.lastDip = leBytes 8 t ++ leBytes 1 rail ++ zeros 1 ++ leBytes 2 minima[rail].toNat ++ leBytes 4 durations[rail].toNat
            ∧ u.ic.pending.getLsbD 52 = true ∧ u.power = { s.power with
                crossed := Vector.replicate 3 none, held := none, bistDip := s.power.bistDip || braceOverBist v }
            ∧ (∀ k : Fin 8, u.dict.ops[k] = { s.dict.ops[k] with stalled := false }) ∧ u.nat K.powerState = s.nat K.powerState)
        ∧ ∀ (minima : Vector (BitVec 16) 3) (durations : Vector (BitVec 32) 3) (x : Nat), s.nat K.supplyState = 1 →
          s.power.waiting = some x → s.power.crossed = Vector.replicate 3 none → s.nat K.debugState = 3 →
          ∃ u, exec (.braceEnd minima durations dt) s = .next u ∧ u.nat K.supplyState = 0 ∧ u.power.waiting = none
            ∧ u.power.transition = s.power.transition ∧ u.nat K.powerState = s.nat K.powerState)
    ∧ (
      ∀ (s : State) (dt : Nat),
        let v := s.elapse dt
        let r := State.reset
        let atReset (u : State) : Prop :=
          (∀ k ∈ keptKeys, s.power.held = none → valIn u.dict.store k = valIn s.dict.store k)
            ∧ (∀ k, k ∉ keptKeys → k ∉ lastingKeys → valIn u.dict.store k = defaultVal k)
            ∧ u.nat K.startCount = s.nat K.startCount ∧ u.nat K.enginesInService = s.nat K.enginesInService
            ∧ u.sec.keys = s.sec.keys ∧ u.sec.revoked = s.sec.revoked ∧ u.sec.fuseLifecycle = s.sec.fuseLifecycle
            ∧ u.sec.keyRegs = r.sec.keyRegs ∧ u.cores = { r.cores with copies := s.cores.copies } ∧ u.dict.profiles = s.dict.profiles
            ∧ u.dict.imageSlots = s.dict.imageSlots ∧ u.dict.waiting = r.dict.waiting ∧ u.dict.shadow = [] ∧ u.dict.ops = r.dict.ops
            ∧ u.clk = r.clk ∧ u.bell = r.bell ∧ u.launch = r.launch ∧ u.servo = r.servo ∧ u.tdc = r.tdc ∧ u.exc = r.exc
            ∧ u.drive = { r.drive with interlockLow := s.drive.interlockLow } ∧ u.drive.applied = false
            ∧ u.chain = r.chain ∧ u.capture = r.capture ∧ u.raman = r.raman ∧ u.detect = r.detect ∧ u.granary = r.granary ∧ u.tt = r.tt
            ∧ u.barn = r.barn ∧ u.streams = r.streams ∧ u.profiler = r.profiler ∧ u.fibre = r.fibre ∧ u.ic = r.ic ∧ u.timer = r.timer
            ∧ u.hk = r.hk ∧ u.node = r.node ∧ u.policy = r.policy ∧ u.tap = r.tap ∧ u.host = r.host ∧ u.port = r.port
            ∧ (∀ e : Fin 32, u.eng e = { hard := (s.eng e).hard } ∧ u.nat (K.hardWords e) = s.nat (K.hardWords e))
            ∧ (∀ c : Fin 4, u.room c = { failed := (s.room c).failed }) ∧ u.bb.training = s.bb.training
            ∧ u.bb.queue = [] ∧ u.start.ran = false ∧ u.pending = s.pending
            ∧ ∀ i < 1024, ∀ x, bbSlot s i = some x → bbSlot u i = some x
        let cards (u : State) : Prop := (s.power.shutdownAt = none → u.bb.cards = s.bb.cards)
          ∧ ∀ t, s.power.shutdownAt = some t → u.bb.cards =
            if s.nat K.bistOnShutdown = 1 ∧ s.power.cardDone = false ∧ t + 43000000 ≤ v.clk.now ∧ v.clk.now < t + 43100000
            then s.bb.cards.set (cardSlot s) none else s.bb.cards
        (∀ rail : Fin 3, awake s = true → ∃ u, exec (.supplyReset rail dt) s = .next u ∧ atReset u ∧ u.power.hold = true ∧ u.power.cause = 3
            ∧ u.nat K.holdCount = min (s.nat K.holdCount + 1) (2 ^ 32 - 1) ∧ cards u)
        ∧ (∀ rail : Fin 3, s.power.hold = true → ∃ u, exec (.supplyReset rail dt) s = .next u ∧ u = latchStatus s)
        ∧ (∀ rail : Fin 3, s.power.hold = false → s.power.off = true ∨ s.power.inReset = true → s.power.note = none ∨ 1000000 ≤ v.clk.now →
            ∃ u, exec (.supplyReset rail dt) s = .next u ∧ atReset u ∧ u.power.inReset = true ∧ u.power.cause = 0 ∧ u.bb.cards = s.bb.cards)
        ∧ (∀ (rail : Fin 3) (n : ResetNote), s.power.hold = false → s.power.inReset = true → s.power.note = some n → v.clk.now < 1000000 →
            ∃ u, exec (.supplyReset rail dt) s = .next u ∧ u.power.hold = true ∧ u.power.inReset = false ∧ u.power.cause = 3
              ∧ u.nat K.holdCount = min (s.nat K.holdCount + 1) (2 ^ 32 - 1))
        ∧ (∀ low, low < 100 → ∃ u, exec (.resetAssert low dt) s = .next u ∧ u = latchStatus s)
        ∧ (∀ low, s.power.hold = true ∨ s.power.inReset = true → ∃ u, exec (.resetAssert low dt) s = .next u ∧ u = latchStatus s)
        ∧ (∀ low, 100 ≤ low → low < 1000 → s.power.hold = false → s.power.inReset = false → ∃ u, exec (.resetAssert low dt) s = .next u
            ∧ ((atReset u ∧ u.power.inReset = true) ∨ u = latchStatus (s.elapse dt).draw))
        ∧ (∀ low, 1000 ≤ low → s.power.hold = false → s.power.inReset = false →
            ∃ u, exec (.resetAssert low dt) s = .next u ∧ atReset u ∧ u.power.inReset = true ∧ u.power.off = false
              ∧ u.power.cause = (if s.power.off then 2 else if s.nat K.debugState = 3 then 4 else 1)
              ∧ u.nat K.holdCount = s.nat K.holdCount ∧ cards u)
        ∧ (∀ (b : BistResult) (t : Nat), s.power.shutdownAt = some t → s.nat K.supplyState ≠ 1 →
            let writes : Prop := s.nat K.bistOnShutdown = 1 ∧ s.power.cardDone = false
            let atCard : Prop := writes ∧ t + 43100000 ≤ s.clk.now + dt ∧ s.clk.now + dt < t + 43200000
            let written (u : State) : Prop := (¬writes → u.bb.cards = s.bb.cards)
              ∧ (writes →
                  let ran := partitionsRun b s.power.bistDip
                  ∃ (i : Fin 2) (c : Card), newestCardSlot s ≠ some i
                  ∧ u.bb.cards = s.bb.cards.set i (if b.cardHolds then some c else none) ∧ c.startCount = s.nat K.startCount
                  ∧ ran ≤ 8 ∧ c.partRun = 2 ^ ran - 1 ∧ c.vcoreMin = b.vcoreMin.toNat ∧ c.dieTemp = b.dieTemp.toNat
                  ∧ (s.power.bistDip = true → ran < 8)
                  ∧ (∀ p : Fin 8, p.val < ran → 780 ≤ (b.readings[p]).toNat ∧ (b.readings[p]).toNat ≤ 840)
                  ∧ c.result = if ran < 8 then 2 else if ∀ p : Fin 8, b.signatures[p] = Config.bistSignature p then 0 else 1)
            (atCard → ∃ u, exec (.shutdownComplete b dt) s = .next u ∧ written u ∧ u.power.cardDone = true
              ∧ u.power.off = s.power.off ∧ u.power.shutdownAt = some t ∧ u.start = s.start)
            ∧ (¬atCard → ∃ u, exec (.shutdownComplete b dt) s = .next u ∧ atReset u ∧ u.power.off = true ∧ u.start.shdnDone = true
              ∧ written u)))

/-- A start from reset (R409, R438, R463, R478, R482, R488 to R493), no update waiting and no automatic timetable, profile or
bells. Lifecycle and debug state come from the fuses, START_COUNT counts, RESET_CAUSE says what reset it was. With a control
copy and a trained barn it ends in Watch, START_STATE 1, and the endpoint no longer answers with CRS; quick only after a passed
card of the start before, with its barn training kept and verified, else in full (that a channel without kept results fails its
verification is the model's reading, log entry 82); without a trained barn START_STATE is 6; a failing card, or no control copy,
ends in Quiet, 7. The control firmware (R491, R494). It goes on with the start once what it waits for has ended, the turn of a
write and the lock of the references among it; a watchdog expiry counts a restart, loads the selected copy again, and stops the
bells, which the firmware starts again. -/
def Obligations.StartUp : Prop :=
  (
      ∀ (s : State) (f : StartFacts),
        s.power.inReset = true → s.power.off = false → s.power.held = none → s.start.ran = false → f.cells = [] → s.bb.marks = [] →
        (∀ i : Fin 8, s.dict.imageSlots[i] = []) → s.nat K.startTtSlot = 255 → s.nat K.profileAuto = 255 → s.nat K.startBells = 0 →
        let control := (s.cores.copies[0]).isSome ∨ (s.cores.copies[1]).isSome
        let common (u : State) : Prop := u.start.ran = true ∧ u.start.resetOut = true ∧ u.nat K.lifecycle = s.sec.fuseLifecycle
          ∧ u.nat K.startCount = (s.nat K.startCount + 1) % 2 ^ 32 ∧ u.nat K.resetCause = s.power.cause ∧ u.nat K.vholdOk = b2n f.vholdOk
          ∧ u.nat K.debugState = (if s.sec.fuseLifecycle = 0 then 2 else if s.sec.fuseLifecycle = 1 then s.nat K.debugDefault else 0)
          ∧ u.sec.keyRegs = #v[s.sec.keys[4], s.sec.keys[5]] ∧ u.cores.copies = s.cores.copies ∧ u.host.crs = false
        let full (u : State) : Prop := u.nat K.enginesInService = 0xFFFFFFFF ∧ u.nat K.unrepaired = 0 ∧ u.nat K.startKind = 0
        ∃ u, exec (.deviceStart f) s = .next u ∧ common u
          ∧ (control → newestCard s = none → f.trained0 = true → u.nat K.startState = 1 ∧ full u ∧ u.nat (K.trainingState 0) = 2
              ∧ u.nat K.barnState = 2 ∧ u.nat K.calState = 1 ∧ u.nat K.quietCause = 0 ∧ u.start.next = 0
              ∧ u.cores.controlAlive = true)
          ∧ (control → newestCard s = none → f.trained0 = false → u.nat K.startState = 6 ∧ full u ∧ u.nat (K.trainingState 0) = 3
              ∧ u.nat K.barnState = 6)
          ∧ (∀ c, control → newestCard s = some c → c.result = 0 → c.startCount = s.nat K.startCount → s.power.cause ≠ 4 →
              s.nat K.enginesInService = 0xFFFFFFFF → s.bb.bistLog = [] → f.verified = true ∧ trainingKept s = true ∨ f.trained0 = true →
              u.nat K.startState = 1 ∧ u.nat K.barnState = 2
                ∧ if f.verified = true ∧ trainingKept s = true then u.nat K.startKind = 1 ∧ u.nat (K.trainingState 0) = 1
                  else u.nat K.startKind = 0 ∧ u.nat (K.trainingState 0) = 2)
          ∧ (∀ c, control → newestCard s = some c → c.result = 1 → u.nat K.startState = 7 ∧ u.nat K.quietCause = 1)
          ∧ (s.cores.copies[0] = none → s.cores.copies[1] = none → newestCard s = none → u.nat K.startState = 7 ∧ full u
              ∧ u.nat K.quietCause = 3 ∧ u.nat K.powerState = 4))
    ∧ (
      ∀ (s : State) (dt : Nat),
        (awake s = true → s.nat K.debugState ≠ 3 → s.start.restartBells = false → unnamedWaits s = false →
          let waits : Prop := ∃ u, exec .startBellsStep s = .next u ∧ u.start = s.start ∧ u.dict.store = s.dict.store
            ∧ u.cores = { s.cores with controlAlive := true }
          (s.start.next = 0 ∨ s.start.next = 15 → waits)
          ∧ (s.start.next = 11 → opRuns s 1 = true → waits) ∧ (s.start.next = 12 → opRuns s 3 = true → waits)
          ∧ (s.start.next = 13 → loadsNow s = true → waits) ∧ (s.start.next = 14 → s.nat K.powerState ≠ 0 → waits)
          ∧ (s.start.next = 24 ∨ s.start.next = 34 → locked s = false → waits)
          ∧ (s.start.next = 20 → ownTurn [(K.ttLoad, .num 1)] { s with cores := { s.cores with controlAlive := true } } = false → waits)
          ∧ (s.start.next = 11 → opRuns s 1 = false → s.nat K.ttLoadState = 3 → ∃ u, exec .startBellsStep s = .next u
              ∧ u.nat K.startState = 3 ∧ u.start = { s.start with next := 0 })
          ∧ (s.start.next = 13 → loadsNow s = false → s.nat K.startBells = 0 → ∃ u, exec .startBellsStep s = .next u
              ∧ u.nat K.startState = 1 ∧ u.start = { s.start with next := 0 }))
        ∧ (awake s = true → s.start.ran = true → s.cores.controlAlive = true → s.nat K.quietCause ≠ 3 →
          ∃ u, exec (.watchdogExpiry dt) s = .next u ∧ u.nat K.coreRestarts = min (s.nat K.coreRestarts + 1) (2 ^ 32 - 1)
            ∧ u.cores.controlAlive = false ∧ u.start.restartBells = (s.start.restartBells || s.running)
            ∧ u.nat K.bellState = (if s.nat K.bellState = 2 then 3 else s.nat K.bellState)
            ∧ (∀ f, (if (s.nat K.fwSelected).testBit 0 then s.cores.copies[1] else s.cores.copies[0]) = some f → ∀ i < f.load.length,
                sparseGet (fun _ => (0 : Byte)) u.cores.controlTcm i = f.load.getD i 0)
            ∧ (∀ f, (if (s.nat K.fwSelected).testBit 0 then s.cores.copies[1] else s.cores.copies[0]) = some f →
                (u.cores.harts[0]).pc = BitVec.ofNat 32 (0x10000000 + f.entry))
            ∧ u.cores.appTcm = s.cores.appTcm ∧ u.ic = s.ic ∧ u.dict.waiting = s.dict.waiting))

/-- What time ends (R443, R444, R447). SESSION_IDLE after its initiator's last request a session is closed; 60 s after the
fourth failure an initiator may try again; a written window is in force from its change instant. Nothing else changes. The black
box and slices (R465, R467, R470, R480, R481). The oldest queued record goes into its slot, a sealed one where no record of its
key is sealed yet, and leaves the queue; one that does not read back leaves its slot free, as it stands, and stays. A slice runs
in the recess of the target in turn (their order is the model's, log entry 122), and the last one of a target moves the turn on;
a failing one marks its cell, records and raises it. -/
def Obligations.ExpiriesAndBlackBox : Prop :=
  (
      ∀ (s : State) (i : Fin 3),
        (s.nat (K.sessionLevel i) < 2 → Reachable (s.sec.lastRequest[i] + s.nat K.sessionIdle * 1000000000) s →
          ∃ u, exec (.sessionIdleExpiry i) s = .next u ∧ u.nat (K.sessionLevel i) = 2 ∧ u.sec = s.sec
            ∧ ∀ k, k ≠ K.sessionLevel i → u.num k = s.num k)
        ∧ (∀ t, s.sec.lockUntil[i] = some t → Reachable t s → ∃ u, exec (.lockoutExpiry i) s = .next u ∧ u.dict.store = s.dict.store
            ∧ u.sec = { s.sec with lockUntil := s.sec.lockUntil.set i none } ∧ lockedOut u i = false)
        ∧ (∀ t b, s.sec.windowNext[i] = some (t, b) → Reachable t s → ∃ u, exec (.windowChange i) s = .next u ∧ u.dict.store = s.dict.store
            ∧ u.sec = { s.sec with windows := s.sec.windows.set i b, windowNext := s.sec.windowNext.set i none }))
    ∧ (
      ∀ (s : State) (dt : Nat),
        (∀ r q, bbState s = 1 → s.bb.queue = r :: q → (∀ c : Fin 6, s.bb.drops[c].count = 0) →
          (∃ u, exec (.bbRecordWrite .holds dt) s = .next u ∧ u.bb.queue = q ∧ u.bb.lastSealed = some r ∧ bbSlot u (slotFor s r) = some r
            ∧ (∀ i, i ≠ slotFor s r → bbSlot u i = bbSlot s i) ∧ u.dict.store = s.dict.store)
          ∧ (∀ found, ∃ u, exec (.bbRecordWrite (.differs found) dt) s = .next u ∧ u.bb.queue = s.bb.queue ∧ bbSlot u (slotFor s r) = none
            ∧ (∀ i, i ≠ slotFor s r → bbSlot u i = bbSlot s i)
            ∧ (found.length = 64 → freeBytes64 found = true → slotBytes u (slotFor s r) = found)
            ∧ u.nat K.mramRetries = min (s.nat K.mramRetries + 1) (2 ^ 32 - 1))
          ∧ (∀ i, freeSealed s = some i → r.coalesced = false → keySealed s r = false → slotFor s r = i ∧ i < 1024 ∧ bbSlot s i = none)
          ∧ ((freeSealed s = none ∨ r.coalesced = true ∨ keySealed s r = true) → 1024 ≤ slotFor s r))
        ∧ (s.nat K.sliceEnable = 1 → s.running = true → s.nat K.slicePeriod ≤ s.bb.sliceBells → recess (targetNow s) s = true →
          sliceFits s = true → ∀ ends : Bool,
            let n := (sliceTargets s).length
            let i := s.bb.sliceTarget % n
            let passed (u : State) : Prop :=
              u.nat K.slicePasses = (if ends = true ∧ i + 1 = n then min (s.nat K.slicePasses + 1) (2 ^ 32 - 1) else s.nat K.slicePasses)
                ∧ u.bb.sliceBells = 0 ∧ u.bb.sliceTarget = (if ends = true then (i + 1) % n else s.bb.sliceTarget)
            (∃ u, exec (.inServiceSlice none ends) s = .next u ∧ passed u ∧ u.nat K.sliceFails = s.nat K.sliceFails
              ∧ u.bb.marks = s.bb.marks ∧ u.ic = s.ic)
            ∧ ∀ f : CellFault, faultIn (targetNow s) f = true → ∃ u, exec (.inServiceSlice (some f) ends) s = .next u ∧ passed u
              ∧ u.ic.pending.getLsbD 54 = true ∧ u.nat K.sliceFails = min (s.nat K.sliceFails + 1) (2 ^ 32 - 1)
              ∧ u.bb.marks = (if s.bb.marks.contains (cellLog f) then s.bb.marks else s.bb.marks ++ [cellLog f])
              ∧ u.bb.lastSlice = some (cellLog f)))

/-- The test access port (R449, R459, R485, R501, R502, Table 20-10). The instruction register takes an opcode, in Hold and Off
none; the instruction in effect is that of the opcode where the debug state allows it, and else BYPASS, which an opcode that the
table does not list is too; a reset leaves IDCODE. Nothing outside the port changes (a register whose content the manual does
not give captures a free value, log entry 94). IDCODE captures the silicon step, 0x8320, the manufacturer's identity and 1, and
BYPASS a 0. -/
def Obligations.TestAccessPort : Prop :=
  ∀ s : State,
    let d := s.nat K.debugState
    let loads (c : Instr) (b : BitVec 8) (i : TapInstr) (v : State) : Prop :=
      (s.power.hold = false → s.power.off = false →
          ∃ dr, let u := latchStatus { v.draw with tap := { s.tap with ir := b, dr } }; exec c s = .next u ∧ tapInstr u = i)
        ∧ (s.power.hold = true ∨ s.power.off = true → exec c s = .next (latchStatus v))
    let takes (c : Instr) (b : BitVec 8) (i : TapInstr) : Prop := loads c b i s
    (∃ u, exec .tapReset s = .next u ∧ u = latchStatus { s with tap := { s.tap with ir := 0x01 } }
        ∧ let w := tapCapture u
          w.getLsbD 0 = true ∧ w.extractLsb' 1 11 = Config.manufacturer ∧ w.extractLsb' 12 16 = 0x8320#16
            ∧ w.extractLsb' 28 4 = Config.siliconStep.extractLsb' 0 4)
      ∧ (s.power.hold = false → s.power.off = false → ∃ u, exec .tapBypass s = .next u ∧ tapCapture u = 0)
      ∧ takes .tapIdcode 0x01 .idcode ∧ takes .tapBypass 0xFF .bypass ∧ takes .tapSamplePreload 0x02 .samplePreload
      ∧ (d = 1 ∨ d = 2 → takes .tapDtmcs 0x10 .dtmcs ∧ takes .tapDmi 0x11 .dmi ∧ takes .tapEngDebug 0x20 .engDebug
          ∧ takes .tapExtest 0x00 .bypass ∧ takes .tapClamp 0x03 .bypass ∧ takes .tapHighz 0x04 .bypass
          ∧ ∀ p, takes (.tapScanChain p) (BitVec.ofNat 8 (0x30 + p.val)) .bypass)
      ∧ (d = 3 → takes .tapExtest 0x00 .extest ∧ takes .tapClamp 0x03 .clamp ∧ takes .tapHighz 0x04 .highz
          ∧ (∀ p, takes (.tapScanChain p) (BitVec.ofNat 8 (0x30 + p.val)) (.scanChain p))
          ∧ takes .tapDtmcs 0x10 .bypass ∧ takes .tapDmi 0x11 .bypass ∧ takes .tapEngDebug 0x20 .bypass)
      ∧ (d = 0 → takes .tapDtmcs 0x10 .bypass ∧ takes .tapDmi 0x11 .bypass ∧ takes .tapEngDebug 0x20 .bypass
          ∧ takes .tapExtest 0x00 .bypass ∧ takes .tapClamp 0x03 .bypass ∧ takes .tapHighz 0x04 .bypass
          ∧ ∀ p, takes (.tapScanChain p) (BitVec.ofNat 8 (0x30 + p.val)) .bypass)
      ∧ (∀ (b : BitVec 8) (dt : Nat), (∀ i : TapInstr, i.opcode ≠ b) →
          loads (.registerWrite (.tapOpcode b) dt) b .bypass (s.elapse dt))
end

