-- ==== Sys2Proof/Laws/Crypto.lean ====
section
/-!
SUPPORT. Laws/Crypto.lean: a SHA-256 hash, and so an HMAC tag, is 32 bytes long.
-/

namespace Sys2Proof.Machine

@[simp] theorem length_leBytes (n v : Nat) : (leBytes n v).length = n := by
  induction n generalizing v <;> simp_all [leBytes]

@[simp] theorem length_beBytes (n v : Nat) : (beBytes n v).length = n := by simp [beBytes]

theorem length_shaRound (x : List (BitVec 32)) (k w : BitVec 32) : (shaRound x k w).length = x.length := by
  unfold shaRound
  split <;> rfl

theorem length_shaRounds (ks w x : List (BitVec 32)) : (shaRounds ks w x).length = x.length := by
  induction ks generalizing w x with
  | nil => rfl
  | cons k ks ih => rw [shaRounds, ih, length_shaRound]

theorem length_shaBlock (h : List (BitVec 32)) (b : List Byte) : (shaBlock h b).length = h.length := by
  simp [shaBlock, length_shaRounds]

/-- Eight words pass through any number of blocks. -/
theorem length_shaBlocks (p : List Byte) (is : List Nat) (h : List (BitVec 32)) :
    (is.foldl (fun h i => shaBlock h (slice (64 * i) 64 p)) h).length = h.length := by
  induction is generalizing h with
  | nil => rfl
  | cons i is ih => rw [List.foldl_cons, ih, length_shaBlock]

@[simp] theorem length_sha256 (m : List Byte) : (sha256 m).length = 32 := by
  have f (xs : List (BitVec 32)) : (xs.flatMap fun x => beBytes 4 x.toNat).length = 4 * xs.length := by
    induction xs with
    | nil => rfl
    | cons x xs ih => rw [List.flatMap_cons, List.length_append, ih, length_beBytes, List.length_cons]; omega
  rw [sha256, f, length_shaBlocks]
  rfl

@[simp] theorem length_hmacSha256 (key m : List Byte) : (hmacSha256 key m).length = 32 := length_sha256 _

end Sys2Proof.Machine
end

