-- ==== Sys2Proof/Laws/Sparse.lean ====
section
/-!
SUPPORT. Laws/Sparse.lean: a sparse table reads back what was written, every other place stays, and a write keeps the canonical form.
-/

namespace Sys2Proof.Machine

variable {α : Type}

theorem sparseGet_filter_ne (d : Nat → α) (m : Sparse α) (k : Nat) : sparseGet d (m.filter fun e => e.1 != k) k = d k := by
  induction m with
  | nil => rfl
  | cons e m ih =>
    obtain ⟨j, v⟩ := e
    by_cases h : j = k <;> simp_all [sparseGet]

theorem sparseGet_filter_other (d : Nat → α) (m : Sparse α) (k j : Nat) (h : j ≠ k) :
    sparseGet d (m.filter fun e => e.1 != k) j = sparseGet d m j := by
  induction m with
  | nil => rfl
  | cons e m ih =>
    obtain ⟨i, v⟩ := e
    by_cases hk : i = k
    · have : i ≠ j := fun e => h (e.symm.trans hk)
      simp_all [sparseGet]
    · by_cases hj : i = j <;> simp_all [sparseGet]

theorem sparseGet_insert_other (d : Nat → α) (m : Sparse α) (k j : Nat) (v : α) (h : j ≠ k) :
    sparseGet d (sparseInsert m k v) j = sparseGet d m j := by
  induction m with
  | nil => simp [sparseInsert, sparseGet, Ne.symm h]
  | cons e m ih =>
    obtain ⟨i, w⟩ := e
    unfold sparseInsert
    split
    · simp [sparseGet, Ne.symm h]
    · simp [sparseGet, ih]

theorem sparseGet_insert_same (d : Nat → α) (m : Sparse α) (k : Nat) (v : α) (h : ∀ e ∈ m, e.1 ≠ k) :
    sparseGet d (sparseInsert m k v) k = v := by
  induction m with
  | nil => simp [sparseInsert, sparseGet]
  | cons e m ih =>
    obtain ⟨i, w⟩ := e
    have hi : i ≠ k := h (i, w) (by simp)
    unfold sparseInsert
    split
    · simp [sparseGet]
    · simp [sparseGet, hi]
      exact ih fun e he => h e (by simp [he])

/-- A read after a write of the same key gives the value written, whatever the table. -/
@[simp] theorem sparseGet_set_same [DecidableEq α] (d : Nat → α) (m : Sparse α) (k : Nat) (v : α) :
    sparseGet d (sparseSet d m k v) k = v := by
  unfold sparseSet
  simp only
  split
  · rename_i h
    rw [sparseGet_filter_ne, h]
  · exact sparseGet_insert_same d _ k v fun e he => by simpa using (List.mem_filter.mp he).2

/-- A write leaves every other key alone, whatever the table. -/
theorem sparseGet_set_other [DecidableEq α] (d : Nat → α) (m : Sparse α) (k j : Nat) (v : α) (h : j ≠ k) :
    sparseGet d (sparseSet d m k v) j = sparseGet d m j := by
  unfold sparseSet
  simp only
  split
  · exact sparseGet_filter_other d m k j h
  · rw [sparseGet_insert_other d _ k j v h, sparseGet_filter_other d m k j h]

/-! ### The canonical form -/

theorem sparseWfFrom_mono [DecidableEq α] {d : Nat → α} {lo lo' : Nat} {m : Sparse α} (h : lo' ≤ lo)
    (hw : sparseWfFrom d lo m = true) : sparseWfFrom d lo' m = true := by
  cases m with
  | nil => rfl
  | cons e m =>
    simp only [sparseWfFrom, Bool.and_eq_true, decide_eq_true_eq] at hw ⊢
    exact ⟨⟨by omega, hw.1.2⟩, hw.2⟩

theorem sparseWfFrom_filter [DecidableEq α] {d : Nat → α} (p : Nat × α → Bool) {lo : Nat} {m : Sparse α}
    (hw : sparseWfFrom d lo m = true) : sparseWfFrom d lo (m.filter p) = true := by
  induction m generalizing lo with
  | nil => rfl
  | cons e m ih =>
    have hw' := hw
    simp only [sparseWfFrom, Bool.and_eq_true, decide_eq_true_eq] at hw
    rw [List.filter_cons]
    split
    · simp only [sparseWfFrom, Bool.and_eq_true, decide_eq_true_eq]
      exact ⟨hw.1, ih hw.2⟩
    · exact sparseWfFrom_mono (by omega) (ih hw.2)

theorem sparseWfFrom_insert [DecidableEq α] {d : Nat → α} {lo k : Nat} {v : α} {m : Sparse α} (hv : v ≠ d k) (hk : lo ≤ k)
    (hm : ∀ e ∈ m, e.1 ≠ k) (hw : sparseWfFrom d lo m = true) : sparseWfFrom d lo (sparseInsert m k v) = true := by
  induction m generalizing lo with
  | nil => simp [sparseInsert, sparseWfFrom, hv, hk]
  | cons e m ih =>
    obtain ⟨i, w⟩ := e
    have hi : i ≠ k := hm (i, w) (by simp)
    simp only [sparseWfFrom, Bool.and_eq_true, decide_eq_true_eq] at hw
    unfold sparseInsert
    split
    · simp only [sparseWfFrom, Bool.and_eq_true, decide_eq_true_eq]
      exact ⟨⟨hk, hv⟩, ⟨⟨by omega, hw.1.2⟩, hw.2⟩⟩
    · simp only [sparseWfFrom, Bool.and_eq_true, decide_eq_true_eq]
      exact ⟨hw.1, ih (by omega) (fun e he => hm e (by simp [he])) hw.2⟩

/-- A write keeps the canonical form. -/
theorem sparseWf_set [DecidableEq α] {d : Nat → α} {m : Sparse α} (k : Nat) (v : α) (h : sparseWf d m = true) :
    sparseWf d (sparseSet d m k v) = true := by
  unfold sparseWf at *
  unfold sparseSet
  simp only
  split
  · exact sparseWfFrom_filter _ h
  · exact sparseWfFrom_insert (by assumption) (Nat.zero_le _) (fun e he => by simpa using (List.mem_filter.mp he).2)
      (sparseWfFrom_filter _ h)

/-- Erasing keys keeps the canonical form. -/
theorem sparseWf_erase [DecidableEq α] {d : Nat → α} {m : Sparse α} (p : Nat → Bool) (h : sparseWf d m = true) :
    sparseWf d (sparseErase p m) = true := sparseWfFrom_filter _ h

/-- Changing values keeps the form where no new value is the one that an unlisted key reads as. -/
theorem sparseWfFrom_map [DecidableEq α] {d : Nat → α} (f : Nat × α → Nat × α) (hk : ∀ e, (f e).1 = e.1)
    (hv : ∀ e, e.2 ≠ d e.1 → (f e).2 ≠ d e.1) {lo : Nat} {m : Sparse α} (hw : sparseWfFrom d lo m = true) :
    sparseWfFrom d lo (m.map f) = true := by
  induction m generalizing lo with
  | nil => rfl
  | cons e m ih =>
    obtain ⟨k, v⟩ := e
    simp only [sparseWfFrom, Bool.and_eq_true, decide_eq_true_eq, ne_eq] at hw
    have h1 := hk (k, v)
    have h2 := hv (k, v) hw.1.2
    generalize hf : f (k, v) = e at h1 h2
    obtain ⟨j, w⟩ := e
    simp only at h1 h2
    subst h1
    simp [List.map, hf, sparseWfFrom, hw.1.1, h2, ih hw.2]

/-! ### Dictionary entries -/

/-- An entry that was given a number reads as that number. -/
@[simp] theorem num_setNum_same (s : State) (k : Key) (v : Int) : (s.setNum k v).num k = v := by
  simp [State.num, numIn, valIn, State.setNum, State.setVal]

/-- Every other entry reads as before. -/
theorem num_setVal_other (s : State) (k j : Key) (v : DVal) (h : j ≠ k) : (s.setVal k v).num j = s.num j := by
  simp [State.num, numIn, valIn, State.setVal, sparseGet_set_other _ _ _ _ _ h]

theorem num_setNum_other (s : State) (k j : Key) (v : Int) (h : j ≠ k) : (s.setNum k v).num j = s.num j :=
  num_setVal_other s k j _ h

theorem num_setBlock_other (s : State) (k j : Key) (b : List Byte) (h : j ≠ k) : (s.setBlock k b).num j = s.num j :=
  num_setVal_other s k j _ h

theorem nat_eq_num (s : State) (k : Key) : s.nat k = (s.num k).toNat := rfl

@[simp] theorem nat_setNum_same (s : State) (k : Key) (v : Int) : (s.setNum k v).nat k = v.toNat := by simp [nat_eq_num]

theorem nat_setNum_other (s : State) (k j : Key) (v : Int) (h : j ≠ k) : (s.setNum k v).nat j = s.nat j := by
  simp [nat_eq_num, num_setNum_other s k j v h]

theorem nat_setBlock_other (s : State) (k j : Key) (b : List Byte) (h : j ≠ k) : (s.setBlock k b).nat j = s.nat j := by
  simp [nat_eq_num, num_setBlock_other s k j b h]

/-- A saturating counter after one event. -/
theorem nat_inc_same (s : State) (k : Key) : (s.inc k).nat k = min (s.nat k + 1) (2 ^ 32 - 1) := by
  simp only [State.inc, State.addSat, nat_setNum_same]
  omega

theorem nat_inc_other (s : State) (k j : Key) (h : j ≠ k) : (s.inc k).nat j = s.nat j := nat_setNum_other s k j _ h

/-- A block that was written reads back. -/
@[simp] theorem block_setBlock_same (s : State) (k : Key) (b : List Byte) : (s.setBlock k b).block k = b := by
  simp [State.block, bytesIn, valIn, State.setBlock, State.setVal]

theorem block_setVal_other (s : State) (k j : Key) (v : DVal) (h : j ≠ k) : (s.setVal k v).block j = s.block j := by
  simp [State.block, bytesIn, valIn, State.setVal, sparseGet_set_other _ _ _ _ _ h]

end Sys2Proof.Machine
end

