-- ==== Sys2Proof/Laws/Engine.lean ====
section
/-!
SUPPORT. Laws/Engine.lean: what the frame of a slot operation does, what a clean operand read gives, and what sending a result
changes: the lemmas that a proof about a slot operation cites in place of unfolding them.
-/

namespace Sys2Proof.Machine

/-! ### Reading and changing one engine -/

@[simp] theorem vmod_get_self {α : Type} {n : Nat} (v : Vector α n) (i : Fin n) (f : α → α) :
    (vmod v i f)[i.val] = f v[i.val] := by
  simp [vmod]

theorem vmod_vmod {α : Type} {n : Nat} (v : Vector α n) (i : Fin n) (f g : α → α) :
    vmod (vmod v i f) i g = vmod v i fun x => g (f x) := by
  simp [vmod]

theorem vmod_get_of_ne {α : Type} {n : Nat} (v : Vector α n) (i j : Fin n) (f : α → α) (h : i ≠ j) : (vmod v i f)[j] = v[j] := by
  have : i.val ≠ j.val := fun e => h (Fin.ext e)
  simp [vmod, this]

@[simp] theorem eng_onEng (s : State) (e : Fin 32) (f : Engine → Engine) : (s.onEng e f).eng e = f (s.eng e) := by
  simp [State.eng, State.onEng]

theorem eng_onEng_of_ne (s : State) (e e' : Fin 32) (f : Engine → Engine) (h : e ≠ e') : (s.onEng e f).eng e' = s.eng e' :=
  vmod_get_of_ne _ _ _ _ h

@[simp] theorem onEng_onEng (s : State) (e : Fin 32) (f g : Engine → Engine) :
    (s.onEng e f).onEng e g = s.onEng e fun x => g (f x) := by
  simp [State.onEng, vmod_vmod]

@[simp] theorem eng_latchStatus (s : State) (e : Fin 32) : (latchStatus s).eng e = s.eng e := rfl

/-! ### The frame of a slot operation -/

/-- A slot that may issue marks itself used and runs its operation. -/
theorem issue_of_issues {at_ : At} {slot : Nat} {s t : State} (h : Issues at_ slot s t) (body : Fin 32 → State → State) :
    issue at_ slot body s = body at_.eng (t.onEng at_.eng fun x => { x with used := slot + 1 }) := by
  obtain ⟨hr, hd, ht, hs, hu, hp⟩ := h
  unfold issue
  rw [if_neg (by simp [hr]; omega), ht]
  simp only
  rw [if_neg (by simp [hs]; omega)]
  simp [hp]

theorem passes_legal {gd : Guard} {e : Fin 32} {t : State} (h : Passes gd e t) : gd.legal = true := by
  rcases h with ⟨h1, h2, h3⟩ | ⟨h1, _⟩ <;> simp [Guard.legal, *]

theorem passes_open {gd : Guard} {e : Fin 32} {t : State} (h : Passes gd e t) : gd.open_ (t.eng e).regs.q = true := by
  rcases h with ⟨h1, _, _⟩ | ⟨h1, h2⟩
  · simp [Guard.open_, h1]
  · simp only [Guard.open_, h1, Bool.not_true, Bool.false_or]
    cases hq : (t.eng e).regs.q[gd.gq] <;> cases hn : gd.gn <;> simp_all

theorem lpasses_legal {gd : LGuard} {e : Fin 32} {t : State} (h : LPasses gd e t) : gd.legal = true := by
  rcases h with ⟨h1, h2⟩ | ⟨h1, _⟩ <;> simp [LGuard.legal, *]

theorem lpasses_open {gd : LGuard} {e : Fin 32} {t : State} (h : LPasses gd e t) : gd.open_ (t.eng e).regs.q = true := by
  rcases h with ⟨h1, _⟩ | ⟨h1, h2⟩ <;> simp [LGuard.open_, *]

/-- The state in which a slot's operation runs. -/
def marked (at_ : At) (slot : Nat) (t : State) : State := t.onEng at_.eng fun x => { x with used := slot + 1 }

@[simp] theorem marked_eng (at_ : At) (slot : Nat) (t : State) :
    (marked at_ slot t).eng at_.eng = { t.eng at_.eng with used := slot + 1 } := by simp [marked]

/-- A legal A operation whose guard lets it take effect runs. -/
theorem aOp_of_issues {at_ : At} {gd : Guard} {s t : State} {legal : Bool} (h : Issues at_ 2 s t) (hg : Passes gd at_.eng t)
    (hl : legal = true) (body : Fin 32 → State → State) :
    aOp at_ gd legal body s = body at_.eng (marked at_ 2 t) := by
  have ho := passes_open hg
  simp [aOp, guarded, issue_of_issues h, passes_legal hg, hl, marked, ho]

/-- A legal M operation whose guard lets it take effect runs. -/
theorem mOp_of_issues {at_ : At} {gd : Guard} {s t : State} {legal : Bool} (h : Issues at_ 1 s t) (hg : Passes gd at_.eng t)
    (hl : legal = true) (body : Fin 32 → State → State) :
    mOp at_ gd legal body s = body at_.eng (marked at_ 1 t) := by
  have ho := passes_open hg
  simp [mOp, guarded, issue_of_issues h, passes_legal hg, hl, marked, ho]

/-- A legal L operation whose guard lets it take effect runs. -/
theorem lOp_of_issues {at_ : At} {second : Bool} {gd : LGuard} {s t : State} {legal : Bool} (h : Issues at_ (lSlot second) s t)
    (hg : LPasses gd at_.eng t) (hl : legal = true) (body : Nat → Fin 32 → State → State) :
    lOp at_ second gd legal body s = body (lSlot second) at_.eng (marked at_ (lSlot second) t) := by
  have ho := lpasses_open hg
  unfold lSlot at h ⊢
  simp [lOp, guarded, issue_of_issues h, lpasses_legal hg, hl, marked, ho]

/-! ### Operand reads and results -/

/-- A clean register reads as its value and its tag, and the read changes nothing. -/
theorem readReg_clean {w n : Nat} {r : Reg w} {e : Fin 32} {s : State} (h : Clean s e r) : readReg n r e s = (r.v, r.tag, s) := by
  simp [readReg, h.1, h.2]

theorem clean_marked {w : Nat} {at_ : At} {slot : Nat} {t : State} {r : Reg w} (h : Clean t at_.eng r) :
    Clean (marked at_ slot t) at_.eng r := by
  simpa [Clean] using h

theorem readG_marked {at_ : At} {slot : Nat} {t : State} {i : Fin 32} (h : Clean t at_.eng (gAt t at_.eng i)) :
    readG i at_.eng (marked at_ slot t) = ((gAt t at_.eng i).v, (gAt t at_.eng i).tag, marked at_ slot t) := by
  have := readReg_clean (n := physG (t.eng at_.eng).regs.rb i) (clean_marked (slot := slot) h)
  simpa [readG, gAt] using this

theorem readAcc_marked {at_ : At} {slot : Nat} {t : State} {i : Fin 4} (h : Clean t at_.eng (t.eng at_.eng).regs.acc[i]) :
    readAcc i at_.eng (marked at_ slot t)
      = ((t.eng at_.eng).regs.acc[i].v, (t.eng at_.eng).regs.acc[i].tag, marked at_ slot t) := by
  simpa [readAcc] using readReg_clean (n := 32 + i) (clean_marked (slot := slot) h)

theorem readP_marked {at_ : At} {slot : Nat} {t : State} {i : Fin 8} (h : Clean t at_.eng (t.eng at_.eng).regs.p[i]) :
    readP i at_.eng (marked at_ slot t)
      = ((t.eng at_.eng).regs.p[i].v, (t.eng at_.eng).regs.p[i].tag, marked at_ slot t) := by
  simpa [readP] using readReg_clean (n := 36 + i) (clean_marked (slot := slot) h)

theorem readM_marked {at_ : At} {slot : Nat} {t : State} {i : Fin 8} (h : Clean t at_.eng (t.eng at_.eng).regs.m[i]) :
    readM i at_.eng (marked at_ slot t)
      = ((t.eng at_.eng).regs.m[i].v, (t.eng at_.eng).regs.m[i].tag, marked at_ slot t) := by
  simpa [readM] using readReg_clean (n := 44 + i) (clean_marked (slot := slot) h)

theorem readL_marked {at_ : At} {slot : Nat} {t : State} {i : Fin 8} (h : Clean t at_.eng (t.eng at_.eng).regs.l[i]) :
    readL i at_.eng (marked at_ slot t)
      = ((t.eng at_.eng).regs.l[i].v, (t.eng at_.eng).regs.l[i].tag, marked at_ slot t) := by
  simpa [readL] using readReg_clean (n := 52 + i) (clean_marked (slot := slot) h)

/-- Sending a result changes only what is on its way in the engine. -/
theorem send_eq (slot lat : Nat) (d : Dest) (v : BitVec 40) (tag mul : Bool) (e : Fin 32) (s : State) :
    send slot lat d v tag mul e s = s.onEng e (launched slot lat d v tag mul) := rfl

theorem latchStatus_send_marked (at_ : At) (slot lat : Nat) (d : Dest) (v : BitVec 40) (tag mul : Bool) (t : State) :
    latchStatus (send slot lat d v tag mul at_.eng (marked at_ slot t)) = sent at_ slot lat d v tag mul t := by
  simp [send_eq, marked, sent, issued]

theorem latchStatus_sendG_marked (at_ : At) (slot lat : Nat) (i : Fin 32) (v : BitVec 32) (tag : Bool) (t : State) :
    latchStatus (sendG slot lat i v tag at_.eng (marked at_ slot t)) = sentG at_ slot lat i v tag t := by
  simp [sendG, latchStatus_send_marked, sentG]

theorem latchStatus_sendQ_marked (at_ : At) (i : Fin 4) (v tag : Bool) (t : State) :
    latchStatus (sendQ i v tag at_.eng (marked at_ 2 t)) = sentQ at_ i v tag t := by
  simp [sendQ, latchStatus_send_marked, sentQ]

/-! ### Words of the engine's address map -/

@[simp] theorem room_onRoom (s : State) (r : Fin 4) (f : Classroom → Classroom) : (s.onRoom r f).room r = f (s.room r) := by
  simp [State.room, State.onRoom]

@[simp] theorem room_onEng (s : State) (e : Fin 32) (f : Engine → Engine) (r : Fin 4) : (s.onEng e f).room r = s.room r := rfl

@[simp] theorem eng_onRoom (s : State) (r : Fin 4) (f : Classroom → Classroom) (e : Fin 32) : (s.onRoom r f).eng e = s.eng e := rfl

/-- A word that was written reads back. -/
theorem getWord_setWord_same (e : Fin 32) (a : Nat) (w : MemWord) (s : State) : getWord e a (setWord e a w s) = w := by
  unfold getWord setWord
  split <;> simp

/-- Every other mapped word of the engine's address map reads as before. -/
theorem getWord_setWord_other (e : Fin 32) (a b : Nat) (w : MemWord) (s : State) (ha : mapped a = true) (hb : mapped b = true)
    (h : b / 4 ≠ a / 4) : getWord e b (setWord e a w s) = getWord e b s := by
  simp only [mapped, Bool.or_eq_true, Bool.and_eq_true, decide_eq_true_eq] at ha hb
  unfold getWord setWord
  by_cases h1 : a < 0x60000 <;> by_cases h2 : b < 0x60000
  · simp [h1, h2, sparseGet_set_other _ _ _ _ _ h]
  · simp [h1, h2]
  · simp [h1, h2]
  · have : (b - 0x100000) / 4 ≠ (a - 0x100000) / 4 := by omega
    simp [h1, h2, sparseGet_set_other _ _ _ _ _ this]

/-! ### Arithmetic -/

/-- Limiting, as the limits of a signed format. -/
theorem lim_limited (w : Nat) (sat : Bool) (x : Int) : lim w sat x = BitVec.ofInt w (if sat then limited w x else x) := by
  have h : (0 : Int) < 2 ^ (w - 1) := Int.pow_pos (by decide)
  simp only [lim, limited, clampInt]
  congr 1
  push_cast
  generalize (2 : Int) ^ (w - 1) = n at *
  cases sat
  · rfl
  · simp only [if_true]
    repeat' split
    all_goals omega

/-- Which slots have issued decides no access. -/
theorem access_marked (slot ea : Nat) (store : Bool) (at_ : At) (k : Nat) (t : State) :
    access slot ea store at_.eng (marked at_ k t) = access slot ea store at_.eng t := by
  simp only [access, marked_eng]
  rfl

end Sys2Proof.Machine
end

