-- ==== Sys2Proof/Laws/Memory.lean ====
section
/-!
SUPPORT. Laws/Memory.lean: every operation on an addressed memory keeps its canonical form, which the memories have at reset, and
memories of one canonical form that read alike are equal.
-/

namespace Sys2Proof.Machine

/-- The memories are canonical after reset. -/
theorem reset_memory_wf : Memory.wf State.reset := by
  refine ⟨rfl, rfl, fun e => ?_, fun r => ?_, rfl, rfl, rfl⟩
  · simp [State.eng, State.reset, sparseWf, sparseWfFrom]
  · simp [State.room, State.reset, sparseWf, sparseWfFrom]

/-- Marking a word of the barn keeps the form. -/
theorem setMark_memory_wf {s : State} (a : Nat) (p : WordMark) (h : Memory.wf s) : Memory.wf (setMark a p s) := by
  obtain ⟨hb, hm, he, hr, hc⟩ := h
  exact ⟨hb, sparseWf_set _ _ hm, fun e => he e, fun r => hr r, hc⟩

/-- What writing a byte of the barn can do: a byte of the capture record, of the upload buffer or of an image, or of the barn. -/
theorem setBarnByte_cases (P : State → Prop) (a : Nat) (v : Byte) (s : State)
    (hr : ∀ b, P { s with capture := { s.capture with record := b } })
    (hu : ∀ b, P { s with dict := { s.dict with upload := b } })
    (hi : ∀ i o, P (setImageByte i o v s))
    (hb : P { s with barn := { s.barn with bytes := sparseSet (fun _ => 0) s.barn.bytes a v } }) : P (setBarnByte a v s) := by
  simp only [setBarnByte]
  split
  · exact hr _
  split
  · exact hu _
  split
  · exact hi _ _
  · exact hb

/-- Writing a byte of the barn keeps the form. -/
theorem setBarnByte_memory_wf {s : State} (a : Nat) (v : Byte) (h : Memory.wf s) : Memory.wf (setBarnByte a v s) := by
  obtain ⟨hb, hm, he, hr, hc⟩ := h
  refine setBarnByte_cases Memory.wf a v s (fun _ => ?_) (fun _ => ?_) (fun _ _ => ?_) ?_
  · exact ⟨hb, hm, fun e => he e, fun r => hr r, hc⟩
  · exact ⟨hb, hm, fun e => he e, fun r => hr r, hc⟩
  · exact ⟨hb, hm, fun e => he e, fun r => hr r, hc⟩
  · exact ⟨sparseWf_set _ _ hb, hm, fun e => he e, fun r => hr r, hc⟩

/-- Writing a byte of the barn, into a queued entry or past the queue, keeps the form. -/
theorem storeByte_memory_wf {s : State} (a : Nat) (v : Byte) (h : Memory.wf s) : Memory.wf (storeByte a v s) := by
  simp only [storeByte]
  split
  · obtain ⟨hb, hm, he, hr, hc⟩ := h
    exact ⟨hb, hm, fun e => he e, fun r => hr r, hc⟩
  · exact setBarnByte_memory_wf a v h

/-- The mark of the word that a write ends in keeps the form. -/
theorem endWord_memory_wf {s : State} (start a : Nat) (h : Memory.wf s) : Memory.wf (endWord start a s) := by
  unfold endWord
  split
  · exact h
  split
  · exact setMark_memory_wf _ _ h
  split
  · exact setMark_memory_wf _ _ h
  · exact h

/-- Performing the queued reads of a line keeps the form. -/
theorem readsFirst_memory_wf {s : State} (p : Nat → Bool) (h : Memory.wf s) : Memory.wf (readsFirst p s) := by
  obtain ⟨hb, hm, he, hr, hc⟩ := h
  exact ⟨hb, hm, fun e => he e, fun r => hr r, hc⟩

/-- Counting the GENERATIONs of blocks keeps the form. -/
theorem touchBlocks_memory_wf {s : State} (a : Nat) (bs : List Byte) (h : Memory.wf s) : Memory.wf (touchBlocks a bs s) := by
  unfold touchBlocks
  simp only
  generalize List.filter _ _ = l
  induction l generalizing s with
  | nil => exact h
  | cons x l ih =>
    refine ih ?_
    obtain ⟨hb, hm, he, hr, hc⟩ := h
    exact ⟨hb, hm, fun e => he e, fun r => hr r, hc⟩

/-- Writing bytes of the barn keeps the form. -/
theorem writeFrom_memory_wf (start a : Nat) (bs : List Byte) {s : State} (h : Memory.wf s) :
    Memory.wf (writeFrom start a bs s) := by
  induction bs generalizing a s with
  | nil => exact h
  | cons b bs ih =>
    unfold writeFrom
    apply ih
    split
    · exact endWord_memory_wf start a (storeByte_memory_wf a b h)
    · exact storeByte_memory_wf a b h

theorem writeBarn_memory_wf (a : Nat) (bs : List Byte) {s : State} (h : Memory.wf s) : Memory.wf (writeBarn a bs s) :=
  writeFrom_memory_wf a a bs (readsFirst_memory_wf _ (touchBlocks_memory_wf a bs h))

/-- Filling a part of the barn keeps the form. -/
theorem fillBarn_memory_wf (a n : Nat) {s : State} (h : Memory.wf s) : Memory.wf (fillBarn a n s) := by
  obtain ⟨hb, hm, he, hr, hc⟩ := h
  refine ⟨?_, ?_, fun e => he e, fun r => hr r, hc⟩
  · simp only [fillBarn]
    exact sparseWf_erase _ hb
  · refine sparseWfFrom_map _ (fun e => ?_) (fun e hd => ?_) (sparseWf_erase _ hm) <;> split <;> simp_all

/-- Writing a word of an engine's or a classroom's memory keeps the form. -/
theorem setWord_memory_wf (e : Fin 32) (a : Nat) (w : MemWord) {s : State} (h : Memory.wf s) : Memory.wf (setWord e a w s) := by
  obtain ⟨hb, hm, he, hr, hc⟩ := h
  unfold setWord
  split
  · refine ⟨hb, hm, fun e' => ?_, hr, hc⟩
    by_cases he' : e = e'
    · subst he'
      simpa using ⟨sparseWf_set _ _ (he e).1, (he e).2⟩
    · rw [eng_onEng_of_ne s e e' _ he']
      exact he e'
  · refine ⟨hb, hm, he, fun r => ?_, hc⟩
    by_cases hr' : roomIdx e = r
    · subst hr'
      simpa [State.room, State.onRoom, vmod] using sparseWf_set _ _ (hr (roomIdx e))
    · have hne : (roomIdx e).val ≠ r.val := fun x => hr' (Fin.ext x)
      simpa [State.room, State.onRoom, vmod, Vector.getElem_set, hne] using hr r

end Sys2Proof.Machine
end

