-- ==== Sys2Proof/Laws/Raise.lean ====
section
/-!
SUPPORT. Laws/Raise.lean: everything that raising an interrupt source and forming a black-box record can change, said once: the
interrupt controller, the cores' interrupt lines, the black box, the endpoint and six entries.
-/

namespace Sys2Proof.Machine

/-- The entries that an event can change beside those of its own unit. -/
def eventKeys : List Key := [K.hostLink, K.pmeCount, K.seqNext, K.dropTotal, K.fallbackCount, K.appCoreState]

/-- From `s` to `t` nothing changes but what events change; no pending bit is lost. -/
structure EventFrame (s t : State) : Prop where
  rest : t = { s with ic := t.ic, cores := { s.cores with meip := t.cores.meip, waiting := t.cores.waiting }, bb := t.bb, host := t.host,
                      dict := { s.dict with store := t.dict.store, generations := t.dict.generations } }
  vals : ∀ k, k ∉ eventKeys → valIn t.dict.store k = valIn s.dict.store k
  pend : ∀ i, s.ic.pending.getLsbD i = true → t.ic.pending.getLsbD i = true
  routes : t.ic.routes = s.ic.routes
  disabled : t.ic.disabled = s.ic.disabled

theorem EventFrame.refl (s : State) : EventFrame s s := ⟨rfl, fun _ _ => rfl, fun _ h => h, rfl, rfl⟩

theorem EventFrame.trans {s t u : State} (h : EventFrame s t) (g : EventFrame t u) : EventFrame s u where
  rest := by
    have a := g.rest
    rw [h.rest] at a
    exact a
  vals k hk := (g.vals k hk).trans (h.vals k hk)
  pend i hi := g.pend i (h.pend i hi)
  routes := g.routes.trans h.routes
  disabled := g.disabled.trans h.disabled

theorem valIn_setVal_other (s : State) (k j : Key) (v : DVal) (h : j ≠ k) :
    valIn (s.setVal k v).dict.store j = valIn s.dict.store j := sparseGet_set_other _ _ _ _ _ h

/-- An entry of the events' own may change. -/
theorem eventFrame_setVal (s : State) (k : Key) (v : DVal) (h : k ∈ eventKeys) : EventFrame s (s.setVal k v) :=
  ⟨rfl, fun j hj => valIn_setVal_other s k j v fun e => hj (e ▸ h), fun _ h => h, rfl, rfl⟩

theorem eventFrame_setNum (s : State) (k : Key) (v : Int) (h : k ∈ eventKeys) : EventFrame s (s.setNum k v) :=
  eventFrame_setVal s k _ h

theorem eventFrame_inc (s : State) (k : Key) (h : k ∈ eventKeys) : EventFrame s (s.inc k) := eventFrame_setVal s k _ h

theorem eventFrame_host (s : State) (p : HostPort) : EventFrame s { s with host := p } :=
  ⟨rfl, fun _ _ => rfl, fun _ h => h, rfl, rfl⟩

theorem eventFrame_bb (s : State) (b : BlackBox) : EventFrame s { s with bb := b } :=
  ⟨rfl, fun _ _ => rfl, fun _ h => h, rfl, rfl⟩

theorem eventFrame_cores (s : State) (c : Cores) (h : c = { s.cores with meip := c.meip, waiting := c.waiting }) :
    EventFrame s { s with cores := c } := by
  refine ⟨?_, fun _ _ => rfl, fun _ h => h, rfl, rfl⟩
  show ({ s with cores := c } : State) = { s with cores := { s.cores with meip := c.meip, waiting := c.waiting } }
  rw [← h]

theorem EventFrame.ite {s t u : State} {c : Prop} [Decidable c] (h : EventFrame s t) (g : EventFrame s u) :
    EventFrame s (if c then t else u) := by
  split <;> assumption

theorem EventFrame.setNum {s t : State} (h : EventFrame s t) (k : Key) (v : Int) (hk : k ∈ eventKeys) :
    EventFrame s (t.setNum k v) := h.trans (eventFrame_setNum t k v hk)

theorem EventFrame.inc {s t : State} (h : EventFrame s t) (k : Key) (hk : k ∈ eventKeys) : EventFrame s (t.inc k) :=
  h.trans (eventFrame_inc t k hk)

theorem eventFrame_tlpSent (s : State) : EventFrame s (tlpSent s) :=
  .ite (.setNum (eventFrame_host s _) K.hostLink 2 (by decide)) (eventFrame_host s _)

theorem eventFrame_sendMessage (v : Fin 5) (s : State) : EventFrame s (sendMessage v s) :=
  (eventFrame_host s _).trans (eventFrame_tlpSent _)

theorem eventFrame_trySend (v : Fin 5) (s : State) : EventFrame s (trySend v s) :=
  .ite (eventFrame_sendMessage v s) (.refl s)

theorem eventFrame_messageDue (v : Fin 5) (s : State) : EventFrame s (messageDue v s) :=
  .ite (.ite ((EventFrame.inc ((eventFrame_host s _).trans (eventFrame_host _ _)) K.pmeCount (by decide)).trans (eventFrame_tlpSent _))
      ((eventFrame_host s _).trans (eventFrame_host _ _)))
    ((eventFrame_host s _).trans (eventFrame_trySend v _))

theorem eventFrame_advanceSeq (s : State) : EventFrame s (advanceSeq s) := by
  unfold advanceSeq
  simp only
  split
  · exact (eventFrame_setNum s K.seqNext 0 (by decide)).trans (eventFrame_bb _ _)
  · exact eventFrame_setNum _ _ _ (by decide)

theorem eventFrame_markPending (src : Nat) (s : State) : EventFrame s (markPending src s) :=
  ⟨rfl, fun _ _ => rfl, fun i h => by simp [markPending, h], rfl, rfl⟩

theorem eventFrame_dropRecord (r : Record) (s : State) : EventFrame s (dropRecord r s) := by
  unfold dropRecord
  split
  · exact ((eventFrame_bb s _).trans (eventFrame_setVal _ K.dropTotal _ (by decide))).trans (eventFrame_markPending _ _)
  · exact .refl s

theorem eventFrame_enqueueRecord (r : Record) (s : State) : EventFrame s (enqueueRecord r s) := by
  unfold enqueueRecord
  split
  · split
    · exact eventFrame_dropRecord r s
    · exact eventFrame_bb s _
  · split
    · simp only
      split
      · exact (eventFrame_bb s _).trans (eventFrame_dropRecord _ _)
      · exact eventFrame_bb s _
    · exact eventFrame_dropRecord r s

theorem eventFrame_formRecord (cls source code : Nat) (data : List Byte) (s : State) :
    EventFrame s (formRecord cls source code data s) := by
  unfold formRecord
  split
  · exact .refl s
  · simp only
    refine ((eventFrame_advanceSeq s).trans ?_).trans (eventFrame_bb _ _)
    split
    · exact (eventFrame_bb _ _).trans (eventFrame_enqueueRecord _ _)
    · exact eventFrame_enqueueRecord _ _

theorem eventFrame_ic (s : State) (i : Interrupts) (hp : i.pending = s.ic.pending) (hr : i.routes = s.ic.routes)
    (hd : i.disabled = s.ic.disabled) : EventFrame s { s with ic := i } :=
  ⟨rfl, fun _ _ => rfl, fun j h => by simpa [hp] using h, hr, hd⟩

theorem eventFrame_wakeCore (c : Fin 2) (s : State) : EventFrame s (wakeCore c s) :=
  .ite ((eventFrame_cores s _ rfl).setNum _ _ (by decide)) (eventFrame_cores s _ rfl)

theorem eventFrame_presentCore (c : Fin 2) (up : Bool) (s : State) : EventFrame s (presentCore c up s) := by
  unfold presentCore
  simp only
  split
  · exact (eventFrame_cores s _ rfl).trans (eventFrame_wakeCore _ _)
  · exact eventFrame_cores s _ rfl

theorem eventFrame_fallback (s : State) : EventFrame s (fallback s) := by
  unfold fallback
  split
  · split
    · split
      · exact .refl s
      · have h := eventFrame_ic s { s.ic with fallbackNoted := true } rfl rfl rfl
        exact (h.inc K.fallbackCount (by decide)).trans (eventFrame_formRecord _ _ _ _ _)
    · exact .refl s
  · exact eventFrame_ic s _ rfl rfl rfl

/-- The levels of a state are put in place and presented to the cores. -/
theorem eventFrame_present (s : State) (v : Vector Bool 4) (a b : Bool) :
    EventFrame s (presentCore 1 b (presentCore 0 a { s with ic := { s.ic with presented := v } })) :=
  ((eventFrame_ic s { s.ic with presented := v } rfl rfl rfl).trans (eventFrame_presentCore 0 a _)).trans
    (eventFrame_presentCore 1 b _)

theorem eventFrame_refreshLevels (s : State) : EventFrame s (refreshLevels s) :=
  .ite (((eventFrame_fallback s).trans (eventFrame_present _ _ _ _)).trans (eventFrame_messageDue 4 _))
    ((eventFrame_fallback s).trans (eventFrame_present _ _ _ _))

/-- Everything that one event of a source can change. -/
theorem eventFrame_raise (src : Nat) (s : State) : EventFrame s (raise src s) := by
  unfold raise
  split
  · exact (eventFrame_markPending src s).trans (eventFrame_refreshLevels _)
  · exact .refl s

/-- Everything that a black-box record can change. -/
theorem eventFrame_record (cls source code : Nat) (data : List Byte) (s : State) :
    EventFrame s (record cls source code data s) :=
  (eventFrame_formRecord _ _ _ _ _).trans (eventFrame_refreshLevels _)

/-- A source that exists is pending after its event. -/
theorem raise_pending (src : Nat) (s : State) (h : sourceExists src = true) : (raise src s).ic.pending.getLsbD src = true := by
  unfold raise
  rw [if_pos h]
  refine (eventFrame_refreshLevels _).pend src ?_
  have : src < 192 := by simp [sourceExists] at h; omega
  simp [markPending, this]

/-! ### What the frame says of one field -/

theorem EventFrame.clk {s t : State} (h : EventFrame s t) : t.clk = s.clk := by rw [h.rest]
theorem EventFrame.bell {s t : State} (h : EventFrame s t) : t.bell = s.bell := by rw [h.rest]
theorem EventFrame.array {s t : State} (h : EventFrame s t) : t.array = s.array := by rw [h.rest]
theorem EventFrame.tt {s t : State} (h : EventFrame s t) : t.tt = s.tt := by rw [h.rest]
theorem EventFrame.drive {s t : State} (h : EventFrame s t) : t.drive = s.drive := by rw [h.rest]
theorem EventFrame.barn {s t : State} (h : EventFrame s t) : t.barn = s.barn := by rw [h.rest]
theorem EventFrame.hk {s t : State} (h : EventFrame s t) : t.hk = s.hk := by rw [h.rest]
theorem EventFrame.node {s t : State} (h : EventFrame s t) : t.node = s.node := by rw [h.rest]
theorem EventFrame.policy {s t : State} (h : EventFrame s t) : t.policy = s.policy := by rw [h.rest]
theorem EventFrame.sec {s t : State} (h : EventFrame s t) : t.sec = s.sec := by rw [h.rest]
theorem EventFrame.power {s t : State} (h : EventFrame s t) : t.power = s.power := by rw [h.rest]
theorem EventFrame.pending {s t : State} (h : EventFrame s t) : t.pending = s.pending := by rw [h.rest]
theorem EventFrame.latch {s t : State} (h : EventFrame s t) : t.dict.latch = s.dict.latch := by rw [h.rest]
theorem EventFrame.shadow {s t : State} (h : EventFrame s t) : t.dict.shadow = s.dict.shadow := by rw [h.rest]
theorem EventFrame.eng {s t : State} (h : EventFrame s t) (e : Fin 32) : t.array.engines[e] = s.array.engines[e] := by rw [h.array]
theorem EventFrame.num {s t : State} (h : EventFrame s t) (k : Key) (hk : k ∉ eventKeys) : t.num k = s.num k := by
  simp [State.num, numIn, h.vals k hk]
theorem EventFrame.nat {s t : State} (h : EventFrame s t) (k : Key) (hk : k ∉ eventKeys) : t.nat k = s.nat k := by
  simp [nat_eq_num, h.num k hk]
theorem EventFrame.block {s t : State} (h : EventFrame s t) (k : Key) (hk : k ∉ eventKeys) : t.block k = s.block k := by
  simp [State.block, bytesIn, h.vals k hk]

end Sys2Proof.Machine
end

