-- ==== Sys2Proof/Laws/Serve.lean ====
section
/-!
SUPPORT. Laws/Serve.lean: what the turn of a request does around the entry's own effect, said once: an accepted write ends in the
entry's effect, an answer, one request more served, and what the delivery of the answer changes.
-/

namespace Sys2Proof.Machine

/-- The entries that answering a request can change. -/
def answerKeys : List Key := eventKeys ++ [K.requestsServed, K.expeditedServed, K.mailboxServed, K.levelCause]

/-- From `s` to `t` a request is answered: nothing changes but what events change, the places and answers of the dictionary, the ring
node's copies, the host's queues, and what FAULT_CLEAR and MODE give back to the policy (R427). -/
structure AnswerFrame (s t : State) : Prop where
  rest : t = { s with
    ic := t.ic, cores := { s.cores with meip := t.cores.meip, waiting := t.cores.waiting }, bb := t.bb, host := t.host, node := t.node,
    policy := { s.policy with disabled := t.policy.disabled, lastCleared := t.policy.lastCleared },
    sec := { s.sec with lastRequest := t.sec.lastRequest },
    dict := { s.dict with store := t.dict.store, generations := t.dict.generations, waiting := t.dict.waiting,
                          answers := t.dict.answers, portAnswer := t.dict.portAnswer, portBusy := t.dict.portBusy,
                          portDone := t.dict.portDone, portBytes := t.dict.portBytes, portStatus := t.dict.portStatus } }
  vals : ∀ k, k ∉ answerKeys → valIn t.dict.store k = valIn s.dict.store k
  pend : ∀ i, s.ic.pending.getLsbD i = true → t.ic.pending.getLsbD i = true
  routes : t.ic.routes = s.ic.routes
  disabled : t.ic.disabled = s.ic.disabled

theorem AnswerFrame.refl (s : State) : AnswerFrame s s := ⟨rfl, fun _ _ => rfl, fun _ h => h, rfl, rfl⟩

theorem AnswerFrame.trans {s t u : State} (h : AnswerFrame s t) (g : AnswerFrame t u) : AnswerFrame s u where
  rest := by
    have a := g.rest
    rw [h.rest] at a
    exact a
  vals k hk := (g.vals k hk).trans (h.vals k hk)
  pend i hi := g.pend i (h.pend i hi)
  routes := g.routes.trans h.routes
  disabled := g.disabled.trans h.disabled

theorem EventFrame.answer {s t : State} (h : EventFrame s t) : AnswerFrame s t where
  rest := by
    have a := h.rest
    rw [a]
  vals k hk := h.vals k fun e => hk (List.mem_append_left _ e)
  pend := h.pend
  routes := h.routes
  disabled := h.disabled

theorem answerFrame_setVal (s : State) (k : Key) (v : DVal) (h : k ∈ answerKeys) : AnswerFrame s (s.setVal k v) :=
  ⟨rfl, fun j hj => valIn_setVal_other s k j v fun e => hj (e ▸ h), fun _ h => h, rfl, rfl⟩

theorem answerFrame_host (s : State) (p : HostPort) : AnswerFrame s { s with host := p } := (eventFrame_host s p).answer

theorem answerFrame_node (s : State) (n : Ring) : AnswerFrame s { s with node := n } :=
  ⟨rfl, fun _ _ => rfl, fun _ h => h, rfl, rfl⟩

/-! ### Completions -/

theorem answerFrame_writeCompletion (r : Fin 4) (c : Completion) (s : State) : AnswerFrame s (writeCompletion r c s) := by
  have tlp : AnswerFrame s (tlpSent s) := by
    unfold tlpSent
    simp only
    split
    · exact (answerFrame_host s _).trans (answerFrame_setVal _ K.hostLink _ (by decide))
    · exact answerFrame_host s _
  unfold writeCompletion
  simp only
  split
  · exact (tlp.trans (answerFrame_host _ _)).trans (eventFrame_messageDue _ _).answer
  · exact tlp.trans (answerFrame_host _ _)

theorem answerFrame_flushRing (r : Fin 4) (n : Nat) (s : State) : AnswerFrame s (flushRing r n s) := by
  induction n generalizing s with
  | zero => exact .refl s
  | succ n ih =>
    unfold flushRing
    split
    · exact .refl s
    · split
      · split
        · exact ((answerFrame_host s _).trans (answerFrame_writeCompletion _ _ _)).trans (ih _)
        · exact answerFrame_host s _
      · exact .refl s

theorem answerFrame_complete (r : Fin 4) (c : Completion) (s : State) : AnswerFrame s (complete r c s) :=
  (answerFrame_host s _).trans (answerFrame_flushRing _ _ _)

/-! ### Places and answers -/

theorem answerFrame_answers (s : State) (a : Vector (Option Answer) 5) :
    AnswerFrame s { s with dict := { s.dict with answers := a } } := ⟨rfl, fun _ _ => rfl, fun _ h => h, rfl, rfl⟩

theorem answerFrame_presentHost (s : State) : AnswerFrame s (presentHost s) := by
  unfold presentHost
  split
  · split
    · exact .refl s
    · exact (answerFrame_host s _).trans ⟨rfl, fun _ _ => rfl, fun _ h => h, rfl, rfl⟩
  · exact .refl s

theorem answerFrame_answerHost (b : List Byte) (c : Nat) (s : State) : AnswerFrame s (answerHost b c s) := by
  unfold answerHost
  split
  · split
    · exact (answerFrame_host s _).trans (answerFrame_presentHost _)
    · exact ((answerFrame_host s _).trans (answerFrame_complete _ _ _)).trans (answerFrame_presentHost _)
  · exact .refl s

theorem answerFrame_refreshLight (s : State) : AnswerFrame s (refreshLight s) := by
  unfold refreshLight
  simp only
  split
  · refine AnswerFrame.trans (t := { s with policy := _ }) ⟨rfl, fun _ _ => rfl, fun _ h => h, rfl, rfl⟩ ?_
    exact (answerFrame_setVal _ K.levelCause _ (by decide)).trans ⟨rfl, fun _ _ => rfl, fun _ h => h, rfl, rfl⟩
  · exact ⟨rfl, fun _ _ => rfl, fun _ h => h, rfl, rfl⟩

theorem answerFrame_deliver (i : Initiator) (to_ : ReplyTo) (a : Answer) (s : State) : AnswerFrame s (deliver i to_ a s) := by
  unfold deliver
  simp only
  split
  · split
    · refine AnswerFrame.trans ?_ (eventFrame_raise 42 _).answer
      exact ⟨rfl, fun _ _ => rfl, fun _ h => h, rfl, rfl⟩
    · exact ⟨rfl, fun _ _ => rfl, fun _ h => h, rfl, rfl⟩
  · exact ((answerFrame_answers s _).trans (answerFrame_setVal _ K.expeditedServed _ (by decide))).trans (answerFrame_node _ _)
  · exact (answerFrame_answers s _).trans (answerFrame_answerHost _ _ _)
  · exact answerFrame_answers s _

/-! ### What events and completions never touch -/

theorem EventFrame.answers {s t : State} (h : EventFrame s t) : t.dict.answers = s.dict.answers := by rw [h.rest]

theorem writeCompletion_answers (r : Fin 4) (c : Completion) (s : State) :
    (writeCompletion r c s).dict.answers = s.dict.answers := by
  have tlp : (tlpSent s).dict.answers = s.dict.answers := by
    unfold tlpSent
    simp only
    split <;> rfl
  unfold writeCompletion
  simp only
  split
  · exact ((eventFrame_messageDue _ _).answers).trans tlp
  · exact tlp

theorem flushRing_answers (r : Fin 4) (n : Nat) (s : State) : (flushRing r n s).dict.answers = s.dict.answers := by
  induction n generalizing s with
  | zero => rfl
  | succ n ih =>
    unfold flushRing
    split
    · rfl
    · split
      · split
        · rw [ih, writeCompletion_answers]; rfl
        · rfl
      · rfl

theorem presentHost_answers (s : State) : (presentHost s).dict.answers = s.dict.answers := by
  unfold presentHost
  split
  · split <;> rfl
  · rfl

theorem answerHost_answers (b : List Byte) (c : Nat) (s : State) : (answerHost b c s).dict.answers = s.dict.answers := by
  unfold answerHost
  split
  · split
    · rw [presentHost_answers]
    · rw [presentHost_answers]
      unfold complete
      rw [flushRing_answers]; rfl
  · rfl

theorem deliver_answers (i : Initiator) (to_ : ReplyTo) (a : Answer) (s : State) :
    (deliver i to_ a s).dict.answers = s.dict.answers.set i (some a) := by
  unfold deliver
  simp only
  split
  · split
    · exact (eventFrame_raise 42 _).answers
    · rfl
  · rfl
  · exact answerHost_answers _ _ _
  · rfl

/-! ### The turn -/

/-- The request that `HasTurn` names runs in `w`, and its answer leaves: `u` is the state after it. -/
theorem runRequest_of_hasTurn {src : Src} {group : Bool} {items : List Item} {s w : State} {i : Initiator}
    (h : HasTurn src group items s i w) (stuck : BitVec 2) :
    ∃ r : Request, r.items = items ∧ r.group = group ∧ r.broken = false ∧
      let x := serveRequest i stuck r w
      AnswerFrame (afterAccept r x.2 x.1) (runRequest src group items stuck s)
        ∧ (runRequest src group items stuck s).dict.answers[i] = some x.2 := by
  have same {a b : Request} (h : sameRequest a b = true) : a.items = b.items ∧ a.group = b.group ∧ a.broken = b.broken := by
    simpa [sameRequest, and_assoc] using h
  have place {v : State} (hb : TurnBegins group items i v w) :
      ∃ r : Request, r.items = items ∧ r.group = group ∧ r.broken = false ∧
        let x := serveRequest i stuck r w
        AnswerFrame (afterAccept r x.2 x.1) (serveNext i stuck v) ∧ (serveNext i stuck v).dict.answers[i] = some x.2 := by
    obtain ⟨p, ht, hp, ho, hs, rfl⟩ | ⟨q, r, ht, rfl, hr, hs, rfl⟩ := hb
    · refine ⟨p.req, (same hs).1, (same hs).2.1, (same hs).2.2, ?_⟩
      simp only [serveNext, ht, if_true, servePlace, hp, if_neg ho]
      exact ⟨answerFrame_deliver _ _ _ _, by simp [deliver_answers]⟩
    · refine ⟨r, (same hs).1, (same hs).2.1, (same hs).2.2, ?_⟩
      simp only [serveNext, ht, if_true, serveMail, hr]
      exact ⟨⟨rfl, fun k hk => valIn_setVal_other _ _ _ _ fun e => hk (e ▸ (by decide : K.mailboxServed ∈ answerKeys)),
        fun _ h => h, rfl, rfl⟩, by simp⟩
  obtain ⟨hu, h⟩ := h
  have none_waits (t : State) : catchUp s t = t := by simp [catchUp, hu]
  cases src with
  | direct j tag dt =>
    obtain ⟨rfl, hw, hb, hr, ht⟩ := h
    have : runRequest (.direct j tag dt) group items stuck s = serveNext j stuck (presentRequest j { group, tag, items } .port
        (if j = 3 then { s.elapse dt with dict := { (s.elapse dt).dict with portBusy := true } } else s.elapse dt)) := by
      simp only [runRequest, none_waits]
      rw [if_neg]
      simp only [hw, hr, Option.isSome_none, Bool.not_true, Bool.or_false, Bool.false_or, Bool.and_eq_true, beq_iff_eq]
      exact hb
    rw [this]
    exact place ht
  | queued j =>
    obtain ⟨rfl, ht⟩ := h
    have : runRequest (.queued j) group items stuck s = serveNext j stuck s := by
      obtain ⟨p, hs, hp, -, hq, -⟩ | ⟨q, r, hs, rfl, hr, hq, -⟩ := ht
      · have e : waitingRequest s j = some p.req := by simp [waitingRequest, hs, hp]
        simp only [runRequest, e, none_waits]
        exact if_pos hq
      · have e : waitingRequest s (portIni q) = some r := by simp [waitingRequest, hs, hr]
        simp only [runRequest, e, none_waits]
        exact if_pos hq
    rw [this]
    exact place ht

/-- A request is served: one more is counted, and an initiator's session sees it. -/
def servedBy (i : Initiator) (s : State) : State :=
  (match sessionIni i with
    | some d => { s with sec := { s.sec with lastRequest := s.sec.lastRequest.set d s.clk.now } }
    | none => s).incWrap 64 K.requestsServed

theorem answerFrame_servedBy (i : Initiator) (s : State) : AnswerFrame s (servedBy i s) := by
  unfold servedBy
  split <;> exact ⟨rfl, fun k hk => valIn_setVal_other _ _ _ _ fun e => hk (e ▸ (by decide : K.requestsServed ∈ answerKeys)),
    fun _ h => h, rfl, rfl⟩

theorem itemKey_writeItem (k : Key) (o : Nat) (data : List Byte) (h : k < 2 ^ 24) : itemKey (writeItem k o data) = k := by
  have e : ∀ n : Nat, n < 2 ^ 24 → n / 256 % 65536 * 256 + n % 256 = n := by omega
  simpa [itemKey, writeItem] using e k h

/-- A single write that passes its checks, served. -/
theorem serveRequest_write {i : Initiator} {stuck : BitVec 2} {r : Request} {it : Item} {w : State} (hi : r.items = [it])
    (hb : r.broken = false) (ho : it.op = 2) (h : writeBars i (levelOf' w i) [it] true w = none) :
    serveRequest i stuck r w =
      let v := acceptPuts i (levelOf' w i) stuck ([it].filterMap (putOf w)) w
      (servedBy i v.1, { v.2 with tag := r.tag }) := by
  have hm : malformed r = false := by simp [malformed, hi, hb, ho]
  simp only [serveRequest, hm, hi, ho, serveWrites, h, servedBy]
  cases sessionIni i <;> rfl

/-- What an accepted write of one entry leaves, whoever sent it: the entry's own effect, its answer, and nothing else but what
answering changes. LEVEL_RETURN apart, whose effect is the policy's. -/
theorem runRequest_write {src : Src} {k : Key} {o : Nat} {data : List Byte} {s w : State} {i : Initiator} (stuck : BitVec 2)
    (ht : HasTurn src false [writeItem k o data] s i w)
    (hb : writeBars i (levelOf' w i) [writeItem k o data] true w = none) (hk : k < 2 ^ 24) (hl : k ≠ K.levelReturn) :
    let v := acceptPuts i (levelOf' w i) stuck ([writeItem k o data].filterMap (putOf w)) w
    let u := runRequest src false [writeItem k o data] stuck s
    AnswerFrame (servedBy i v.1) u ∧ ∃ tag, u.dict.answers[i] = some { v.2 with tag } := by
  obtain ⟨r, hi, -, hbr, hf, ha⟩ := runRequest_of_hasTurn ht stuck
  have e := serveRequest_write (stuck := stuck) hi hbr rfl hb
  simp only [e] at hf ha
  refine ⟨?_, r.tag, ha⟩
  refine AnswerFrame.trans ?_ hf
  unfold afterAccept
  simp only [hi, List.any_cons, List.any_nil, itemKey_writeItem k o data hk]
  rw [if_neg (by simp [hl])]
  exact answerFrame_refreshLight _

end Sys2Proof.Machine
end

