-- ==== Sys2Proof/Laws/State.lean ====
section
/-!
SUPPORT. Laws/State.lean: what each basic update of the state leaves alone, field by field, each true by rfl, so that no
proof unfolds a record update; and the same of the passing of time.
-/

namespace Sys2Proof.Machine

/-! ### setVal -/

@[simp] theorem setVal_clk (s : State) (k : Key) (v : DVal) : (s.setVal k v).clk = s.clk := rfl
@[simp] theorem setVal_bell (s : State) (k : Key) (v : DVal) : (s.setVal k v).bell = s.bell := rfl
@[simp] theorem setVal_launch (s : State) (k : Key) (v : DVal) : (s.setVal k v).launch = s.launch := rfl
@[simp] theorem setVal_servo (s : State) (k : Key) (v : DVal) : (s.setVal k v).servo = s.servo := rfl
@[simp] theorem setVal_tdc (s : State) (k : Key) (v : DVal) : (s.setVal k v).tdc = s.tdc := rfl
@[simp] theorem setVal_exc (s : State) (k : Key) (v : DVal) : (s.setVal k v).exc = s.exc := rfl
@[simp] theorem setVal_drive (s : State) (k : Key) (v : DVal) : (s.setVal k v).drive = s.drive := rfl
@[simp] theorem setVal_chain (s : State) (k : Key) (v : DVal) : (s.setVal k v).chain = s.chain := rfl
@[simp] theorem setVal_capture (s : State) (k : Key) (v : DVal) : (s.setVal k v).capture = s.capture := rfl
@[simp] theorem setVal_raman (s : State) (k : Key) (v : DVal) : (s.setVal k v).raman = s.raman := rfl
@[simp] theorem setVal_detect (s : State) (k : Key) (v : DVal) : (s.setVal k v).detect = s.detect := rfl
@[simp] theorem setVal_granary (s : State) (k : Key) (v : DVal) : (s.setVal k v).granary = s.granary := rfl
@[simp] theorem setVal_array (s : State) (k : Key) (v : DVal) : (s.setVal k v).array = s.array := rfl
@[simp] theorem setVal_tt (s : State) (k : Key) (v : DVal) : (s.setVal k v).tt = s.tt := rfl
@[simp] theorem setVal_barn (s : State) (k : Key) (v : DVal) : (s.setVal k v).barn = s.barn := rfl
@[simp] theorem setVal_streams (s : State) (k : Key) (v : DVal) : (s.setVal k v).streams = s.streams := rfl
@[simp] theorem setVal_profiler (s : State) (k : Key) (v : DVal) : (s.setVal k v).profiler = s.profiler := rfl
@[simp] theorem setVal_fibre (s : State) (k : Key) (v : DVal) : (s.setVal k v).fibre = s.fibre := rfl
@[simp] theorem setVal_ic (s : State) (k : Key) (v : DVal) : (s.setVal k v).ic = s.ic := rfl
@[simp] theorem setVal_timer (s : State) (k : Key) (v : DVal) : (s.setVal k v).timer = s.timer := rfl
@[simp] theorem setVal_cores (s : State) (k : Key) (v : DVal) : (s.setVal k v).cores = s.cores := rfl
@[simp] theorem setVal_bb (s : State) (k : Key) (v : DVal) : (s.setVal k v).bb = s.bb := rfl
@[simp] theorem setVal_hk (s : State) (k : Key) (v : DVal) : (s.setVal k v).hk = s.hk := rfl
@[simp] theorem setVal_node (s : State) (k : Key) (v : DVal) : (s.setVal k v).node = s.node := rfl
@[simp] theorem setVal_policy (s : State) (k : Key) (v : DVal) : (s.setVal k v).policy = s.policy := rfl
@[simp] theorem setVal_sec (s : State) (k : Key) (v : DVal) : (s.setVal k v).sec = s.sec := rfl
@[simp] theorem setVal_power (s : State) (k : Key) (v : DVal) : (s.setVal k v).power = s.power := rfl
@[simp] theorem setVal_start (s : State) (k : Key) (v : DVal) : (s.setVal k v).start = s.start := rfl
@[simp] theorem setVal_tap (s : State) (k : Key) (v : DVal) : (s.setVal k v).tap = s.tap := rfl
@[simp] theorem setVal_host (s : State) (k : Key) (v : DVal) : (s.setVal k v).host = s.host := rfl
@[simp] theorem setVal_port (s : State) (k : Key) (v : DVal) : (s.setVal k v).port = s.port := rfl
@[simp] theorem setVal_pending (s : State) (k : Key) (v : DVal) : (s.setVal k v).pending = s.pending := rfl
@[simp] theorem setVal_drawn (s : State) (k : Key) (v : DVal) : (s.setVal k v).drawn = s.drawn := rfl
@[simp] theorem setVal_dict_shadow (s : State) (k : Key) (v : DVal) : (s.setVal k v).dict.shadow = s.dict.shadow := rfl
@[simp] theorem setVal_dict_waiting (s : State) (k : Key) (v : DVal) : (s.setVal k v).dict.waiting = s.dict.waiting := rfl
@[simp] theorem setVal_dict_lastExpedited (s : State) (k : Key) (v : DVal) : (s.setVal k v).dict.lastExpedited = s.dict.lastExpedited := rfl
@[simp] theorem setVal_dict_lastDeferred (s : State) (k : Key) (v : DVal) : (s.setVal k v).dict.lastDeferred = s.dict.lastDeferred := rfl
@[simp] theorem setVal_dict_answers (s : State) (k : Key) (v : DVal) : (s.setVal k v).dict.answers = s.dict.answers := rfl
@[simp] theorem setVal_dict_latch (s : State) (k : Key) (v : DVal) : (s.setVal k v).dict.latch = s.dict.latch := rfl
@[simp] theorem setVal_dict_portRequest (s : State) (k : Key) (v : DVal) : (s.setVal k v).dict.portRequest = s.dict.portRequest := rfl
@[simp] theorem setVal_dict_portAnswer (s : State) (k : Key) (v : DVal) : (s.setVal k v).dict.portAnswer = s.dict.portAnswer := rfl
@[simp] theorem setVal_dict_portBusy (s : State) (k : Key) (v : DVal) : (s.setVal k v).dict.portBusy = s.dict.portBusy := rfl
@[simp] theorem setVal_dict_portDone (s : State) (k : Key) (v : DVal) : (s.setVal k v).dict.portDone = s.dict.portDone := rfl
@[simp] theorem setVal_dict_portGoLost (s : State) (k : Key) (v : DVal) : (s.setVal k v).dict.portGoLost = s.dict.portGoLost := rfl
@[simp] theorem setVal_dict_portBytes (s : State) (k : Key) (v : DVal) : (s.setVal k v).dict.portBytes = s.dict.portBytes := rfl
@[simp] theorem setVal_dict_portStatus (s : State) (k : Key) (v : DVal) : (s.setVal k v).dict.portStatus = s.dict.portStatus := rfl
@[simp] theorem setVal_dict_ops (s : State) (k : Key) (v : DVal) : (s.setVal k v).dict.ops = s.dict.ops := rfl
@[simp] theorem setVal_dict_upload (s : State) (k : Key) (v : DVal) : (s.setVal k v).dict.upload = s.dict.upload := rfl
@[simp] theorem setVal_dict_uploaded (s : State) (k : Key) (v : DVal) : (s.setVal k v).dict.uploaded = s.dict.uploaded := rfl
@[simp] theorem setVal_dict_profiles (s : State) (k : Key) (v : DVal) : (s.setVal k v).dict.profiles = s.dict.profiles := rfl
@[simp] theorem setVal_dict_imageSlots (s : State) (k : Key) (v : DVal) : (s.setVal k v).dict.imageSlots = s.dict.imageSlots := rfl

/-! ### setNum -/

@[simp] theorem setNum_clk (s : State) (k : Key) (v : Int) : (s.setNum k v).clk = s.clk := rfl
@[simp] theorem setNum_bell (s : State) (k : Key) (v : Int) : (s.setNum k v).bell = s.bell := rfl
@[simp] theorem setNum_launch (s : State) (k : Key) (v : Int) : (s.setNum k v).launch = s.launch := rfl
@[simp] theorem setNum_servo (s : State) (k : Key) (v : Int) : (s.setNum k v).servo = s.servo := rfl
@[simp] theorem setNum_tdc (s : State) (k : Key) (v : Int) : (s.setNum k v).tdc = s.tdc := rfl
@[simp] theorem setNum_exc (s : State) (k : Key) (v : Int) : (s.setNum k v).exc = s.exc := rfl
@[simp] theorem setNum_drive (s : State) (k : Key) (v : Int) : (s.setNum k v).drive = s.drive := rfl
@[simp] theorem setNum_chain (s : State) (k : Key) (v : Int) : (s.setNum k v).chain = s.chain := rfl
@[simp] theorem setNum_capture (s : State) (k : Key) (v : Int) : (s.setNum k v).capture = s.capture := rfl
@[simp] theorem setNum_raman (s : State) (k : Key) (v : Int) : (s.setNum k v).raman = s.raman := rfl
@[simp] theorem setNum_detect (s : State) (k : Key) (v : Int) : (s.setNum k v).detect = s.detect := rfl
@[simp] theorem setNum_granary (s : State) (k : Key) (v : Int) : (s.setNum k v).granary = s.granary := rfl
@[simp] theorem setNum_array (s : State) (k : Key) (v : Int) : (s.setNum k v).array = s.array := rfl
@[simp] theorem setNum_tt (s : State) (k : Key) (v : Int) : (s.setNum k v).tt = s.tt := rfl
@[simp] theorem setNum_barn (s : State) (k : Key) (v : Int) : (s.setNum k v).barn = s.barn := rfl
@[simp] theorem setNum_streams (s : State) (k : Key) (v : Int) : (s.setNum k v).streams = s.streams := rfl
@[simp] theorem setNum_profiler (s : State) (k : Key) (v : Int) : (s.setNum k v).profiler = s.profiler := rfl
@[simp] theorem setNum_fibre (s : State) (k : Key) (v : Int) : (s.setNum k v).fibre = s.fibre := rfl
@[simp] theorem setNum_ic (s : State) (k : Key) (v : Int) : (s.setNum k v).ic = s.ic := rfl
@[simp] theorem setNum_timer (s : State) (k : Key) (v : Int) : (s.setNum k v).timer = s.timer := rfl
@[simp] theorem setNum_cores (s : State) (k : Key) (v : Int) : (s.setNum k v).cores = s.cores := rfl
@[simp] theorem setNum_bb (s : State) (k : Key) (v : Int) : (s.setNum k v).bb = s.bb := rfl
@[simp] theorem setNum_hk (s : State) (k : Key) (v : Int) : (s.setNum k v).hk = s.hk := rfl
@[simp] theorem setNum_node (s : State) (k : Key) (v : Int) : (s.setNum k v).node = s.node := rfl
@[simp] theorem setNum_policy (s : State) (k : Key) (v : Int) : (s.setNum k v).policy = s.policy := rfl
@[simp] theorem setNum_sec (s : State) (k : Key) (v : Int) : (s.setNum k v).sec = s.sec := rfl
@[simp] theorem setNum_power (s : State) (k : Key) (v : Int) : (s.setNum k v).power = s.power := rfl
@[simp] theorem setNum_start (s : State) (k : Key) (v : Int) : (s.setNum k v).start = s.start := rfl
@[simp] theorem setNum_tap (s : State) (k : Key) (v : Int) : (s.setNum k v).tap = s.tap := rfl
@[simp] theorem setNum_host (s : State) (k : Key) (v : Int) : (s.setNum k v).host = s.host := rfl
@[simp] theorem setNum_port (s : State) (k : Key) (v : Int) : (s.setNum k v).port = s.port := rfl
@[simp] theorem setNum_pending (s : State) (k : Key) (v : Int) : (s.setNum k v).pending = s.pending := rfl
@[simp] theorem setNum_drawn (s : State) (k : Key) (v : Int) : (s.setNum k v).drawn = s.drawn := rfl
@[simp] theorem setNum_dict_shadow (s : State) (k : Key) (v : Int) : (s.setNum k v).dict.shadow = s.dict.shadow := rfl
@[simp] theorem setNum_dict_waiting (s : State) (k : Key) (v : Int) : (s.setNum k v).dict.waiting = s.dict.waiting := rfl
@[simp] theorem setNum_dict_lastExpedited (s : State) (k : Key) (v : Int) : (s.setNum k v).dict.lastExpedited = s.dict.lastExpedited := rfl
@[simp] theorem setNum_dict_lastDeferred (s : State) (k : Key) (v : Int) : (s.setNum k v).dict.lastDeferred = s.dict.lastDeferred := rfl
@[simp] theorem setNum_dict_answers (s : State) (k : Key) (v : Int) : (s.setNum k v).dict.answers = s.dict.answers := rfl
@[simp] theorem setNum_dict_latch (s : State) (k : Key) (v : Int) : (s.setNum k v).dict.latch = s.dict.latch := rfl
@[simp] theorem setNum_dict_portRequest (s : State) (k : Key) (v : Int) : (s.setNum k v).dict.portRequest = s.dict.portRequest := rfl
@[simp] theorem setNum_dict_portAnswer (s : State) (k : Key) (v : Int) : (s.setNum k v).dict.portAnswer = s.dict.portAnswer := rfl
@[simp] theorem setNum_dict_portBusy (s : State) (k : Key) (v : Int) : (s.setNum k v).dict.portBusy = s.dict.portBusy := rfl
@[simp] theorem setNum_dict_portDone (s : State) (k : Key) (v : Int) : (s.setNum k v).dict.portDone = s.dict.portDone := rfl
@[simp] theorem setNum_dict_portGoLost (s : State) (k : Key) (v : Int) : (s.setNum k v).dict.portGoLost = s.dict.portGoLost := rfl
@[simp] theorem setNum_dict_portBytes (s : State) (k : Key) (v : Int) : (s.setNum k v).dict.portBytes = s.dict.portBytes := rfl
@[simp] theorem setNum_dict_portStatus (s : State) (k : Key) (v : Int) : (s.setNum k v).dict.portStatus = s.dict.portStatus := rfl
@[simp] theorem setNum_dict_ops (s : State) (k : Key) (v : Int) : (s.setNum k v).dict.ops = s.dict.ops := rfl
@[simp] theorem setNum_dict_upload (s : State) (k : Key) (v : Int) : (s.setNum k v).dict.upload = s.dict.upload := rfl
@[simp] theorem setNum_dict_uploaded (s : State) (k : Key) (v : Int) : (s.setNum k v).dict.uploaded = s.dict.uploaded := rfl
@[simp] theorem setNum_dict_profiles (s : State) (k : Key) (v : Int) : (s.setNum k v).dict.profiles = s.dict.profiles := rfl
@[simp] theorem setNum_dict_imageSlots (s : State) (k : Key) (v : Int) : (s.setNum k v).dict.imageSlots = s.dict.imageSlots := rfl

/-! ### setBlock -/

@[simp] theorem setBlock_clk (s : State) (k : Key) (b : List Byte) : (s.setBlock k b).clk = s.clk := rfl
@[simp] theorem setBlock_bell (s : State) (k : Key) (b : List Byte) : (s.setBlock k b).bell = s.bell := rfl
@[simp] theorem setBlock_launch (s : State) (k : Key) (b : List Byte) : (s.setBlock k b).launch = s.launch := rfl
@[simp] theorem setBlock_servo (s : State) (k : Key) (b : List Byte) : (s.setBlock k b).servo = s.servo := rfl
@[simp] theorem setBlock_tdc (s : State) (k : Key) (b : List Byte) : (s.setBlock k b).tdc = s.tdc := rfl
@[simp] theorem setBlock_exc (s : State) (k : Key) (b : List Byte) : (s.setBlock k b).exc = s.exc := rfl
@[simp] theorem setBlock_drive (s : State) (k : Key) (b : List Byte) : (s.setBlock k b).drive = s.drive := rfl
@[simp] theorem setBlock_chain (s : State) (k : Key) (b : List Byte) : (s.setBlock k b).chain = s.chain := rfl
@[simp] theorem setBlock_capture (s : State) (k : Key) (b : List Byte) : (s.setBlock k b).capture = s.capture := rfl
@[simp] theorem setBlock_raman (s : State) (k : Key) (b : List Byte) : (s.setBlock k b).raman = s.raman := rfl
@[simp] theorem setBlock_detect (s : State) (k : Key) (b : List Byte) : (s.setBlock k b).detect = s.detect := rfl
@[simp] theorem setBlock_granary (s : State) (k : Key) (b : List Byte) : (s.setBlock k b).granary = s.granary := rfl
@[simp] theorem setBlock_array (s : State) (k : Key) (b : List Byte) : (s.setBlock k b).array = s.array := rfl
@[simp] theorem setBlock_tt (s : State) (k : Key) (b : List Byte) : (s.setBlock k b).tt = s.tt := rfl
@[simp] theorem setBlock_barn (s : State) (k : Key) (b : List Byte) : (s.setBlock k b).barn = s.barn := rfl
@[simp] theorem setBlock_streams (s : State) (k : Key) (b : List Byte) : (s.setBlock k b).streams = s.streams := rfl
@[simp] theorem setBlock_profiler (s : State) (k : Key) (b : List Byte) : (s.setBlock k b).profiler = s.profiler := rfl
@[simp] theorem setBlock_fibre (s : State) (k : Key) (b : List Byte) : (s.setBlock k b).fibre = s.fibre := rfl
@[simp] theorem setBlock_ic (s : State) (k : Key) (b : List Byte) : (s.setBlock k b).ic = s.ic := rfl
@[simp] theorem setBlock_timer (s : State) (k : Key) (b : List Byte) : (s.setBlock k b).timer = s.timer := rfl
@[simp] theorem setBlock_cores (s : State) (k : Key) (b : List Byte) : (s.setBlock k b).cores = s.cores := rfl
@[simp] theorem setBlock_bb (s : State) (k : Key) (b : List Byte) : (s.setBlock k b).bb = s.bb := rfl
@[simp] theorem setBlock_hk (s : State) (k : Key) (b : List Byte) : (s.setBlock k b).hk = s.hk := rfl
@[simp] theorem setBlock_node (s : State) (k : Key) (b : List Byte) : (s.setBlock k b).node = s.node := rfl
@[simp] theorem setBlock_policy (s : State) (k : Key) (b : List Byte) : (s.setBlock k b).policy = s.policy := rfl
@[simp] theorem setBlock_sec (s : State) (k : Key) (b : List Byte) : (s.setBlock k b).sec = s.sec := rfl
@[simp] theorem setBlock_power (s : State) (k : Key) (b : List Byte) : (s.setBlock k b).power = s.power := rfl
@[simp] theorem setBlock_start (s : State) (k : Key) (b : List Byte) : (s.setBlock k b).start = s.start := rfl
@[simp] theorem setBlock_tap (s : State) (k : Key) (b : List Byte) : (s.setBlock k b).tap = s.tap := rfl
@[simp] theorem setBlock_host (s : State) (k : Key) (b : List Byte) : (s.setBlock k b).host = s.host := rfl
@[simp] theorem setBlock_port (s : State) (k : Key) (b : List Byte) : (s.setBlock k b).port = s.port := rfl
@[simp] theorem setBlock_pending (s : State) (k : Key) (b : List Byte) : (s.setBlock k b).pending = s.pending := rfl
@[simp] theorem setBlock_drawn (s : State) (k : Key) (b : List Byte) : (s.setBlock k b).drawn = s.drawn := rfl
@[simp] theorem setBlock_dict_shadow (s : State) (k : Key) (b : List Byte) : (s.setBlock k b).dict.shadow = s.dict.shadow := rfl
@[simp] theorem setBlock_dict_waiting (s : State) (k : Key) (b : List Byte) : (s.setBlock k b).dict.waiting = s.dict.waiting := rfl
@[simp] theorem setBlock_dict_lastExpedited (s : State) (k : Key) (b : List Byte) : (s.setBlock k b).dict.lastExpedited = s.dict.lastExpedited := rfl
@[simp] theorem setBlock_dict_lastDeferred (s : State) (k : Key) (b : List Byte) : (s.setBlock k b).dict.lastDeferred = s.dict.lastDeferred := rfl
@[simp] theorem setBlock_dict_answers (s : State) (k : Key) (b : List Byte) : (s.setBlock k b).dict.answers = s.dict.answers := rfl
@[simp] theorem setBlock_dict_latch (s : State) (k : Key) (b : List Byte) : (s.setBlock k b).dict.latch = s.dict.latch := rfl
@[simp] theorem setBlock_dict_portRequest (s : State) (k : Key) (b : List Byte) : (s.setBlock k b).dict.portRequest = s.dict.portRequest := rfl
@[simp] theorem setBlock_dict_portAnswer (s : State) (k : Key) (b : List Byte) : (s.setBlock k b).dict.portAnswer = s.dict.portAnswer := rfl
@[simp] theorem setBlock_dict_portBusy (s : State) (k : Key) (b : List Byte) : (s.setBlock k b).dict.portBusy = s.dict.portBusy := rfl
@[simp] theorem setBlock_dict_portDone (s : State) (k : Key) (b : List Byte) : (s.setBlock k b).dict.portDone = s.dict.portDone := rfl
@[simp] theorem setBlock_dict_portGoLost (s : State) (k : Key) (b : List Byte) : (s.setBlock k b).dict.portGoLost = s.dict.portGoLost := rfl
@[simp] theorem setBlock_dict_portBytes (s : State) (k : Key) (b : List Byte) : (s.setBlock k b).dict.portBytes = s.dict.portBytes := rfl
@[simp] theorem setBlock_dict_portStatus (s : State) (k : Key) (b : List Byte) : (s.setBlock k b).dict.portStatus = s.dict.portStatus := rfl
@[simp] theorem setBlock_dict_ops (s : State) (k : Key) (b : List Byte) : (s.setBlock k b).dict.ops = s.dict.ops := rfl
@[simp] theorem setBlock_dict_upload (s : State) (k : Key) (b : List Byte) : (s.setBlock k b).dict.upload = s.dict.upload := rfl
@[simp] theorem setBlock_dict_uploaded (s : State) (k : Key) (b : List Byte) : (s.setBlock k b).dict.uploaded = s.dict.uploaded := rfl
@[simp] theorem setBlock_dict_profiles (s : State) (k : Key) (b : List Byte) : (s.setBlock k b).dict.profiles = s.dict.profiles := rfl
@[simp] theorem setBlock_dict_imageSlots (s : State) (k : Key) (b : List Byte) : (s.setBlock k b).dict.imageSlots = s.dict.imageSlots := rfl

/-! ### addSat -/

@[simp] theorem addSat_clk (s : State) (w : Nat) (k : Key) (n : Nat) : (s.addSat w k n).clk = s.clk := rfl
@[simp] theorem addSat_bell (s : State) (w : Nat) (k : Key) (n : Nat) : (s.addSat w k n).bell = s.bell := rfl
@[simp] theorem addSat_launch (s : State) (w : Nat) (k : Key) (n : Nat) : (s.addSat w k n).launch = s.launch := rfl
@[simp] theorem addSat_servo (s : State) (w : Nat) (k : Key) (n : Nat) : (s.addSat w k n).servo = s.servo := rfl
@[simp] theorem addSat_tdc (s : State) (w : Nat) (k : Key) (n : Nat) : (s.addSat w k n).tdc = s.tdc := rfl
@[simp] theorem addSat_exc (s : State) (w : Nat) (k : Key) (n : Nat) : (s.addSat w k n).exc = s.exc := rfl
@[simp] theorem addSat_drive (s : State) (w : Nat) (k : Key) (n : Nat) : (s.addSat w k n).drive = s.drive := rfl
@[simp] theorem addSat_chain (s : State) (w : Nat) (k : Key) (n : Nat) : (s.addSat w k n).chain = s.chain := rfl
@[simp] theorem addSat_capture (s : State) (w : Nat) (k : Key) (n : Nat) : (s.addSat w k n).capture = s.capture := rfl
@[simp] theorem addSat_raman (s : State) (w : Nat) (k : Key) (n : Nat) : (s.addSat w k n).raman = s.raman := rfl
@[simp] theorem addSat_detect (s : State) (w : Nat) (k : Key) (n : Nat) : (s.addSat w k n).detect = s.detect := rfl
@[simp] theorem addSat_granary (s : State) (w : Nat) (k : Key) (n : Nat) : (s.addSat w k n).granary = s.granary := rfl
@[simp] theorem addSat_array (s : State) (w : Nat) (k : Key) (n : Nat) : (s.addSat w k n).array = s.array := rfl
@[simp] theorem addSat_tt (s : State) (w : Nat) (k : Key) (n : Nat) : (s.addSat w k n).tt = s.tt := rfl
@[simp] theorem addSat_barn (s : State) (w : Nat) (k : Key) (n : Nat) : (s.addSat w k n).barn = s.barn := rfl
@[simp] theorem addSat_streams (s : State) (w : Nat) (k : Key) (n : Nat) : (s.addSat w k n).streams = s.streams := rfl
@[simp] theorem addSat_profiler (s : State) (w : Nat) (k : Key) (n : Nat) : (s.addSat w k n).profiler = s.profiler := rfl
@[simp] theorem addSat_fibre (s : State) (w : Nat) (k : Key) (n : Nat) : (s.addSat w k n).fibre = s.fibre := rfl
@[simp] theorem addSat_ic (s : State) (w : Nat) (k : Key) (n : Nat) : (s.addSat w k n).ic = s.ic := rfl
@[simp] theorem addSat_timer (s : State) (w : Nat) (k : Key) (n : Nat) : (s.addSat w k n).timer = s.timer := rfl
@[simp] theorem addSat_cores (s : State) (w : Nat) (k : Key) (n : Nat) : (s.addSat w k n).cores = s.cores := rfl
@[simp] theorem addSat_bb (s : State) (w : Nat) (k : Key) (n : Nat) : (s.addSat w k n).bb = s.bb := rfl
@[simp] theorem addSat_hk (s : State) (w : Nat) (k : Key) (n : Nat) : (s.addSat w k n).hk = s.hk := rfl
@[simp] theorem addSat_node (s : State) (w : Nat) (k : Key) (n : Nat) : (s.addSat w k n).node = s.node := rfl
@[simp] theorem addSat_policy (s : State) (w : Nat) (k : Key) (n : Nat) : (s.addSat w k n).policy = s.policy := rfl
@[simp] theorem addSat_sec (s : State) (w : Nat) (k : Key) (n : Nat) : (s.addSat w k n).sec = s.sec := rfl
@[simp] theorem addSat_power (s : State) (w : Nat) (k : Key) (n : Nat) : (s.addSat w k n).power = s.power := rfl
@[simp] theorem addSat_start (s : State) (w : Nat) (k : Key) (n : Nat) : (s.addSat w k n).start = s.start := rfl
@[simp] theorem addSat_tap (s : State) (w : Nat) (k : Key) (n : Nat) : (s.addSat w k n).tap = s.tap := rfl
@[simp] theorem addSat_host (s : State) (w : Nat) (k : Key) (n : Nat) : (s.addSat w k n).host = s.host := rfl
@[simp] theorem addSat_port (s : State) (w : Nat) (k : Key) (n : Nat) : (s.addSat w k n).port = s.port := rfl
@[simp] theorem addSat_pending (s : State) (w : Nat) (k : Key) (n : Nat) : (s.addSat w k n).pending = s.pending := rfl
@[simp] theorem addSat_drawn (s : State) (w : Nat) (k : Key) (n : Nat) : (s.addSat w k n).drawn = s.drawn := rfl
@[simp] theorem addSat_dict_shadow (s : State) (w : Nat) (k : Key) (n : Nat) : (s.addSat w k n).dict.shadow = s.dict.shadow := rfl
@[simp] theorem addSat_dict_waiting (s : State) (w : Nat) (k : Key) (n : Nat) : (s.addSat w k n).dict.waiting = s.dict.waiting := rfl
@[simp] theorem addSat_dict_lastExpedited (s : State) (w : Nat) (k : Key) (n : Nat) : (s.addSat w k n).dict.lastExpedited = s.dict.lastExpedited := rfl
@[simp] theorem addSat_dict_lastDeferred (s : State) (w : Nat) (k : Key) (n : Nat) : (s.addSat w k n).dict.lastDeferred = s.dict.lastDeferred := rfl
@[simp] theorem addSat_dict_answers (s : State) (w : Nat) (k : Key) (n : Nat) : (s.addSat w k n).dict.answers = s.dict.answers := rfl
@[simp] theorem addSat_dict_latch (s : State) (w : Nat) (k : Key) (n : Nat) : (s.addSat w k n).dict.latch = s.dict.latch := rfl
@[simp] theorem addSat_dict_portRequest (s : State) (w : Nat) (k : Key) (n : Nat) : (s.addSat w k n).dict.portRequest = s.dict.portRequest := rfl
@[simp] theorem addSat_dict_portAnswer (s : State) (w : Nat) (k : Key) (n : Nat) : (s.addSat w k n).dict.portAnswer = s.dict.portAnswer := rfl
@[simp] theorem addSat_dict_portBusy (s : State) (w : Nat) (k : Key) (n : Nat) : (s.addSat w k n).dict.portBusy = s.dict.portBusy := rfl
@[simp] theorem addSat_dict_portDone (s : State) (w : Nat) (k : Key) (n : Nat) : (s.addSat w k n).dict.portDone = s.dict.portDone := rfl
@[simp] theorem addSat_dict_portGoLost (s : State) (w : Nat) (k : Key) (n : Nat) : (s.addSat w k n).dict.portGoLost = s.dict.portGoLost := rfl
@[simp] theorem addSat_dict_portBytes (s : State) (w : Nat) (k : Key) (n : Nat) : (s.addSat w k n).dict.portBytes = s.dict.portBytes := rfl
@[simp] theorem addSat_dict_portStatus (s : State) (w : Nat) (k : Key) (n : Nat) : (s.addSat w k n).dict.portStatus = s.dict.portStatus := rfl
@[simp] theorem addSat_dict_ops (s : State) (w : Nat) (k : Key) (n : Nat) : (s.addSat w k n).dict.ops = s.dict.ops := rfl
@[simp] theorem addSat_dict_upload (s : State) (w : Nat) (k : Key) (n : Nat) : (s.addSat w k n).dict.upload = s.dict.upload := rfl
@[simp] theorem addSat_dict_uploaded (s : State) (w : Nat) (k : Key) (n : Nat) : (s.addSat w k n).dict.uploaded = s.dict.uploaded := rfl
@[simp] theorem addSat_dict_profiles (s : State) (w : Nat) (k : Key) (n : Nat) : (s.addSat w k n).dict.profiles = s.dict.profiles := rfl
@[simp] theorem addSat_dict_imageSlots (s : State) (w : Nat) (k : Key) (n : Nat) : (s.addSat w k n).dict.imageSlots = s.dict.imageSlots := rfl

/-! ### inc -/

@[simp] theorem inc_clk (s : State) (k : Key) : (s.inc k).clk = s.clk := rfl
@[simp] theorem inc_bell (s : State) (k : Key) : (s.inc k).bell = s.bell := rfl
@[simp] theorem inc_launch (s : State) (k : Key) : (s.inc k).launch = s.launch := rfl
@[simp] theorem inc_servo (s : State) (k : Key) : (s.inc k).servo = s.servo := rfl
@[simp] theorem inc_tdc (s : State) (k : Key) : (s.inc k).tdc = s.tdc := rfl
@[simp] theorem inc_exc (s : State) (k : Key) : (s.inc k).exc = s.exc := rfl
@[simp] theorem inc_drive (s : State) (k : Key) : (s.inc k).drive = s.drive := rfl
@[simp] theorem inc_chain (s : State) (k : Key) : (s.inc k).chain = s.chain := rfl
@[simp] theorem inc_capture (s : State) (k : Key) : (s.inc k).capture = s.capture := rfl
@[simp] theorem inc_raman (s : State) (k : Key) : (s.inc k).raman = s.raman := rfl
@[simp] theorem inc_detect (s : State) (k : Key) : (s.inc k).detect = s.detect := rfl
@[simp] theorem inc_granary (s : State) (k : Key) : (s.inc k).granary = s.granary := rfl
@[simp] theorem inc_array (s : State) (k : Key) : (s.inc k).array = s.array := rfl
@[simp] theorem inc_tt (s : State) (k : Key) : (s.inc k).tt = s.tt := rfl
@[simp] theorem inc_barn (s : State) (k : Key) : (s.inc k).barn = s.barn := rfl
@[simp] theorem inc_streams (s : State) (k : Key) : (s.inc k).streams = s.streams := rfl
@[simp] theorem inc_profiler (s : State) (k : Key) : (s.inc k).profiler = s.profiler := rfl
@[simp] theorem inc_fibre (s : State) (k : Key) : (s.inc k).fibre = s.fibre := rfl
@[simp] theorem inc_ic (s : State) (k : Key) : (s.inc k).ic = s.ic := rfl
@[simp] theorem inc_timer (s : State) (k : Key) : (s.inc k).timer = s.timer := rfl
@[simp] theorem inc_cores (s : State) (k : Key) : (s.inc k).cores = s.cores := rfl
@[simp] theorem inc_bb (s : State) (k : Key) : (s.inc k).bb = s.bb := rfl
@[simp] theorem inc_hk (s : State) (k : Key) : (s.inc k).hk = s.hk := rfl
@[simp] theorem inc_node (s : State) (k : Key) : (s.inc k).node = s.node := rfl
@[simp] theorem inc_policy (s : State) (k : Key) : (s.inc k).policy = s.policy := rfl
@[simp] theorem inc_sec (s : State) (k : Key) : (s.inc k).sec = s.sec := rfl
@[simp] theorem inc_power (s : State) (k : Key) : (s.inc k).power = s.power := rfl
@[simp] theorem inc_start (s : State) (k : Key) : (s.inc k).start = s.start := rfl
@[simp] theorem inc_tap (s : State) (k : Key) : (s.inc k).tap = s.tap := rfl
@[simp] theorem inc_host (s : State) (k : Key) : (s.inc k).host = s.host := rfl
@[simp] theorem inc_port (s : State) (k : Key) : (s.inc k).port = s.port := rfl
@[simp] theorem inc_pending (s : State) (k : Key) : (s.inc k).pending = s.pending := rfl
@[simp] theorem inc_drawn (s : State) (k : Key) : (s.inc k).drawn = s.drawn := rfl
@[simp] theorem inc_dict_shadow (s : State) (k : Key) : (s.inc k).dict.shadow = s.dict.shadow := rfl
@[simp] theorem inc_dict_waiting (s : State) (k : Key) : (s.inc k).dict.waiting = s.dict.waiting := rfl
@[simp] theorem inc_dict_lastExpedited (s : State) (k : Key) : (s.inc k).dict.lastExpedited = s.dict.lastExpedited := rfl
@[simp] theorem inc_dict_lastDeferred (s : State) (k : Key) : (s.inc k).dict.lastDeferred = s.dict.lastDeferred := rfl
@[simp] theorem inc_dict_answers (s : State) (k : Key) : (s.inc k).dict.answers = s.dict.answers := rfl
@[simp] theorem inc_dict_latch (s : State) (k : Key) : (s.inc k).dict.latch = s.dict.latch := rfl
@[simp] theorem inc_dict_portRequest (s : State) (k : Key) : (s.inc k).dict.portRequest = s.dict.portRequest := rfl
@[simp] theorem inc_dict_portAnswer (s : State) (k : Key) : (s.inc k).dict.portAnswer = s.dict.portAnswer := rfl
@[simp] theorem inc_dict_portBusy (s : State) (k : Key) : (s.inc k).dict.portBusy = s.dict.portBusy := rfl
@[simp] theorem inc_dict_portDone (s : State) (k : Key) : (s.inc k).dict.portDone = s.dict.portDone := rfl
@[simp] theorem inc_dict_portGoLost (s : State) (k : Key) : (s.inc k).dict.portGoLost = s.dict.portGoLost := rfl
@[simp] theorem inc_dict_portBytes (s : State) (k : Key) : (s.inc k).dict.portBytes = s.dict.portBytes := rfl
@[simp] theorem inc_dict_portStatus (s : State) (k : Key) : (s.inc k).dict.portStatus = s.dict.portStatus := rfl
@[simp] theorem inc_dict_ops (s : State) (k : Key) : (s.inc k).dict.ops = s.dict.ops := rfl
@[simp] theorem inc_dict_upload (s : State) (k : Key) : (s.inc k).dict.upload = s.dict.upload := rfl
@[simp] theorem inc_dict_uploaded (s : State) (k : Key) : (s.inc k).dict.uploaded = s.dict.uploaded := rfl
@[simp] theorem inc_dict_profiles (s : State) (k : Key) : (s.inc k).dict.profiles = s.dict.profiles := rfl
@[simp] theorem inc_dict_imageSlots (s : State) (k : Key) : (s.inc k).dict.imageSlots = s.dict.imageSlots := rfl

/-! ### incWrap -/

@[simp] theorem incWrap_clk (s : State) (w : Nat) (k : Key) : (s.incWrap w k).clk = s.clk := rfl
@[simp] theorem incWrap_bell (s : State) (w : Nat) (k : Key) : (s.incWrap w k).bell = s.bell := rfl
@[simp] theorem incWrap_launch (s : State) (w : Nat) (k : Key) : (s.incWrap w k).launch = s.launch := rfl
@[simp] theorem incWrap_servo (s : State) (w : Nat) (k : Key) : (s.incWrap w k).servo = s.servo := rfl
@[simp] theorem incWrap_tdc (s : State) (w : Nat) (k : Key) : (s.incWrap w k).tdc = s.tdc := rfl
@[simp] theorem incWrap_exc (s : State) (w : Nat) (k : Key) : (s.incWrap w k).exc = s.exc := rfl
@[simp] theorem incWrap_drive (s : State) (w : Nat) (k : Key) : (s.incWrap w k).drive = s.drive := rfl
@[simp] theorem incWrap_chain (s : State) (w : Nat) (k : Key) : (s.incWrap w k).chain = s.chain := rfl
@[simp] theorem incWrap_capture (s : State) (w : Nat) (k : Key) : (s.incWrap w k).capture = s.capture := rfl
@[simp] theorem incWrap_raman (s : State) (w : Nat) (k : Key) : (s.incWrap w k).raman = s.raman := rfl
@[simp] theorem incWrap_detect (s : State) (w : Nat) (k : Key) : (s.incWrap w k).detect = s.detect := rfl
@[simp] theorem incWrap_granary (s : State) (w : Nat) (k : Key) : (s.incWrap w k).granary = s.granary := rfl
@[simp] theorem incWrap_array (s : State) (w : Nat) (k : Key) : (s.incWrap w k).array = s.array := rfl
@[simp] theorem incWrap_tt (s : State) (w : Nat) (k : Key) : (s.incWrap w k).tt = s.tt := rfl
@[simp] theorem incWrap_barn (s : State) (w : Nat) (k : Key) : (s.incWrap w k).barn = s.barn := rfl
@[simp] theorem incWrap_streams (s : State) (w : Nat) (k : Key) : (s.incWrap w k).streams = s.streams := rfl
@[simp] theorem incWrap_profiler (s : State) (w : Nat) (k : Key) : (s.incWrap w k).profiler = s.profiler := rfl
@[simp] theorem incWrap_fibre (s : State) (w : Nat) (k : Key) : (s.incWrap w k).fibre = s.fibre := rfl
@[simp] theorem incWrap_ic (s : State) (w : Nat) (k : Key) : (s.incWrap w k).ic = s.ic := rfl
@[simp] theorem incWrap_timer (s : State) (w : Nat) (k : Key) : (s.incWrap w k).timer = s.timer := rfl
@[simp] theorem incWrap_cores (s : State) (w : Nat) (k : Key) : (s.incWrap w k).cores = s.cores := rfl
@[simp] theorem incWrap_bb (s : State) (w : Nat) (k : Key) : (s.incWrap w k).bb = s.bb := rfl
@[simp] theorem incWrap_hk (s : State) (w : Nat) (k : Key) : (s.incWrap w k).hk = s.hk := rfl
@[simp] theorem incWrap_node (s : State) (w : Nat) (k : Key) : (s.incWrap w k).node = s.node := rfl
@[simp] theorem incWrap_policy (s : State) (w : Nat) (k : Key) : (s.incWrap w k).policy = s.policy := rfl
@[simp] theorem incWrap_sec (s : State) (w : Nat) (k : Key) : (s.incWrap w k).sec = s.sec := rfl
@[simp] theorem incWrap_power (s : State) (w : Nat) (k : Key) : (s.incWrap w k).power = s.power := rfl
@[simp] theorem incWrap_start (s : State) (w : Nat) (k : Key) : (s.incWrap w k).start = s.start := rfl
@[simp] theorem incWrap_tap (s : State) (w : Nat) (k : Key) : (s.incWrap w k).tap = s.tap := rfl
@[simp] theorem incWrap_host (s : State) (w : Nat) (k : Key) : (s.incWrap w k).host = s.host := rfl
@[simp] theorem incWrap_port (s : State) (w : Nat) (k : Key) : (s.incWrap w k).port = s.port := rfl
@[simp] theorem incWrap_pending (s : State) (w : Nat) (k : Key) : (s.incWrap w k).pending = s.pending := rfl
@[simp] theorem incWrap_drawn (s : State) (w : Nat) (k : Key) : (s.incWrap w k).drawn = s.drawn := rfl
@[simp] theorem incWrap_dict_shadow (s : State) (w : Nat) (k : Key) : (s.incWrap w k).dict.shadow = s.dict.shadow := rfl
@[simp] theorem incWrap_dict_waiting (s : State) (w : Nat) (k : Key) : (s.incWrap w k).dict.waiting = s.dict.waiting := rfl
@[simp] theorem incWrap_dict_lastExpedited (s : State) (w : Nat) (k : Key) : (s.incWrap w k).dict.lastExpedited = s.dict.lastExpedited := rfl
@[simp] theorem incWrap_dict_lastDeferred (s : State) (w : Nat) (k : Key) : (s.incWrap w k).dict.lastDeferred = s.dict.lastDeferred := rfl
@[simp] theorem incWrap_dict_answers (s : State) (w : Nat) (k : Key) : (s.incWrap w k).dict.answers = s.dict.answers := rfl
@[simp] theorem incWrap_dict_latch (s : State) (w : Nat) (k : Key) : (s.incWrap w k).dict.latch = s.dict.latch := rfl
@[simp] theorem incWrap_dict_portRequest (s : State) (w : Nat) (k : Key) : (s.incWrap w k).dict.portRequest = s.dict.portRequest := rfl
@[simp] theorem incWrap_dict_portAnswer (s : State) (w : Nat) (k : Key) : (s.incWrap w k).dict.portAnswer = s.dict.portAnswer := rfl
@[simp] theorem incWrap_dict_portBusy (s : State) (w : Nat) (k : Key) : (s.incWrap w k).dict.portBusy = s.dict.portBusy := rfl
@[simp] theorem incWrap_dict_portDone (s : State) (w : Nat) (k : Key) : (s.incWrap w k).dict.portDone = s.dict.portDone := rfl
@[simp] theorem incWrap_dict_portGoLost (s : State) (w : Nat) (k : Key) : (s.incWrap w k).dict.portGoLost = s.dict.portGoLost := rfl
@[simp] theorem incWrap_dict_portBytes (s : State) (w : Nat) (k : Key) : (s.incWrap w k).dict.portBytes = s.dict.portBytes := rfl
@[simp] theorem incWrap_dict_portStatus (s : State) (w : Nat) (k : Key) : (s.incWrap w k).dict.portStatus = s.dict.portStatus := rfl
@[simp] theorem incWrap_dict_ops (s : State) (w : Nat) (k : Key) : (s.incWrap w k).dict.ops = s.dict.ops := rfl
@[simp] theorem incWrap_dict_upload (s : State) (w : Nat) (k : Key) : (s.incWrap w k).dict.upload = s.dict.upload := rfl
@[simp] theorem incWrap_dict_uploaded (s : State) (w : Nat) (k : Key) : (s.incWrap w k).dict.uploaded = s.dict.uploaded := rfl
@[simp] theorem incWrap_dict_profiles (s : State) (w : Nat) (k : Key) : (s.incWrap w k).dict.profiles = s.dict.profiles := rfl
@[simp] theorem incWrap_dict_imageSlots (s : State) (w : Nat) (k : Key) : (s.incWrap w k).dict.imageSlots = s.dict.imageSlots := rfl

/-! ### bumpGeneration -/

@[simp] theorem bumpGeneration_clk (s : State) (k : Key) : (s.bumpGeneration k).clk = s.clk := rfl
@[simp] theorem bumpGeneration_bell (s : State) (k : Key) : (s.bumpGeneration k).bell = s.bell := rfl
@[simp] theorem bumpGeneration_launch (s : State) (k : Key) : (s.bumpGeneration k).launch = s.launch := rfl
@[simp] theorem bumpGeneration_servo (s : State) (k : Key) : (s.bumpGeneration k).servo = s.servo := rfl
@[simp] theorem bumpGeneration_tdc (s : State) (k : Key) : (s.bumpGeneration k).tdc = s.tdc := rfl
@[simp] theorem bumpGeneration_exc (s : State) (k : Key) : (s.bumpGeneration k).exc = s.exc := rfl
@[simp] theorem bumpGeneration_drive (s : State) (k : Key) : (s.bumpGeneration k).drive = s.drive := rfl
@[simp] theorem bumpGeneration_chain (s : State) (k : Key) : (s.bumpGeneration k).chain = s.chain := rfl
@[simp] theorem bumpGeneration_capture (s : State) (k : Key) : (s.bumpGeneration k).capture = s.capture := rfl
@[simp] theorem bumpGeneration_raman (s : State) (k : Key) : (s.bumpGeneration k).raman = s.raman := rfl
@[simp] theorem bumpGeneration_detect (s : State) (k : Key) : (s.bumpGeneration k).detect = s.detect := rfl
@[simp] theorem bumpGeneration_granary (s : State) (k : Key) : (s.bumpGeneration k).granary = s.granary := rfl
@[simp] theorem bumpGeneration_array (s : State) (k : Key) : (s.bumpGeneration k).array = s.array := rfl
@[simp] theorem bumpGeneration_tt (s : State) (k : Key) : (s.bumpGeneration k).tt = s.tt := rfl
@[simp] theorem bumpGeneration_barn (s : State) (k : Key) : (s.bumpGeneration k).barn = s.barn := rfl
@[simp] theorem bumpGeneration_streams (s : State) (k : Key) : (s.bumpGeneration k).streams = s.streams := rfl
@[simp] theorem bumpGeneration_profiler (s : State) (k : Key) : (s.bumpGeneration k).profiler = s.profiler := rfl
@[simp] theorem bumpGeneration_fibre (s : State) (k : Key) : (s.bumpGeneration k).fibre = s.fibre := rfl
@[simp] theorem bumpGeneration_ic (s : State) (k : Key) : (s.bumpGeneration k).ic = s.ic := rfl
@[simp] theorem bumpGeneration_timer (s : State) (k : Key) : (s.bumpGeneration k).timer = s.timer := rfl
@[simp] theorem bumpGeneration_cores (s : State) (k : Key) : (s.bumpGeneration k).cores = s.cores := rfl
@[simp] theorem bumpGeneration_bb (s : State) (k : Key) : (s.bumpGeneration k).bb = s.bb := rfl
@[simp] theorem bumpGeneration_hk (s : State) (k : Key) : (s.bumpGeneration k).hk = s.hk := rfl
@[simp] theorem bumpGeneration_node (s : State) (k : Key) : (s.bumpGeneration k).node = s.node := rfl
@[simp] theorem bumpGeneration_policy (s : State) (k : Key) : (s.bumpGeneration k).policy = s.policy := rfl
@[simp] theorem bumpGeneration_sec (s : State) (k : Key) : (s.bumpGeneration k).sec = s.sec := rfl
@[simp] theorem bumpGeneration_power (s : State) (k : Key) : (s.bumpGeneration k).power = s.power := rfl
@[simp] theorem bumpGeneration_start (s : State) (k : Key) : (s.bumpGeneration k).start = s.start := rfl
@[simp] theorem bumpGeneration_tap (s : State) (k : Key) : (s.bumpGeneration k).tap = s.tap := rfl
@[simp] theorem bumpGeneration_host (s : State) (k : Key) : (s.bumpGeneration k).host = s.host := rfl
@[simp] theorem bumpGeneration_port (s : State) (k : Key) : (s.bumpGeneration k).port = s.port := rfl
@[simp] theorem bumpGeneration_pending (s : State) (k : Key) : (s.bumpGeneration k).pending = s.pending := rfl
@[simp] theorem bumpGeneration_drawn (s : State) (k : Key) : (s.bumpGeneration k).drawn = s.drawn := rfl
@[simp] theorem bumpGeneration_dict_store (s : State) (k : Key) : (s.bumpGeneration k).dict.store = s.dict.store := rfl
@[simp] theorem bumpGeneration_dict_shadow (s : State) (k : Key) : (s.bumpGeneration k).dict.shadow = s.dict.shadow := rfl
@[simp] theorem bumpGeneration_dict_waiting (s : State) (k : Key) : (s.bumpGeneration k).dict.waiting = s.dict.waiting := rfl
@[simp] theorem bumpGeneration_dict_lastExpedited (s : State) (k : Key) : (s.bumpGeneration k).dict.lastExpedited = s.dict.lastExpedited := rfl
@[simp] theorem bumpGeneration_dict_lastDeferred (s : State) (k : Key) : (s.bumpGeneration k).dict.lastDeferred = s.dict.lastDeferred := rfl
@[simp] theorem bumpGeneration_dict_answers (s : State) (k : Key) : (s.bumpGeneration k).dict.answers = s.dict.answers := rfl
@[simp] theorem bumpGeneration_dict_latch (s : State) (k : Key) : (s.bumpGeneration k).dict.latch = s.dict.latch := rfl
@[simp] theorem bumpGeneration_dict_portRequest (s : State) (k : Key) : (s.bumpGeneration k).dict.portRequest = s.dict.portRequest := rfl
@[simp] theorem bumpGeneration_dict_portAnswer (s : State) (k : Key) : (s.bumpGeneration k).dict.portAnswer = s.dict.portAnswer := rfl
@[simp] theorem bumpGeneration_dict_portBusy (s : State) (k : Key) : (s.bumpGeneration k).dict.portBusy = s.dict.portBusy := rfl
@[simp] theorem bumpGeneration_dict_portDone (s : State) (k : Key) : (s.bumpGeneration k).dict.portDone = s.dict.portDone := rfl
@[simp] theorem bumpGeneration_dict_portGoLost (s : State) (k : Key) : (s.bumpGeneration k).dict.portGoLost = s.dict.portGoLost := rfl
@[simp] theorem bumpGeneration_dict_portBytes (s : State) (k : Key) : (s.bumpGeneration k).dict.portBytes = s.dict.portBytes := rfl
@[simp] theorem bumpGeneration_dict_portStatus (s : State) (k : Key) : (s.bumpGeneration k).dict.portStatus = s.dict.portStatus := rfl
@[simp] theorem bumpGeneration_dict_ops (s : State) (k : Key) : (s.bumpGeneration k).dict.ops = s.dict.ops := rfl
@[simp] theorem bumpGeneration_dict_upload (s : State) (k : Key) : (s.bumpGeneration k).dict.upload = s.dict.upload := rfl
@[simp] theorem bumpGeneration_dict_uploaded (s : State) (k : Key) : (s.bumpGeneration k).dict.uploaded = s.dict.uploaded := rfl
@[simp] theorem bumpGeneration_dict_profiles (s : State) (k : Key) : (s.bumpGeneration k).dict.profiles = s.dict.profiles := rfl
@[simp] theorem bumpGeneration_dict_imageSlots (s : State) (k : Key) : (s.bumpGeneration k).dict.imageSlots = s.dict.imageSlots := rfl

/-! ### draw -/

@[simp] theorem draw_clk (s : State) : (s.draw).clk = s.clk := rfl
@[simp] theorem draw_bell (s : State) : (s.draw).bell = s.bell := rfl
@[simp] theorem draw_launch (s : State) : (s.draw).launch = s.launch := rfl
@[simp] theorem draw_servo (s : State) : (s.draw).servo = s.servo := rfl
@[simp] theorem draw_tdc (s : State) : (s.draw).tdc = s.tdc := rfl
@[simp] theorem draw_exc (s : State) : (s.draw).exc = s.exc := rfl
@[simp] theorem draw_drive (s : State) : (s.draw).drive = s.drive := rfl
@[simp] theorem draw_chain (s : State) : (s.draw).chain = s.chain := rfl
@[simp] theorem draw_capture (s : State) : (s.draw).capture = s.capture := rfl
@[simp] theorem draw_raman (s : State) : (s.draw).raman = s.raman := rfl
@[simp] theorem draw_detect (s : State) : (s.draw).detect = s.detect := rfl
@[simp] theorem draw_granary (s : State) : (s.draw).granary = s.granary := rfl
@[simp] theorem draw_array (s : State) : (s.draw).array = s.array := rfl
@[simp] theorem draw_tt (s : State) : (s.draw).tt = s.tt := rfl
@[simp] theorem draw_barn (s : State) : (s.draw).barn = s.barn := rfl
@[simp] theorem draw_streams (s : State) : (s.draw).streams = s.streams := rfl
@[simp] theorem draw_profiler (s : State) : (s.draw).profiler = s.profiler := rfl
@[simp] theorem draw_fibre (s : State) : (s.draw).fibre = s.fibre := rfl
@[simp] theorem draw_ic (s : State) : (s.draw).ic = s.ic := rfl
@[simp] theorem draw_timer (s : State) : (s.draw).timer = s.timer := rfl
@[simp] theorem draw_cores (s : State) : (s.draw).cores = s.cores := rfl
@[simp] theorem draw_bb (s : State) : (s.draw).bb = s.bb := rfl
@[simp] theorem draw_hk (s : State) : (s.draw).hk = s.hk := rfl
@[simp] theorem draw_node (s : State) : (s.draw).node = s.node := rfl
@[simp] theorem draw_policy (s : State) : (s.draw).policy = s.policy := rfl
@[simp] theorem draw_sec (s : State) : (s.draw).sec = s.sec := rfl
@[simp] theorem draw_power (s : State) : (s.draw).power = s.power := rfl
@[simp] theorem draw_start (s : State) : (s.draw).start = s.start := rfl
@[simp] theorem draw_tap (s : State) : (s.draw).tap = s.tap := rfl
@[simp] theorem draw_dict (s : State) : (s.draw).dict = s.dict := rfl
@[simp] theorem draw_host (s : State) : (s.draw).host = s.host := rfl
@[simp] theorem draw_port (s : State) : (s.draw).port = s.port := rfl
@[simp] theorem draw_pending (s : State) : (s.draw).pending = s.pending := rfl

/-! ### passTo -/

@[simp] theorem passTo_bell (s : State) (t : Nat) : (s.passTo t).bell = s.bell := rfl
@[simp] theorem passTo_launch (s : State) (t : Nat) : (s.passTo t).launch = s.launch := rfl
@[simp] theorem passTo_servo (s : State) (t : Nat) : (s.passTo t).servo = s.servo := rfl
@[simp] theorem passTo_tdc (s : State) (t : Nat) : (s.passTo t).tdc = s.tdc := rfl
@[simp] theorem passTo_exc (s : State) (t : Nat) : (s.passTo t).exc = s.exc := rfl
@[simp] theorem passTo_drive (s : State) (t : Nat) : (s.passTo t).drive = s.drive := rfl
@[simp] theorem passTo_chain (s : State) (t : Nat) : (s.passTo t).chain = s.chain := rfl
@[simp] theorem passTo_capture (s : State) (t : Nat) : (s.passTo t).capture = s.capture := rfl
@[simp] theorem passTo_raman (s : State) (t : Nat) : (s.passTo t).raman = s.raman := rfl
@[simp] theorem passTo_detect (s : State) (t : Nat) : (s.passTo t).detect = s.detect := rfl
@[simp] theorem passTo_granary (s : State) (t : Nat) : (s.passTo t).granary = s.granary := rfl
@[simp] theorem passTo_array (s : State) (t : Nat) : (s.passTo t).array = s.array := rfl
@[simp] theorem passTo_tt (s : State) (t : Nat) : (s.passTo t).tt = s.tt := rfl
@[simp] theorem passTo_barn (s : State) (t : Nat) : (s.passTo t).barn = s.barn := rfl
@[simp] theorem passTo_streams (s : State) (t : Nat) : (s.passTo t).streams = s.streams := rfl
@[simp] theorem passTo_profiler (s : State) (t : Nat) : (s.passTo t).profiler = s.profiler := rfl
@[simp] theorem passTo_fibre (s : State) (t : Nat) : (s.passTo t).fibre = s.fibre := rfl
@[simp] theorem passTo_ic (s : State) (t : Nat) : (s.passTo t).ic = s.ic := rfl
@[simp] theorem passTo_timer (s : State) (t : Nat) : (s.passTo t).timer = s.timer := rfl
@[simp] theorem passTo_cores (s : State) (t : Nat) : (s.passTo t).cores = s.cores := rfl
@[simp] theorem passTo_bb (s : State) (t : Nat) : (s.passTo t).bb = s.bb := rfl
@[simp] theorem passTo_hk (s : State) (t : Nat) : (s.passTo t).hk = s.hk := rfl
@[simp] theorem passTo_node (s : State) (t : Nat) : (s.passTo t).node = s.node := rfl
@[simp] theorem passTo_policy (s : State) (t : Nat) : (s.passTo t).policy = s.policy := rfl
@[simp] theorem passTo_sec (s : State) (t : Nat) : (s.passTo t).sec = s.sec := rfl
@[simp] theorem passTo_power (s : State) (t : Nat) : (s.passTo t).power = s.power := rfl
@[simp] theorem passTo_start (s : State) (t : Nat) : (s.passTo t).start = s.start := rfl
@[simp] theorem passTo_tap (s : State) (t : Nat) : (s.passTo t).tap = s.tap := rfl
@[simp] theorem passTo_dict (s : State) (t : Nat) : (s.passTo t).dict = s.dict := rfl
@[simp] theorem passTo_host (s : State) (t : Nat) : (s.passTo t).host = s.host := rfl
@[simp] theorem passTo_port (s : State) (t : Nat) : (s.passTo t).port = s.port := rfl
@[simp] theorem passTo_pending (s : State) (t : Nat) : (s.passTo t).pending = s.pending := rfl
@[simp] theorem passTo_drawn (s : State) (t : Nat) : (s.passTo t).drawn = s.drawn := rfl

/-! ### latchStatus -/

@[simp] theorem latchStatus_clk (s : State) : (latchStatus s).clk = s.clk := rfl
@[simp] theorem latchStatus_bell (s : State) : (latchStatus s).bell = s.bell := rfl
@[simp] theorem latchStatus_launch (s : State) : (latchStatus s).launch = s.launch := rfl
@[simp] theorem latchStatus_servo (s : State) : (latchStatus s).servo = s.servo := rfl
@[simp] theorem latchStatus_tdc (s : State) : (latchStatus s).tdc = s.tdc := rfl
@[simp] theorem latchStatus_exc (s : State) : (latchStatus s).exc = s.exc := rfl
@[simp] theorem latchStatus_drive (s : State) : (latchStatus s).drive = s.drive := rfl
@[simp] theorem latchStatus_chain (s : State) : (latchStatus s).chain = s.chain := rfl
@[simp] theorem latchStatus_capture (s : State) : (latchStatus s).capture = s.capture := rfl
@[simp] theorem latchStatus_raman (s : State) : (latchStatus s).raman = s.raman := rfl
@[simp] theorem latchStatus_detect (s : State) : (latchStatus s).detect = s.detect := rfl
@[simp] theorem latchStatus_granary (s : State) : (latchStatus s).granary = s.granary := rfl
@[simp] theorem latchStatus_array (s : State) : (latchStatus s).array = s.array := rfl
@[simp] theorem latchStatus_tt (s : State) : (latchStatus s).tt = s.tt := rfl
@[simp] theorem latchStatus_barn (s : State) : (latchStatus s).barn = s.barn := rfl
@[simp] theorem latchStatus_streams (s : State) : (latchStatus s).streams = s.streams := rfl
@[simp] theorem latchStatus_profiler (s : State) : (latchStatus s).profiler = s.profiler := rfl
@[simp] theorem latchStatus_fibre (s : State) : (latchStatus s).fibre = s.fibre := rfl
@[simp] theorem latchStatus_ic (s : State) : (latchStatus s).ic = s.ic := rfl
@[simp] theorem latchStatus_timer (s : State) : (latchStatus s).timer = s.timer := rfl
@[simp] theorem latchStatus_cores (s : State) : (latchStatus s).cores = s.cores := rfl
@[simp] theorem latchStatus_bb (s : State) : (latchStatus s).bb = s.bb := rfl
@[simp] theorem latchStatus_hk (s : State) : (latchStatus s).hk = s.hk := rfl
@[simp] theorem latchStatus_node (s : State) : (latchStatus s).node = s.node := rfl
@[simp] theorem latchStatus_policy (s : State) : (latchStatus s).policy = s.policy := rfl
@[simp] theorem latchStatus_sec (s : State) : (latchStatus s).sec = s.sec := rfl
@[simp] theorem latchStatus_power (s : State) : (latchStatus s).power = s.power := rfl
@[simp] theorem latchStatus_start (s : State) : (latchStatus s).start = s.start := rfl
@[simp] theorem latchStatus_tap (s : State) : (latchStatus s).tap = s.tap := rfl
@[simp] theorem latchStatus_host (s : State) : (latchStatus s).host = s.host := rfl
@[simp] theorem latchStatus_port (s : State) : (latchStatus s).port = s.port := rfl
@[simp] theorem latchStatus_pending (s : State) : (latchStatus s).pending = s.pending := rfl
@[simp] theorem latchStatus_drawn (s : State) : (latchStatus s).drawn = s.drawn := rfl
@[simp] theorem latchStatus_dict_store (s : State) : (latchStatus s).dict.store = s.dict.store := rfl
@[simp] theorem latchStatus_dict_shadow (s : State) : (latchStatus s).dict.shadow = s.dict.shadow := rfl
@[simp] theorem latchStatus_dict_waiting (s : State) : (latchStatus s).dict.waiting = s.dict.waiting := rfl
@[simp] theorem latchStatus_dict_lastExpedited (s : State) : (latchStatus s).dict.lastExpedited = s.dict.lastExpedited := rfl
@[simp] theorem latchStatus_dict_lastDeferred (s : State) : (latchStatus s).dict.lastDeferred = s.dict.lastDeferred := rfl
@[simp] theorem latchStatus_dict_answers (s : State) : (latchStatus s).dict.answers = s.dict.answers := rfl
@[simp] theorem latchStatus_dict_generations (s : State) : (latchStatus s).dict.generations = s.dict.generations := rfl
@[simp] theorem latchStatus_dict_portRequest (s : State) : (latchStatus s).dict.portRequest = s.dict.portRequest := rfl
@[simp] theorem latchStatus_dict_portAnswer (s : State) : (latchStatus s).dict.portAnswer = s.dict.portAnswer := rfl
@[simp] theorem latchStatus_dict_portBusy (s : State) : (latchStatus s).dict.portBusy = s.dict.portBusy := rfl
@[simp] theorem latchStatus_dict_portDone (s : State) : (latchStatus s).dict.portDone = s.dict.portDone := rfl
@[simp] theorem latchStatus_dict_portGoLost (s : State) : (latchStatus s).dict.portGoLost = s.dict.portGoLost := rfl
@[simp] theorem latchStatus_dict_portBytes (s : State) : (latchStatus s).dict.portBytes = s.dict.portBytes := rfl
@[simp] theorem latchStatus_dict_portStatus (s : State) : (latchStatus s).dict.portStatus = s.dict.portStatus := rfl
@[simp] theorem latchStatus_dict_ops (s : State) : (latchStatus s).dict.ops = s.dict.ops := rfl
@[simp] theorem latchStatus_dict_upload (s : State) : (latchStatus s).dict.upload = s.dict.upload := rfl
@[simp] theorem latchStatus_dict_uploaded (s : State) : (latchStatus s).dict.uploaded = s.dict.uploaded := rfl
@[simp] theorem latchStatus_dict_profiles (s : State) : (latchStatus s).dict.profiles = s.dict.profiles := rfl
@[simp] theorem latchStatus_dict_imageSlots (s : State) : (latchStatus s).dict.imageSlots = s.dict.imageSlots := rfl

/-! ### latchBit -/

@[simp] theorem latchBit_clk (s : State) (i : Nat) : (latchBit i s).clk = s.clk := rfl
@[simp] theorem latchBit_bell (s : State) (i : Nat) : (latchBit i s).bell = s.bell := rfl
@[simp] theorem latchBit_launch (s : State) (i : Nat) : (latchBit i s).launch = s.launch := rfl
@[simp] theorem latchBit_servo (s : State) (i : Nat) : (latchBit i s).servo = s.servo := rfl
@[simp] theorem latchBit_tdc (s : State) (i : Nat) : (latchBit i s).tdc = s.tdc := rfl
@[simp] theorem latchBit_exc (s : State) (i : Nat) : (latchBit i s).exc = s.exc := rfl
@[simp] theorem latchBit_drive (s : State) (i : Nat) : (latchBit i s).drive = s.drive := rfl
@[simp] theorem latchBit_chain (s : State) (i : Nat) : (latchBit i s).chain = s.chain := rfl
@[simp] theorem latchBit_capture (s : State) (i : Nat) : (latchBit i s).capture = s.capture := rfl
@[simp] theorem latchBit_raman (s : State) (i : Nat) : (latchBit i s).raman = s.raman := rfl
@[simp] theorem latchBit_detect (s : State) (i : Nat) : (latchBit i s).detect = s.detect := rfl
@[simp] theorem latchBit_granary (s : State) (i : Nat) : (latchBit i s).granary = s.granary := rfl
@[simp] theorem latchBit_array (s : State) (i : Nat) : (latchBit i s).array = s.array := rfl
@[simp] theorem latchBit_tt (s : State) (i : Nat) : (latchBit i s).tt = s.tt := rfl
@[simp] theorem latchBit_barn (s : State) (i : Nat) : (latchBit i s).barn = s.barn := rfl
@[simp] theorem latchBit_streams (s : State) (i : Nat) : (latchBit i s).streams = s.streams := rfl
@[simp] theorem latchBit_profiler (s : State) (i : Nat) : (latchBit i s).profiler = s.profiler := rfl
@[simp] theorem latchBit_fibre (s : State) (i : Nat) : (latchBit i s).fibre = s.fibre := rfl
@[simp] theorem latchBit_ic (s : State) (i : Nat) : (latchBit i s).ic = s.ic := rfl
@[simp] theorem latchBit_timer (s : State) (i : Nat) : (latchBit i s).timer = s.timer := rfl
@[simp] theorem latchBit_cores (s : State) (i : Nat) : (latchBit i s).cores = s.cores := rfl
@[simp] theorem latchBit_bb (s : State) (i : Nat) : (latchBit i s).bb = s.bb := rfl
@[simp] theorem latchBit_hk (s : State) (i : Nat) : (latchBit i s).hk = s.hk := rfl
@[simp] theorem latchBit_node (s : State) (i : Nat) : (latchBit i s).node = s.node := rfl
@[simp] theorem latchBit_policy (s : State) (i : Nat) : (latchBit i s).policy = s.policy := rfl
@[simp] theorem latchBit_sec (s : State) (i : Nat) : (latchBit i s).sec = s.sec := rfl
@[simp] theorem latchBit_power (s : State) (i : Nat) : (latchBit i s).power = s.power := rfl
@[simp] theorem latchBit_start (s : State) (i : Nat) : (latchBit i s).start = s.start := rfl
@[simp] theorem latchBit_tap (s : State) (i : Nat) : (latchBit i s).tap = s.tap := rfl
@[simp] theorem latchBit_host (s : State) (i : Nat) : (latchBit i s).host = s.host := rfl
@[simp] theorem latchBit_port (s : State) (i : Nat) : (latchBit i s).port = s.port := rfl
@[simp] theorem latchBit_pending (s : State) (i : Nat) : (latchBit i s).pending = s.pending := rfl
@[simp] theorem latchBit_drawn (s : State) (i : Nat) : (latchBit i s).drawn = s.drawn := rfl
@[simp] theorem latchBit_dict_store (s : State) (i : Nat) : (latchBit i s).dict.store = s.dict.store := rfl
@[simp] theorem latchBit_dict_shadow (s : State) (i : Nat) : (latchBit i s).dict.shadow = s.dict.shadow := rfl
@[simp] theorem latchBit_dict_waiting (s : State) (i : Nat) : (latchBit i s).dict.waiting = s.dict.waiting := rfl
@[simp] theorem latchBit_dict_lastExpedited (s : State) (i : Nat) : (latchBit i s).dict.lastExpedited = s.dict.lastExpedited := rfl
@[simp] theorem latchBit_dict_lastDeferred (s : State) (i : Nat) : (latchBit i s).dict.lastDeferred = s.dict.lastDeferred := rfl
@[simp] theorem latchBit_dict_answers (s : State) (i : Nat) : (latchBit i s).dict.answers = s.dict.answers := rfl
@[simp] theorem latchBit_dict_generations (s : State) (i : Nat) : (latchBit i s).dict.generations = s.dict.generations := rfl
@[simp] theorem latchBit_dict_portRequest (s : State) (i : Nat) : (latchBit i s).dict.portRequest = s.dict.portRequest := rfl
@[simp] theorem latchBit_dict_portAnswer (s : State) (i : Nat) : (latchBit i s).dict.portAnswer = s.dict.portAnswer := rfl
@[simp] theorem latchBit_dict_portBusy (s : State) (i : Nat) : (latchBit i s).dict.portBusy = s.dict.portBusy := rfl
@[simp] theorem latchBit_dict_portDone (s : State) (i : Nat) : (latchBit i s).dict.portDone = s.dict.portDone := rfl
@[simp] theorem latchBit_dict_portGoLost (s : State) (i : Nat) : (latchBit i s).dict.portGoLost = s.dict.portGoLost := rfl
@[simp] theorem latchBit_dict_portBytes (s : State) (i : Nat) : (latchBit i s).dict.portBytes = s.dict.portBytes := rfl
@[simp] theorem latchBit_dict_portStatus (s : State) (i : Nat) : (latchBit i s).dict.portStatus = s.dict.portStatus := rfl
@[simp] theorem latchBit_dict_ops (s : State) (i : Nat) : (latchBit i s).dict.ops = s.dict.ops := rfl
@[simp] theorem latchBit_dict_upload (s : State) (i : Nat) : (latchBit i s).dict.upload = s.dict.upload := rfl
@[simp] theorem latchBit_dict_uploaded (s : State) (i : Nat) : (latchBit i s).dict.uploaded = s.dict.uploaded := rfl
@[simp] theorem latchBit_dict_profiles (s : State) (i : Nat) : (latchBit i s).dict.profiles = s.dict.profiles := rfl
@[simp] theorem latchBit_dict_imageSlots (s : State) (i : Nat) : (latchBit i s).dict.imageSlots = s.dict.imageSlots := rfl

/-! ### onEng -/

@[simp] theorem onEng_clk (s : State) (e : Fin 32) (f : Engine → Engine) : (s.onEng e f).clk = s.clk := rfl
@[simp] theorem onEng_bell (s : State) (e : Fin 32) (f : Engine → Engine) : (s.onEng e f).bell = s.bell := rfl
@[simp] theorem onEng_launch (s : State) (e : Fin 32) (f : Engine → Engine) : (s.onEng e f).launch = s.launch := rfl
@[simp] theorem onEng_servo (s : State) (e : Fin 32) (f : Engine → Engine) : (s.onEng e f).servo = s.servo := rfl
@[simp] theorem onEng_tdc (s : State) (e : Fin 32) (f : Engine → Engine) : (s.onEng e f).tdc = s.tdc := rfl
@[simp] theorem onEng_exc (s : State) (e : Fin 32) (f : Engine → Engine) : (s.onEng e f).exc = s.exc := rfl
@[simp] theorem onEng_drive (s : State) (e : Fin 32) (f : Engine → Engine) : (s.onEng e f).drive = s.drive := rfl
@[simp] theorem onEng_chain (s : State) (e : Fin 32) (f : Engine → Engine) : (s.onEng e f).chain = s.chain := rfl
@[simp] theorem onEng_capture (s : State) (e : Fin 32) (f : Engine → Engine) : (s.onEng e f).capture = s.capture := rfl
@[simp] theorem onEng_raman (s : State) (e : Fin 32) (f : Engine → Engine) : (s.onEng e f).raman = s.raman := rfl
@[simp] theorem onEng_detect (s : State) (e : Fin 32) (f : Engine → Engine) : (s.onEng e f).detect = s.detect := rfl
@[simp] theorem onEng_granary (s : State) (e : Fin 32) (f : Engine → Engine) : (s.onEng e f).granary = s.granary := rfl
@[simp] theorem onEng_tt (s : State) (e : Fin 32) (f : Engine → Engine) : (s.onEng e f).tt = s.tt := rfl
@[simp] theorem onEng_barn (s : State) (e : Fin 32) (f : Engine → Engine) : (s.onEng e f).barn = s.barn := rfl
@[simp] theorem onEng_streams (s : State) (e : Fin 32) (f : Engine → Engine) : (s.onEng e f).streams = s.streams := rfl
@[simp] theorem onEng_profiler (s : State) (e : Fin 32) (f : Engine → Engine) : (s.onEng e f).profiler = s.profiler := rfl
@[simp] theorem onEng_fibre (s : State) (e : Fin 32) (f : Engine → Engine) : (s.onEng e f).fibre = s.fibre := rfl
@[simp] theorem onEng_ic (s : State) (e : Fin 32) (f : Engine → Engine) : (s.onEng e f).ic = s.ic := rfl
@[simp] theorem onEng_timer (s : State) (e : Fin 32) (f : Engine → Engine) : (s.onEng e f).timer = s.timer := rfl
@[simp] theorem onEng_cores (s : State) (e : Fin 32) (f : Engine → Engine) : (s.onEng e f).cores = s.cores := rfl
@[simp] theorem onEng_bb (s : State) (e : Fin 32) (f : Engine → Engine) : (s.onEng e f).bb = s.bb := rfl
@[simp] theorem onEng_hk (s : State) (e : Fin 32) (f : Engine → Engine) : (s.onEng e f).hk = s.hk := rfl
@[simp] theorem onEng_node (s : State) (e : Fin 32) (f : Engine → Engine) : (s.onEng e f).node = s.node := rfl
@[simp] theorem onEng_policy (s : State) (e : Fin 32) (f : Engine → Engine) : (s.onEng e f).policy = s.policy := rfl
@[simp] theorem onEng_sec (s : State) (e : Fin 32) (f : Engine → Engine) : (s.onEng e f).sec = s.sec := rfl
@[simp] theorem onEng_power (s : State) (e : Fin 32) (f : Engine → Engine) : (s.onEng e f).power = s.power := rfl
@[simp] theorem onEng_start (s : State) (e : Fin 32) (f : Engine → Engine) : (s.onEng e f).start = s.start := rfl
@[simp] theorem onEng_tap (s : State) (e : Fin 32) (f : Engine → Engine) : (s.onEng e f).tap = s.tap := rfl
@[simp] theorem onEng_dict (s : State) (e : Fin 32) (f : Engine → Engine) : (s.onEng e f).dict = s.dict := rfl
@[simp] theorem onEng_host (s : State) (e : Fin 32) (f : Engine → Engine) : (s.onEng e f).host = s.host := rfl
@[simp] theorem onEng_port (s : State) (e : Fin 32) (f : Engine → Engine) : (s.onEng e f).port = s.port := rfl
@[simp] theorem onEng_pending (s : State) (e : Fin 32) (f : Engine → Engine) : (s.onEng e f).pending = s.pending := rfl
@[simp] theorem onEng_drawn (s : State) (e : Fin 32) (f : Engine → Engine) : (s.onEng e f).drawn = s.drawn := rfl

/-! ### onRoom -/

@[simp] theorem onRoom_clk (s : State) (r : Fin 4) (f : Classroom → Classroom) : (s.onRoom r f).clk = s.clk := rfl
@[simp] theorem onRoom_bell (s : State) (r : Fin 4) (f : Classroom → Classroom) : (s.onRoom r f).bell = s.bell := rfl
@[simp] theorem onRoom_launch (s : State) (r : Fin 4) (f : Classroom → Classroom) : (s.onRoom r f).launch = s.launch := rfl
@[simp] theorem onRoom_servo (s : State) (r : Fin 4) (f : Classroom → Classroom) : (s.onRoom r f).servo = s.servo := rfl
@[simp] theorem onRoom_tdc (s : State) (r : Fin 4) (f : Classroom → Classroom) : (s.onRoom r f).tdc = s.tdc := rfl
@[simp] theorem onRoom_exc (s : State) (r : Fin 4) (f : Classroom → Classroom) : (s.onRoom r f).exc = s.exc := rfl
@[simp] theorem onRoom_drive (s : State) (r : Fin 4) (f : Classroom → Classroom) : (s.onRoom r f).drive = s.drive := rfl
@[simp] theorem onRoom_chain (s : State) (r : Fin 4) (f : Classroom → Classroom) : (s.onRoom r f).chain = s.chain := rfl
@[simp] theorem onRoom_capture (s : State) (r : Fin 4) (f : Classroom → Classroom) : (s.onRoom r f).capture = s.capture := rfl
@[simp] theorem onRoom_raman (s : State) (r : Fin 4) (f : Classroom → Classroom) : (s.onRoom r f).raman = s.raman := rfl
@[simp] theorem onRoom_detect (s : State) (r : Fin 4) (f : Classroom → Classroom) : (s.onRoom r f).detect = s.detect := rfl
@[simp] theorem onRoom_granary (s : State) (r : Fin 4) (f : Classroom → Classroom) : (s.onRoom r f).granary = s.granary := rfl
@[simp] theorem onRoom_tt (s : State) (r : Fin 4) (f : Classroom → Classroom) : (s.onRoom r f).tt = s.tt := rfl
@[simp] theorem onRoom_barn (s : State) (r : Fin 4) (f : Classroom → Classroom) : (s.onRoom r f).barn = s.barn := rfl
@[simp] theorem onRoom_streams (s : State) (r : Fin 4) (f : Classroom → Classroom) : (s.onRoom r f).streams = s.streams := rfl
@[simp] theorem onRoom_profiler (s : State) (r : Fin 4) (f : Classroom → Classroom) : (s.onRoom r f).profiler = s.profiler := rfl
@[simp] theorem onRoom_fibre (s : State) (r : Fin 4) (f : Classroom → Classroom) : (s.onRoom r f).fibre = s.fibre := rfl
@[simp] theorem onRoom_ic (s : State) (r : Fin 4) (f : Classroom → Classroom) : (s.onRoom r f).ic = s.ic := rfl
@[simp] theorem onRoom_timer (s : State) (r : Fin 4) (f : Classroom → Classroom) : (s.onRoom r f).timer = s.timer := rfl
@[simp] theorem onRoom_cores (s : State) (r : Fin 4) (f : Classroom → Classroom) : (s.onRoom r f).cores = s.cores := rfl
@[simp] theorem onRoom_bb (s : State) (r : Fin 4) (f : Classroom → Classroom) : (s.onRoom r f).bb = s.bb := rfl
@[simp] theorem onRoom_hk (s : State) (r : Fin 4) (f : Classroom → Classroom) : (s.onRoom r f).hk = s.hk := rfl
@[simp] theorem onRoom_node (s : State) (r : Fin 4) (f : Classroom → Classroom) : (s.onRoom r f).node = s.node := rfl
@[simp] theorem onRoom_policy (s : State) (r : Fin 4) (f : Classroom → Classroom) : (s.onRoom r f).policy = s.policy := rfl
@[simp] theorem onRoom_sec (s : State) (r : Fin 4) (f : Classroom → Classroom) : (s.onRoom r f).sec = s.sec := rfl
@[simp] theorem onRoom_power (s : State) (r : Fin 4) (f : Classroom → Classroom) : (s.onRoom r f).power = s.power := rfl
@[simp] theorem onRoom_start (s : State) (r : Fin 4) (f : Classroom → Classroom) : (s.onRoom r f).start = s.start := rfl
@[simp] theorem onRoom_tap (s : State) (r : Fin 4) (f : Classroom → Classroom) : (s.onRoom r f).tap = s.tap := rfl
@[simp] theorem onRoom_dict (s : State) (r : Fin 4) (f : Classroom → Classroom) : (s.onRoom r f).dict = s.dict := rfl
@[simp] theorem onRoom_host (s : State) (r : Fin 4) (f : Classroom → Classroom) : (s.onRoom r f).host = s.host := rfl
@[simp] theorem onRoom_port (s : State) (r : Fin 4) (f : Classroom → Classroom) : (s.onRoom r f).port = s.port := rfl
@[simp] theorem onRoom_pending (s : State) (r : Fin 4) (f : Classroom → Classroom) : (s.onRoom r f).pending = s.pending := rfl
@[simp] theorem onRoom_drawn (s : State) (r : Fin 4) (f : Classroom → Classroom) : (s.onRoom r f).drawn = s.drawn := rfl

/-! ### onAcquiring -/

@[simp] theorem onAcquiring_clk (s : State) (f : BellRec → BellRec) : (s.onAcquiring f).clk = s.clk := rfl
@[simp] theorem onAcquiring_launch (s : State) (f : BellRec → BellRec) : (s.onAcquiring f).launch = s.launch := rfl
@[simp] theorem onAcquiring_servo (s : State) (f : BellRec → BellRec) : (s.onAcquiring f).servo = s.servo := rfl
@[simp] theorem onAcquiring_tdc (s : State) (f : BellRec → BellRec) : (s.onAcquiring f).tdc = s.tdc := rfl
@[simp] theorem onAcquiring_exc (s : State) (f : BellRec → BellRec) : (s.onAcquiring f).exc = s.exc := rfl
@[simp] theorem onAcquiring_drive (s : State) (f : BellRec → BellRec) : (s.onAcquiring f).drive = s.drive := rfl
@[simp] theorem onAcquiring_chain (s : State) (f : BellRec → BellRec) : (s.onAcquiring f).chain = s.chain := rfl
@[simp] theorem onAcquiring_capture (s : State) (f : BellRec → BellRec) : (s.onAcquiring f).capture = s.capture := rfl
@[simp] theorem onAcquiring_raman (s : State) (f : BellRec → BellRec) : (s.onAcquiring f).raman = s.raman := rfl
@[simp] theorem onAcquiring_detect (s : State) (f : BellRec → BellRec) : (s.onAcquiring f).detect = s.detect := rfl
@[simp] theorem onAcquiring_granary (s : State) (f : BellRec → BellRec) : (s.onAcquiring f).granary = s.granary := rfl
@[simp] theorem onAcquiring_array (s : State) (f : BellRec → BellRec) : (s.onAcquiring f).array = s.array := rfl
@[simp] theorem onAcquiring_tt (s : State) (f : BellRec → BellRec) : (s.onAcquiring f).tt = s.tt := rfl
@[simp] theorem onAcquiring_barn (s : State) (f : BellRec → BellRec) : (s.onAcquiring f).barn = s.barn := rfl
@[simp] theorem onAcquiring_streams (s : State) (f : BellRec → BellRec) : (s.onAcquiring f).streams = s.streams := rfl
@[simp] theorem onAcquiring_profiler (s : State) (f : BellRec → BellRec) : (s.onAcquiring f).profiler = s.profiler := rfl
@[simp] theorem onAcquiring_fibre (s : State) (f : BellRec → BellRec) : (s.onAcquiring f).fibre = s.fibre := rfl
@[simp] theorem onAcquiring_ic (s : State) (f : BellRec → BellRec) : (s.onAcquiring f).ic = s.ic := rfl
@[simp] theorem onAcquiring_timer (s : State) (f : BellRec → BellRec) : (s.onAcquiring f).timer = s.timer := rfl
@[simp] theorem onAcquiring_cores (s : State) (f : BellRec → BellRec) : (s.onAcquiring f).cores = s.cores := rfl
@[simp] theorem onAcquiring_bb (s : State) (f : BellRec → BellRec) : (s.onAcquiring f).bb = s.bb := rfl
@[simp] theorem onAcquiring_hk (s : State) (f : BellRec → BellRec) : (s.onAcquiring f).hk = s.hk := rfl
@[simp] theorem onAcquiring_node (s : State) (f : BellRec → BellRec) : (s.onAcquiring f).node = s.node := rfl
@[simp] theorem onAcquiring_policy (s : State) (f : BellRec → BellRec) : (s.onAcquiring f).policy = s.policy := rfl
@[simp] theorem onAcquiring_sec (s : State) (f : BellRec → BellRec) : (s.onAcquiring f).sec = s.sec := rfl
@[simp] theorem onAcquiring_power (s : State) (f : BellRec → BellRec) : (s.onAcquiring f).power = s.power := rfl
@[simp] theorem onAcquiring_start (s : State) (f : BellRec → BellRec) : (s.onAcquiring f).start = s.start := rfl
@[simp] theorem onAcquiring_tap (s : State) (f : BellRec → BellRec) : (s.onAcquiring f).tap = s.tap := rfl
@[simp] theorem onAcquiring_dict (s : State) (f : BellRec → BellRec) : (s.onAcquiring f).dict = s.dict := rfl
@[simp] theorem onAcquiring_host (s : State) (f : BellRec → BellRec) : (s.onAcquiring f).host = s.host := rfl
@[simp] theorem onAcquiring_port (s : State) (f : BellRec → BellRec) : (s.onAcquiring f).port = s.port := rfl
@[simp] theorem onAcquiring_pending (s : State) (f : BellRec → BellRec) : (s.onAcquiring f).pending = s.pending := rfl
@[simp] theorem onAcquiring_drawn (s : State) (f : BellRec → BellRec) : (s.onAcquiring f).drawn = s.drawn := rfl

/-! ### onProcessing -/

@[simp] theorem onProcessing_clk (s : State) (f : BellRec → BellRec) : (s.onProcessing f).clk = s.clk := rfl
@[simp] theorem onProcessing_launch (s : State) (f : BellRec → BellRec) : (s.onProcessing f).launch = s.launch := rfl
@[simp] theorem onProcessing_servo (s : State) (f : BellRec → BellRec) : (s.onProcessing f).servo = s.servo := rfl
@[simp] theorem onProcessing_tdc (s : State) (f : BellRec → BellRec) : (s.onProcessing f).tdc = s.tdc := rfl
@[simp] theorem onProcessing_exc (s : State) (f : BellRec → BellRec) : (s.onProcessing f).exc = s.exc := rfl
@[simp] theorem onProcessing_drive (s : State) (f : BellRec → BellRec) : (s.onProcessing f).drive = s.drive := rfl
@[simp] theorem onProcessing_chain (s : State) (f : BellRec → BellRec) : (s.onProcessing f).chain = s.chain := rfl
@[simp] theorem onProcessing_capture (s : State) (f : BellRec → BellRec) : (s.onProcessing f).capture = s.capture := rfl
@[simp] theorem onProcessing_raman (s : State) (f : BellRec → BellRec) : (s.onProcessing f).raman = s.raman := rfl
@[simp] theorem onProcessing_detect (s : State) (f : BellRec → BellRec) : (s.onProcessing f).detect = s.detect := rfl
@[simp] theorem onProcessing_granary (s : State) (f : BellRec → BellRec) : (s.onProcessing f).granary = s.granary := rfl
@[simp] theorem onProcessing_array (s : State) (f : BellRec → BellRec) : (s.onProcessing f).array = s.array := rfl
@[simp] theorem onProcessing_tt (s : State) (f : BellRec → BellRec) : (s.onProcessing f).tt = s.tt := rfl
@[simp] theorem onProcessing_barn (s : State) (f : BellRec → BellRec) : (s.onProcessing f).barn = s.barn := rfl
@[simp] theorem onProcessing_streams (s : State) (f : BellRec → BellRec) : (s.onProcessing f).streams = s.streams := rfl
@[simp] theorem onProcessing_profiler (s : State) (f : BellRec → BellRec) : (s.onProcessing f).profiler = s.profiler := rfl
@[simp] theorem onProcessing_fibre (s : State) (f : BellRec → BellRec) : (s.onProcessing f).fibre = s.fibre := rfl
@[simp] theorem onProcessing_ic (s : State) (f : BellRec → BellRec) : (s.onProcessing f).ic = s.ic := rfl
@[simp] theorem onProcessing_timer (s : State) (f : BellRec → BellRec) : (s.onProcessing f).timer = s.timer := rfl
@[simp] theorem onProcessing_cores (s : State) (f : BellRec → BellRec) : (s.onProcessing f).cores = s.cores := rfl
@[simp] theorem onProcessing_bb (s : State) (f : BellRec → BellRec) : (s.onProcessing f).bb = s.bb := rfl
@[simp] theorem onProcessing_hk (s : State) (f : BellRec → BellRec) : (s.onProcessing f).hk = s.hk := rfl
@[simp] theorem onProcessing_node (s : State) (f : BellRec → BellRec) : (s.onProcessing f).node = s.node := rfl
@[simp] theorem onProcessing_policy (s : State) (f : BellRec → BellRec) : (s.onProcessing f).policy = s.policy := rfl
@[simp] theorem onProcessing_sec (s : State) (f : BellRec → BellRec) : (s.onProcessing f).sec = s.sec := rfl
@[simp] theorem onProcessing_power (s : State) (f : BellRec → BellRec) : (s.onProcessing f).power = s.power := rfl
@[simp] theorem onProcessing_start (s : State) (f : BellRec → BellRec) : (s.onProcessing f).start = s.start := rfl
@[simp] theorem onProcessing_tap (s : State) (f : BellRec → BellRec) : (s.onProcessing f).tap = s.tap := rfl
@[simp] theorem onProcessing_dict (s : State) (f : BellRec → BellRec) : (s.onProcessing f).dict = s.dict := rfl
@[simp] theorem onProcessing_host (s : State) (f : BellRec → BellRec) : (s.onProcessing f).host = s.host := rfl
@[simp] theorem onProcessing_port (s : State) (f : BellRec → BellRec) : (s.onProcessing f).port = s.port := rfl
@[simp] theorem onProcessing_pending (s : State) (f : BellRec → BellRec) : (s.onProcessing f).pending = s.pending := rfl
@[simp] theorem onProcessing_drawn (s : State) (f : BellRec → BellRec) : (s.onProcessing f).drawn = s.drawn := rfl

/-! ### elapse -/

@[simp] theorem elapse_bell (s : State) (dt : Nat) : (s.elapse dt).bell = s.bell := by
  unfold State.elapse; split <;> rfl
@[simp] theorem elapse_launch (s : State) (dt : Nat) : (s.elapse dt).launch = s.launch := by
  unfold State.elapse; split <;> rfl
@[simp] theorem elapse_servo (s : State) (dt : Nat) : (s.elapse dt).servo = s.servo := by
  unfold State.elapse; split <;> rfl
@[simp] theorem elapse_tdc (s : State) (dt : Nat) : (s.elapse dt).tdc = s.tdc := by
  unfold State.elapse; split <;> rfl
@[simp] theorem elapse_exc (s : State) (dt : Nat) : (s.elapse dt).exc = s.exc := by
  unfold State.elapse; split <;> rfl
@[simp] theorem elapse_drive (s : State) (dt : Nat) : (s.elapse dt).drive = s.drive := by
  unfold State.elapse; split <;> rfl
@[simp] theorem elapse_chain (s : State) (dt : Nat) : (s.elapse dt).chain = s.chain := by
  unfold State.elapse; split <;> rfl
@[simp] theorem elapse_capture (s : State) (dt : Nat) : (s.elapse dt).capture = s.capture := by
  unfold State.elapse; split <;> rfl
@[simp] theorem elapse_raman (s : State) (dt : Nat) : (s.elapse dt).raman = s.raman := by
  unfold State.elapse; split <;> rfl
@[simp] theorem elapse_detect (s : State) (dt : Nat) : (s.elapse dt).detect = s.detect := by
  unfold State.elapse; split <;> rfl
@[simp] theorem elapse_granary (s : State) (dt : Nat) : (s.elapse dt).granary = s.granary := by
  unfold State.elapse; split <;> rfl
@[simp] theorem elapse_array (s : State) (dt : Nat) : (s.elapse dt).array = s.array := by
  unfold State.elapse; split <;> rfl
@[simp] theorem elapse_tt (s : State) (dt : Nat) : (s.elapse dt).tt = s.tt := by
  unfold State.elapse; split <;> rfl
@[simp] theorem elapse_barn (s : State) (dt : Nat) : (s.elapse dt).barn = s.barn := by
  unfold State.elapse; split <;> rfl
@[simp] theorem elapse_streams (s : State) (dt : Nat) : (s.elapse dt).streams = s.streams := by
  unfold State.elapse; split <;> rfl
@[simp] theorem elapse_profiler (s : State) (dt : Nat) : (s.elapse dt).profiler = s.profiler := by
  unfold State.elapse; split <;> rfl
@[simp] theorem elapse_fibre (s : State) (dt : Nat) : (s.elapse dt).fibre = s.fibre := by
  unfold State.elapse; split <;> rfl
@[simp] theorem elapse_ic (s : State) (dt : Nat) : (s.elapse dt).ic = s.ic := by
  unfold State.elapse; split <;> rfl
@[simp] theorem elapse_timer (s : State) (dt : Nat) : (s.elapse dt).timer = s.timer := by
  unfold State.elapse; split <;> rfl
@[simp] theorem elapse_cores (s : State) (dt : Nat) : (s.elapse dt).cores = s.cores := by
  unfold State.elapse; split <;> rfl
@[simp] theorem elapse_bb (s : State) (dt : Nat) : (s.elapse dt).bb = s.bb := by
  unfold State.elapse; split <;> rfl
@[simp] theorem elapse_hk (s : State) (dt : Nat) : (s.elapse dt).hk = s.hk := by
  unfold State.elapse; split <;> rfl
@[simp] theorem elapse_node (s : State) (dt : Nat) : (s.elapse dt).node = s.node := by
  unfold State.elapse; split <;> rfl
@[simp] theorem elapse_policy (s : State) (dt : Nat) : (s.elapse dt).policy = s.policy := by
  unfold State.elapse; split <;> rfl
@[simp] theorem elapse_sec (s : State) (dt : Nat) : (s.elapse dt).sec = s.sec := by
  unfold State.elapse; split <;> rfl
@[simp] theorem elapse_power (s : State) (dt : Nat) : (s.elapse dt).power = s.power := by
  unfold State.elapse; split <;> rfl
@[simp] theorem elapse_start (s : State) (dt : Nat) : (s.elapse dt).start = s.start := by
  unfold State.elapse; split <;> rfl
@[simp] theorem elapse_tap (s : State) (dt : Nat) : (s.elapse dt).tap = s.tap := by
  unfold State.elapse; split <;> rfl
@[simp] theorem elapse_dict (s : State) (dt : Nat) : (s.elapse dt).dict = s.dict := by
  unfold State.elapse; split <;> rfl
@[simp] theorem elapse_host (s : State) (dt : Nat) : (s.elapse dt).host = s.host := by
  unfold State.elapse; split <;> rfl
@[simp] theorem elapse_port (s : State) (dt : Nat) : (s.elapse dt).port = s.port := by
  unfold State.elapse; split <;> rfl
@[simp] theorem elapse_pending (s : State) (dt : Nat) : (s.elapse dt).pending = s.pending := by
  unfold State.elapse; split <;> rfl
@[simp] theorem elapse_drawn (s : State) (dt : Nat) : (s.elapse dt).drawn = s.drawn := by
  unfold State.elapse; split <;> rfl

/-! ### Entries under updates that leave the store alone -/

@[simp] theorem bumpGeneration_num (s : State) (k : Key) (j : Key) : (s.bumpGeneration k).num j = s.num j := rfl
@[simp] theorem bumpGeneration_nat (s : State) (k : Key) (j : Key) : (s.bumpGeneration k).nat j = s.nat j := rfl
@[simp] theorem bumpGeneration_block (s : State) (k : Key) (j : Key) : (s.bumpGeneration k).block j = s.block j := rfl
@[simp] theorem draw_num (s : State) (j : Key) : (s.draw).num j = s.num j := rfl
@[simp] theorem draw_nat (s : State) (j : Key) : (s.draw).nat j = s.nat j := rfl
@[simp] theorem draw_block (s : State) (j : Key) : (s.draw).block j = s.block j := rfl
@[simp] theorem passTo_num (s : State) (t : Nat) (j : Key) : (s.passTo t).num j = s.num j := rfl
@[simp] theorem passTo_nat (s : State) (t : Nat) (j : Key) : (s.passTo t).nat j = s.nat j := rfl
@[simp] theorem passTo_block (s : State) (t : Nat) (j : Key) : (s.passTo t).block j = s.block j := rfl
@[simp] theorem latchStatus_num (s : State) (j : Key) : (latchStatus s).num j = s.num j := rfl
@[simp] theorem latchStatus_nat (s : State) (j : Key) : (latchStatus s).nat j = s.nat j := rfl
@[simp] theorem latchStatus_block (s : State) (j : Key) : (latchStatus s).block j = s.block j := rfl
@[simp] theorem latchBit_num (s : State) (i : Nat) (j : Key) : (latchBit i s).num j = s.num j := rfl
@[simp] theorem latchBit_nat (s : State) (i : Nat) (j : Key) : (latchBit i s).nat j = s.nat j := rfl
@[simp] theorem latchBit_block (s : State) (i : Nat) (j : Key) : (latchBit i s).block j = s.block j := rfl
@[simp] theorem onEng_num (s : State) (e : Fin 32) (f : Engine → Engine) (j : Key) : (s.onEng e f).num j = s.num j := rfl
@[simp] theorem onEng_nat (s : State) (e : Fin 32) (f : Engine → Engine) (j : Key) : (s.onEng e f).nat j = s.nat j := rfl
@[simp] theorem onEng_block (s : State) (e : Fin 32) (f : Engine → Engine) (j : Key) : (s.onEng e f).block j = s.block j := rfl
@[simp] theorem onRoom_num (s : State) (r : Fin 4) (f : Classroom → Classroom) (j : Key) : (s.onRoom r f).num j = s.num j := rfl
@[simp] theorem onRoom_nat (s : State) (r : Fin 4) (f : Classroom → Classroom) (j : Key) : (s.onRoom r f).nat j = s.nat j := rfl
@[simp] theorem onRoom_block (s : State) (r : Fin 4) (f : Classroom → Classroom) (j : Key) : (s.onRoom r f).block j = s.block j := rfl
@[simp] theorem onAcquiring_num (s : State) (f : BellRec → BellRec) (j : Key) : (s.onAcquiring f).num j = s.num j := rfl
@[simp] theorem onAcquiring_nat (s : State) (f : BellRec → BellRec) (j : Key) : (s.onAcquiring f).nat j = s.nat j := rfl
@[simp] theorem onAcquiring_block (s : State) (f : BellRec → BellRec) (j : Key) : (s.onAcquiring f).block j = s.block j := rfl
@[simp] theorem onProcessing_num (s : State) (f : BellRec → BellRec) (j : Key) : (s.onProcessing f).num j = s.num j := rfl
@[simp] theorem onProcessing_nat (s : State) (f : BellRec → BellRec) (j : Key) : (s.onProcessing f).nat j = s.nat j := rfl
@[simp] theorem onProcessing_block (s : State) (f : BellRec → BellRec) (j : Key) : (s.onProcessing f).block j = s.block j := rfl
@[simp] theorem elapse_num (s : State) (dt : Nat) (j : Key) : (s.elapse dt).num j = s.num j := by
  unfold State.elapse; split <;> rfl
@[simp] theorem elapse_nat (s : State) (dt : Nat) (j : Key) : (s.elapse dt).nat j = s.nat j := by
  unfold State.elapse; split <;> rfl
@[simp] theorem elapse_block (s : State) (dt : Nat) (j : Key) : (s.elapse dt).block j = s.block j := by
  unfold State.elapse; split <;> rfl

end Sys2Proof.Machine
end

