-- ==== Sys2Proof/WellFormed.lean ====
section
/-!
DEFINITION. WellFormed.lean: which commands can be formed at all: what the types of Syntax.lean do not already say. A meaning is defined on
every command all the same.
-/

namespace Sys2Proof

/-- A write item carries LENGTH bytes of data, any other item none (R343, Table 13-3). -/
def Item.wf (i : Item) : Bool :=
  if i.op = 2 then i.data.length == i.length.toNat else i.data.isEmpty

/-- The items of a request that could be parsed are formed (R343). -/
def Request.wf (r : Request) : Bool := r.broken || r.items.all Item.wf

/-- No element stands twice. -/
def distinct {α : Type} [DecidableEq α] : List α → Bool
  | [] => true
  | x :: xs => !xs.contains x && distinct xs

/-- A failing cell is of a kind of Table 19-6, and a spare row, a spare column or nothing covers it (R480). -/
def CellFault.wf (f : CellFault) : Bool := decide (1 ≤ f.kind.toNat ∧ f.kind.toNat ≤ 7 ∧ f.outcome.toNat ≤ 2)

/-- The command can occur: sums of 3,000 converter codes, each from -2,048 to 2,047 (R107, R109), the 68 factors of Table 11-12, bytes and words of a barn line
named once (R314, R318), a pulse that has a length (R319), write data of a length that a request can give (R343), rates and
widths of Table 15-1, accesses of the host within a TLP's size (R385), a start whose steps come in their order (R488). -/
def Instr.wf (c : Instr) : Bool :=
  match c with
  | .offsetEstimate sums => (List.finRange 4).all fun (c : Fin 4) => decide (3000 * -2048 ≤ sums[c] ∧ sums[c] ≤ 3000 * 2047)
  | .ttImagePiece _ _ data => decide (data.length < 2 ^ 32)
  | .hkSelfCalDone factors => factors.length == 68
  | .barnRequest _ _ write _ => match write with
    | some l => !l.isEmpty && distinct (l.map Prod.fst)
    | none => true
  | .barnReadComplete _ errors _ => distinct (errors.map Prod.fst)
  | .barnAlert _ _ _ cycles _ => decide (0 < cycles)
  | .dictWrite _ args => decide (args.data.length < 2 ^ 32)
  | .dictGroupWrite _ items => items.all Item.wf
  | .hostDictRequest _ _ _ _ req _ => req.wf
  | .bar2Read _ len _ => decide (0 < len ∧ len ≤ 4096)
  | .bar2Write _ data _ => decide (0 < data.length ∧ data.length ≤ 256)
  | .inServiceSlice fault _ => (fault.map CellFault.wf).getD true
  | .bbRecordWrite rb _ => match rb with
    | .holds => true
    | .differs found => found.length == 64
  | .resetAssert low _ => decide (0 < low)
  | .deviceStart facts => facts.cells.all CellFault.wf && decide (facts.times[0].toNat ≤ facts.times[1].toNat ∧ facts.times[1].toNat ≤ facts.times[2].toNat)
  | .hostLinkUp speed width _ => (speed == 0 && width == 0) || (speed != 0 && (width == 1 || width == 2 || width == 4))
  | .bellStart .. | .bellsStopped .. | .acquisitionWindowClose .. | .launchWindowClose .. | .traceEndKnown ..
  | .lessonStart .. | .lessonDeadline .. | .refInLost .. | .refInReturn .. | .pllLock .. | .ppsInEdge ..
  | .timeCoast .. | .tdcEdge .. | .tdcPopLo .. | .tdcStatusClear .. | .fineCalibration .. | .bellRunArm ..
  | .bellRunStop .. | .deviceTimeWrite .. | .timeSourceSelect .. | .tdcOwnerChange .. | .pwmPeriodStart ..
  | .gateLineFire .. | .gateLineEnd .. | .complianceJudgement .. | .provingPulseStart .. | .provingVerdict ..
  | .faultClear .. | .interlockAssert .. | .interlockRelease .. | .driveEnableHoldoffEnd .. | .driveRestore ..
  | .driveRemove .. | .dissipationAverage .. | .capScaleApply .. | .capScaleRaise .. | .shadowApplyStopped ..
  | .calRun .. | .converterCalDone .. | .captureArm .. | .captureComplete .. | .captureOverrun ..
  | .dtsBlockCopyDone .. | .profileStore .. | .calReset .. | .traceEndLearn .. | .traceEndLearnDone .. | .engMul ..
  | .engMac .. | .engMsu .. | .engMuln .. | .engAclr .. | .engAmov .. | .engAadd .. | .engAsub .. | .engAldg ..
  | .engAext .. | .engAex16 .. | .engAshr .. | .engNop .. | .engAdd .. | .engSub .. | .engAdds .. | .engSubs ..
  | .engAnd .. | .engOr .. | .engXor .. | .engShl .. | .engShr .. | .engSar .. | .engMin .. | .engMax .. | .engAbs ..
  | .engAdd2 .. | .engSub2 .. | .engAdds2 .. | .engSubs2 .. | .engSxl .. | .engSxh .. | .engPack .. | .engSel ..
  | .engMov .. | .engCmpeq .. | .engCmplt .. | .engCmpltu .. | .engCmple .. | .engPand .. | .engPor .. | .engPnot ..
  | .engPseti .. | .engPtst .. | .engPclr .. | .engPset .. | .engAddi .. | .engAndi .. | .engOri .. | .engXori ..
  | .engShli .. | .engShri .. | .engSari .. | .engCmpeqi .. | .engCmplti .. | .engMovil .. | .engMovih ..
  | .engMovtp .. | .engMovtm .. | .engMovtl .. | .engMovfp .. | .engMovfm .. | .engMovfl .. | .engLd .. | .engSt ..
  | .engPmod .. | .engPost .. | .engBr .. | .engBrt .. | .engBrf .. | .engRep .. | .engSeg .. | .engEnd .. | .replay ..
  | .engineHaltAtSafePoint .. | .safePointTimeout .. | .spareMappingStart .. | .classroomFault ..
  | .prefetchComplete .. | .dbgStatus .. | .dbgHalt .. | .dbgResume .. | .dbgStep .. | .dbgReadReg .. | .dbgWriteReg ..
  | .dbgReadMem .. | .dbgWriteMem .. | .dbgSetBreak .. | .dbgClearBreak .. | .faultInject .. | .ttLoad ..
  | .bellSwitchLoadDone .. | .manualTrigger .. | .triggerNext .. | .harvestComplete .. | .harvestRelease ..
  | .harvestAreaResize .. | .hkTimerStart .. | .hkPwmEdgeStart .. | .hkStartEntry .. | .hkStartRegister ..
  | .hkSample .. | .hkSlotEnd .. | .hkCalRun .. | .hkStatusClear .. | .stickyClear .. | .barnWriteBurst ..
  | .refreshDue .. | .recalStep .. | .scrubPassEnd .. | .selfRefreshEntry .. | .logClear .. | .dictRead ..
  | .dictShadowRead .. | .dpGo .. | .dpStatusClear .. | .opStartTimetableLoad .. | .opStartProfileSave ..
  | .opStartProfileApply .. | .opStartFlashProgram .. | .stagedOpStepDone .. | .stagedOpStepReport .. | .opAbort ..
  | .latchClear .. | .foreignFrame .. | .joenlinkFrameUnknown .. | .carriageFrame .. | .carriageRequest ..
  | .carriageRefetch .. | .mailbox .. | .poll .. | .rollCall .. | .sweep .. | .bellMark .. | .linkDown .. | .loopEnd ..
  | .linkDelayWrite .. | .rqDoorbell .. | .hostBufferPost .. | .hostEnable .. | .resetQueues .. | .hostStatusClear ..
  | .cqHeadWrite .. | .modTimerExpiry .. | .msixUnmask .. | .aspmL1Entry .. | .hostD3hotEntry .. | .hostD0Return ..
  | .hostHotReset .. | .tdcFlushExpiry .. | .arpRequest .. | .streamRxDiscard .. | .datagramSend ..
  | .streamLinkChange .. | .icPendingClear .. | .icRouteWrite .. | .icTargetWrite .. | .icTake .. | .icSoft ..
  | .pendingClear .. | .routesWrite .. | .targetDisable .. | .mtimeLoRead .. | .mtimeCompare .. | .appCoreHold ..
  | .appCoreRelease .. | .appCoreLoadDone .. | .watchdogExpiry .. | .powerEvaluation .. | .weightEvaluation ..
  | .fadeEvaluation .. | .thermalCauseClear .. | .holdoverLimitExpiry .. | .levelDwellReturn .. | .levelReturn ..
  | .lifecycleAdvance .. | .keyProgram .. | .keyRevoke .. | .nonce .. | .sessionOpen .. | .sessionClose ..
  | .sessionIdleExpiry .. | .lockoutExpiry .. | .windowWrite .. | .windowChange .. | .debugRequest ..
  | .powerRequestRun .. | .powerRequestWatch .. | .powerRequestStandby .. | .powerRequestShutdown ..
  | .powerTransitionDone .. | .shutdownComplete .. | .supplyWarning .. | .braceEnd .. | .supplyReset ..
  | .tapReset .. | .startBellsStep .. | .tapIdcode .. | .tapBypass .. | .tapSamplePreload ..
  | .tapExtest .. | .tapClamp .. | .tapHighz .. | .tapDtmcs .. | .tapDmi .. | .tapEngDebug .. | .tapScanChain ..
  | .registerWrite .. | .ringLinkUp .. | .fetchCompletionTimeout .. | .fetchCompletionError ..
  | .malformedRequestEntry .. => true

end Sys2Proof
end

