-- ==== Sys2Proof/Tests/Slice0.lean ====
section
/-!
SUPPORT. Tests/Slice0.lean: the model's own tests, each a named theorem on fixed values: a refused ill-formed command for each check of
WellFormed, a state and operands that meet the hypotheses of each statement (witness_…), and results worked out by hand from the rules
(test_…).
-/

set_option Elab.async false

namespace Sys2Proof.Tests
open Sys2Proof.Machine

/-! ### Ill-formed commands -/

theorem test_item_without_data : Item.wf { index := 0, sub := 0, op := 2, length := 4 } = false := by decide
theorem test_read_with_data : Item.wf { index := 0, sub := 0, op := 1, length := 1, data := [0] } = false := by decide
theorem test_group_with_bad_item : (Instr.dictGroupWrite (.queued 2) [{ index := 0, sub := 0, op := 2, length := 4 }]).wf = false := by decide
theorem test_host_request_with_bad_item :
    (Instr.hostDictRequest 0 0 0 0 { items := [{ index := 0, sub := 0, op := 2, length := 4 }] } 0).wf = false := by decide
theorem test_offset_sum_too_big : (Instr.offsetEstimate #v[0, 0, 0, 6141001]).wf = false := by decide
theorem test_67_factors : (Instr.hkSelfCalDone (List.replicate 67 0)).wf = false := by decide
theorem test_byte_of_line_twice : (Instr.barnRequest 9 0 (some [(3, 1), (3, 2)]) 0).wf = false := by decide
theorem test_no_byte_of_line : (Instr.barnRequest 9 0 (some []) 0).wf = false := by decide
theorem test_word_of_line_twice : (Instr.barnReadComplete 0 [(1, .corrected 0), (1, .corrected 0)] 0).wf = false := by decide
theorem test_alert_without_length : (Instr.barnAlert 0 4 0 0 0).wf = false := by decide
theorem test_link_width_3 : (Instr.hostLinkUp 3 3 0).wf = false := by decide
theorem test_link_rate_0 : (Instr.hostLinkUp 0 4 0).wf = false := by decide
theorem test_empty_bar2_read : (Instr.bar2Read 0 0 0).wf = false := by decide
theorem test_long_bar2_write : (Instr.bar2Write 0 (List.replicate 257 0) 0).wf = false := by decide +kernel
theorem test_offset_sum_too_small : (Instr.offsetEstimate #v[0, 0, 0, -6144001]).wf = false := by decide
theorem test_short_read_back : (Instr.bbRecordWrite (.differs [0]) 0).wf = false := by decide
theorem test_reset_without_length : (Instr.resetAssert 0 0).wf = false := by decide
theorem test_start_out_of_order : (Instr.deviceStart { times := #v[2, 1, 3] }).wf = false := by decide
theorem test_cell_of_no_kind :
    (Instr.inServiceSlice (some { kind := 8, unit := 0, bank := 0, outcome := 0, word := 0, bit := 0 }) false).wf = false := by decide
theorem test_well_formed : (Instr.barnRequest 9 5 (some [(3, 1), (4, 2)]) 7).wf = true := by decide

/-- The table gives no row bits: no word spells a command. -/
theorem test_no_word : decodeTableWord 32 0 = none := by decide

/-! ### Engines -/

/-- Engine 0 runs its lesson at cycle 1,000 of a bell whose deadline is at cycle 5,000. -/
def engines : State :=
  let s := State.reset.setNum (K.engineState 0) 1
  let s := { s with array := { s.array with deadline := 5000 } }
  s.onEng 0 fun x => { x with
    cycle := 1000, pc := 20, segStart := 1000,
    regs := { x.regs with
      g := (x.regs.g.set 1 ⟨0x7FFFFFFF, false, false⟩).set 2 ⟨2, true, false⟩,
      p := x.regs.p.set 0 ⟨0x100, false, false⟩ } }

/-- The same with something else changed in engine 0. -/
def enginesWith (f : Engine → Engine) : State := engines.onEng 0 f

def here : At := ⟨0, 0⟩
def always : Guard := ⟨false, false, 0⟩
def lAlways : LGuard := ⟨false, 0⟩

theorem issues_here (slot : Nat) : Issues here slot engines engines := ⟨by decide, by decide, rfl, by decide, Nat.zero_le _, by decide⟩
theorem passes_always (t : State) : Passes always 0 t := .inl ⟨rfl, rfl, rfl⟩
theorem lpasses_always (t : State) : LPasses lAlways 0 t := .inl ⟨rfl, rfl⟩
theorem clean_g (i : Fin 32) (h : (gAt engines 0 i).bad = false := by decide) : Clean engines 0 (gAt engines 0 i) := ⟨h, by decide⟩

theorem witness_AluTwoOperands : Issues here 2 engines engines ∧ Passes always 0 engines ∧ Clean engines 0 (gAt engines 0 1)
    ∧ Clean engines 0 (gAt engines 0 2) := ⟨issues_here 2, passes_always _, clean_g 1, clean_g 2⟩

theorem witness_AluOneOperand : Issues here 2 engines engines ∧ Passes ⟨true, true, 1⟩ 0 engines ∧ Clean engines 0 (gAt engines 0 1)
    ∧ Clean engines 0 (gAt engines 0 31) ∧ (31 : BitVec 12).toNat < 32 :=
  ⟨issues_here 2, .inr ⟨rfl, by decide⟩, clean_g 1, clean_g 31, by decide⟩

theorem witness_ComparesAndPredicates : Issues here 2 engines engines ∧ Passes always 0 engines ∧ Clean engines 0 (gAt engines 0 1)
    ∧ (3 : Fin 32).val < 4 ∧ (7 : Fin 32).val < 8 := ⟨issues_here 2, passes_always _, clean_g 1, by decide, by decide⟩

theorem witness_TagsAndAddressMoves : Issues here 2 engines engines ∧ Passes always 0 engines ∧ Clean engines 0 (gAt engines 0 1)
    ∧ Clean engines 0 (engines.eng 0).regs.p[7] ∧ Clean engines 0 (engines.eng 0).regs.m[7] ∧ Clean engines 0 (engines.eng 0).regs.l[7] :=
  ⟨issues_here 2, passes_always _, clean_g 1, ⟨by decide, by decide⟩, ⟨by decide, by decide⟩, ⟨by decide, by decide⟩⟩

theorem witness_Multiplies : Issues here 1 engines engines ∧ Passes always 0 engines ∧ Clean engines 0 (gAt engines 0 1)
    ∧ Clean engines 0 (gAt engines 0 2) ∧ Clean engines 0 (engines.eng 0).regs.acc[3] :=
  ⟨issues_here 1, passes_always _, clean_g 1, clean_g 2, ⟨by decide, by decide⟩⟩

theorem witness_Accumulators : Issues here 1 engines engines ∧ Passes always 0 engines ∧ Clean engines 0 (engines.eng 0).regs.acc[0]
    ∧ Clean engines 0 (engines.eng 0).regs.acc[3] ∧ Clean engines 0 (gAt engines 0 1) ∧ (8 : Fin 64).val ≤ 8 ∧ (39 : Fin 64).val ≤ 39 :=
  ⟨issues_here 1, passes_always _, ⟨by decide, by decide⟩, ⟨by decide, by decide⟩, clean_g 1, by decide, by decide⟩

/-- A word of data memory at 0x100 by p0, with post-modify, by L1; before and after a detection that keeps stores back. -/
theorem witness_LoadsAndStores (b : Bool) :
    let engines := enginesWith fun x => { x with noStore := b }
    let f : LForm := ⟨5, 0, 0, true, 0⟩
    let p := (engines.eng 0).regs.p[0]
    let l := (engines.eng 0).regs.l[0]
    Issues here 4 engines engines ∧ LPasses lAlways 0 engines ∧ f.size ≠ 3 ∧ Clean engines 0 p ∧ Clean engines 0 l ∧ p.tag = false
      ∧ l.tag = false ∧ Clean engines 0 (gAt engines 0 5) ∧ Clean engines 0 (engines.eng 0).regs.m[0]
      ∧ access 4 (effAddr p.v l.v f) false 0 engines = some 0x100 ∧ access 4 (effAddr p.v l.v f) true 0 engines = some 0x100
      ∧ granulePending 0 0x100 engines = false ∧ (engines.eng 0).injecting = 0 ∧ (readMem 0 0x100 engines).bad = false
      ∧ (engines.eng 0).noStore = b := by
  cases b <;> exact ⟨⟨by decide, by decide, rfl, by decide, Nat.zero_le _, by decide⟩, .inl ⟨rfl, rfl⟩, by decide, ⟨by decide, by decide⟩,
    ⟨by decide, by decide⟩, by decide, by decide, ⟨by decide, by decide⟩, ⟨by decide, by decide⟩, by decide, by decide, by decide, by decide,
    by decide, by decide⟩

theorem witness_StoredWordsLand : mapped 0x5FFFC = true ∧ mapped 0x100 = true ∧ 0x100 / 4 ≠ 0x5FFFC / 4 := by decide

/-- A descriptor in g0 to g3: POST of a prefetch needs a timetable, so a state with one stands for it. -/
theorem witness_BranchesAndRepeats : Issues here 0 engines engines ∧ BranchMay (engines.eng 0) ∧ (engines.eng 0).reps.length < 2 :=
  ⟨issues_here 0, ⟨by decide, by decide⟩, by decide⟩
theorem witness_repeat_end : let r : Repeat := { first := 30, last := 32, left := 1, rot := true, starts := 5 }
    let x : Engine := { cycle := 9, pc := 32, reps := [r] }
    x.branch = none ∧ x.reps = r :: [] ∧ r.starts ≤ x.cycle ∧ x.pc = r.last ∧ r.left = 0 + 1 := by decide

/-- An image of kind 0 for engine 0 at 800 MHz (offset 224), with a lesson (offset 176) of one segment of 960 cycles (offset 208). -/
def tinyImage : List Byte :=
  let sec (type scope : Byte) (off len : Nat) : List Byte := [type, 0, scope, 0] ++ leBytes 4 off ++ leBytes 4 len ++ zeros 4
  zeros 6 ++ [3, 0] ++ zeros 120 ++ sec 2 0 176 32 ++ sec 3 0 208 16 ++ sec 1 255 224 16 ++ [0, 0, 1, 0] ++ leBytes 4 960 ++ zeros 24
    ++ [0, 0, 0, 0] ++ leBytes 4 960 ++ zeros 8 ++ [0, 0] ++ leBytes 2 800 ++ leBytes 4 1 ++ zeros 8

/-- In its last full segment, in appendix mode or not; with the SEG of segment 1 issued again by a replay; not at a safe point. -/
def ending (app : Bool) : State :=
  let s := enginesWith fun x => { x with appendix := app, segment := if app then 0 else 1 }
  { s with array := { s.array with kind := some 0, slot := 0 }, tt := { s.tt with slots := s.tt.slots.set 0 { image := tinyImage } } }
theorem witness_SegmentsAndLessonEnd :
    (Issues here 0 engines engines ∧ safeNow (engines.eng 0) = true ∧ reissued (engines.eng 0) = false ∧ endCrowded (engines.eng 0) = false
      ∧ ((engines.eng 0).appendix = true → (engines.eng 0).segment + 1 ≠ fullSegs engines 0))
    ∧ (Issues here 0 (ending false) (ending false) ∧ safeNow ((ending false).eng 0) = true ∧ reissued ((ending false).eng 0) = true)
    ∧ (Issues here 0 (ending true) (ending true) ∧ endCrowded ((ending true).eng 0) = false ∧ ((ending true).eng 0).appendix = true
      ∧ ((ending true).eng 0).segment + 1 = fullSegs (ending true) 0 ∧ safeNow ((ending true).eng 0) = true) :=
  ⟨⟨issues_here 0, by decide, by decide, by decide +kernel, by decide⟩,
    ⟨⟨by decide, by decide, rfl, by decide, by decide, by decide⟩, by decide, by decide⟩,
    ⟨⟨by decide, by decide, rfl, by decide, by decide, by decide⟩, by decide +kernel, by decide, by decide +kernel, by decide⟩⟩

theorem witness_GuardsAndFaults : Issues here 2 engines engines ∧ Blocks ⟨true, false, 1⟩ 0 engines ∧ (1 : BitVec 5) ≠ 0
    ∧ (engines.eng 0).regs.q[(1 : Fin 4)] = false ∧ access 3 (effAddr 0x60000 0 ⟨0, 0, 0, false, 0⟩) false 0 engines = none :=
  ⟨issues_here 2, ⟨rfl, by decide⟩, by decide, by decide, by decide⟩

/-- A result on its way keeps engine 0 from a safe point; g1 has bad parity. -/
def enginesBusy : State := enginesWith fun x => { x with
  flight := [{ ready := 1003, issued := 1000, slot := 3, dest := .g 4, value := 0, tag := false, mul := false }],
  regs := { x.regs with g := x.regs.g.set 1 ⟨1, false, true⟩ } }

theorem witness_ScheduleFaults : Issues here 0 enginesBusy enginesBusy ∧ safeNow (enginesBusy.eng 0) = false :=
  ⟨⟨by decide, by decide, rfl, by decide, by decide, by decide⟩, by decide⟩
theorem witness_OperandParity : Issues here 2 enginesBusy enginesBusy ∧ Passes always 0 enginesBusy
    ∧ (gAt enginesBusy 0 1).bad = true ∧ (enginesBusy.eng 0).injecting ≠ 5 :=
  ⟨⟨by decide, by decide, rfl, by decide, by decide, by decide⟩, passes_always _, by decide, by decide⟩

theorem witness_LaterSlotIsKept :
    let a : Landing := { ready := 5, issued := 2, slot := 3, dest := .g 4, value := 7, tag := false, mul := false }
    let b : Landing := { ready := 5, issued := 4, slot := 2, dest := .g 4, value := 9, tag := false, mul := false }
    let x : Engine := { cycle := 5, flight := [a, b] }
    a ∈ x.flight ∧ a.ready ≤ x.cycle ∧ a.slot < 5 ∧ ∀ q ∈ x.flight, q ≠ a → q.dest = a.dest → q.ready ≤ x.cycle → q.slot < a.slot := by
  decide

/-- ADDS of the largest number and 2 stays at the largest (R187), poisoned as g2 is (R160). -/
theorem test_adds_saturates :
    ∃ u, exec (.engAdds here always ⟨3, 1, 2, 0, 0⟩) engines = .next u
      ∧ (u.eng 0).flight = [{ ready := 1001, issued := 1000, slot := 2, dest := .g 3, value := 0x7FFFFFFF, tag := true, mul := false }] :=
  ⟨_, rfl, by decide⟩
/-- ADD wraps (R187). -/
theorem test_add_wraps :
    ∃ u, exec (.engAdd here always ⟨3, 1, 2, 0, 0⟩) engines = .next u
      ∧ (u.eng 0).flight = [{ ready := 1001, issued := 1000, slot := 2, dest := .g 3, value := 0x80000001, tag := true, mul := false }] :=
  ⟨_, rfl, by decide⟩

/-! ### Requests that are accepted -/

/-- The request of `items` by initiator `i` as its turn comes at once. -/
def presented (i : Initiator) (group : Bool) (items : List Item) (s : State) : State :=
  presentRequest i { group, tag := 0, items } .port (s.elapse 0)
def atTurn (i : Initiator) (group : Bool) (items : List Item) (s : State) : State :=
  let v := presented i group items s
  noteTurn i (expedited v { group, tag := 0, items }) { v with dict := { v.dict with waiting := v.dict.waiting.set i none } }
def turnComes (i : Initiator) (group : Bool) (items : List Item) (s : State) : Bool :=
  !unnamedWaits s && decide (i ≠ 3) && (s.dict.waiting[i]).isNone && serialiserRuns (s.elapse 0)
    && decide (serialTurn (presented i group items s) = some (.place i))
def accepted (i : Initiator) (group : Bool) (items : List Item) (s : State) : Bool :=
  turnComes i group items s && (writeBars i (levelOf' (atTurn i group items s) i) items true (atTurn i group items s)).isNone

theorem hasTurn_now {i : Initiator} {group : Bool} {items : List Item} {s : State} (h : turnComes i group items s = true) :
    HasTurn (.direct i 0 0) group items s i (atTurn i group items s) := by
  simp only [turnComes, Bool.and_eq_true, decide_eq_true_eq, Option.isNone_iff_eq_none, Bool.not_eq_true'] at h
  obtain ⟨⟨⟨⟨hu, n⟩, hw⟩, hr⟩, ht⟩ := h
  refine ⟨hu, rfl, hw, fun x => n x.1, hr, .inl ?_⟩
  rw [if_neg n]
  refine ⟨{ req := { group, tag := 0, items }, arrived := (s.elapse 0).clk.now, replyTo := .port }, ht, ?_, nofun, ?_, rfl⟩
  · simp [presentRequest]
  · simp [sameRequest]

theorem may_of {core : Fin 2} {k a dt : Nat} {s : State} (h : (coreActs core s && pmpPermits ((coreArrives core dt s).hart core) k a 4
    && (core != 1 || windowPermits (coreArrives core dt s) 0 k a 4)) = true) : CoreMay core k a dt s := by
  simp only [Bool.and_eq_true, Bool.or_eq_true, bne_iff_ne, ne_eq] at h
  exact ⟨h.1.1, h.1.2, fun e => h.2.resolve_left (absurd e)⟩

theorem writes_by {i : Initiator} {k : Key} {data : List Byte} {s : State} (h : accepted i false [writeItem k 0 data] s = true) :
    ∃ w, Writes (.direct i 0 0) k data s i w := by
  simp only [accepted, Bool.and_eq_true, Option.isNone_iff_eq_none] at h
  exact ⟨_, hasTurn_now h.1, h.2⟩

theorem writes_now {k : Key} {data : List Byte} {s : State} (h : accepted 4 false [writeItem k 0 data] s = true) :
    ∃ w, Writes (.direct 4 0 0) k data s 4 w := writes_by h

/-- Started, in Run and locked, bells stopped, a timetable active, the interlock closed, both cores running. -/
def ready : State :=
  let s := ((State.reset.setNum K.refState 2).setNum K.powerState 0).setNum K.barnBytes (2 ^ 35 : Nat)
  let s := (s.setNum K.barnState 2).setNum K.appCoreState 2
  { s with array := { s.array with kind := some 0 }, drive := { s.drive with interlockLow := false },
           start := { s.start with ran := true }, host := { s.host with crs := false } }

/-- Bell 7 is acquired and bell 6 processed, at 40 µs of a bell of 1.000 ms that started 2 ms after reset. -/
def ringing : State :=
  let s := (ready.setNum K.bellState 2).setNum K.bellRun 1
  let b : BellRec := { header := { number := 7, time := 2000000, mode := 0, gauge := 4, points := 1024 }, startAt := 2000000,
                       period := 1000000, settings := s.dict.store }
  { s with
    clk := { s.clk with now := 2040000, devTime := 2040000 },
    bell := { s.bell with number := 7, everStarted := true, startAt := 2000000, startDev := 2000000, due := some 3000000, sinceArm := 8,
                          acquiring := some b, processing := some { b with header := { b.header with number := 6 }, startAt := 1000000 } } }

def four : Src := .direct 4 0 0
def number (n v : Nat) : List Byte := leBytes n v

theorem witness_BellAndTimeEntries :
    (∃ w, Writes four K.bellRun [1] ready 4 w) ∧ (∃ w, Writes four K.bellRun [0] ringing 4 w)
      ∧ (∃ w, Writes four K.deviceTime (leBytes 8 (1000 : BitVec 64).toNat) ready 4 w) ∧ (∃ w, Writes four K.timeSource [1] ready 4 w)
      ∧ ∃ w, Writes four (K.owner 7) [1] ready 4 w :=
  ⟨writes_now (by decide +kernel), writes_now (by decide +kernel), writes_now (by decide +kernel), writes_now (by decide +kernel),
    writes_now (by decide +kernel)⟩

theorem witness_DriveAndReceiverEntries :
    (∃ w, Writes four K.faultClear [0xFF] ready 4 w) ∧ (∃ w, Writes four K.driveEnable [1] ready 4 w)
      ∧ (∃ w, Writes four K.driveEnable [1] ringing 4 w) ∧ (∃ w, Writes four K.driveEnable [0] ready 4 w) ∧ (∃ w, Writes four K.calRun [1] ready 4 w)
      ∧ (∃ w, Writes four K.capArm [1] ready 4 w) ∧ (∃ w, Writes four K.calReset [1] ready 4 w)
      ∧ (∃ w, Writes four K.traceEndLearn [1] ringing 4 w)
      ∧ (∃ w, Writes four K.faultInject (leBytes 2 (0x011F : BitVec 16).toNat) ringing 4 w)
      ∧ ∃ w, Writes four (K.linkDelay 1) (leBytes 4 (500 : BitVec 32).toNat) ready 4 w :=
  ⟨writes_now (by decide +kernel), writes_now (by decide +kernel), writes_now (by decide +kernel), writes_now (by decide +kernel),
    writes_now (by decide +kernel), writes_now (by decide +kernel), writes_now (by decide +kernel), writes_now (by decide +kernel),
    writes_now (by decide +kernel), writes_now (by decide +kernel)⟩

/-- Operation 1, a profile save, has reported all its steps but the last. -/
def saving : State :=
  let s := (ready.setNum K.opLastId 1).setNum K.opsRunning 2
  { s with dict := { s.dict with ops := s.dict.ops.set 1 { id := 1, kind := 2, state := 1, arg := 0, stepsTotal := 3, stepsDone := 2 } },
           cores := { s.cores with controlAlive := true } }
def savingReported : State :=
  { saving with dict := { saving.dict with ops := saving.dict.ops.set 1 { saving.dict.ops[(1 : Fin 8)] with reportReady := true } } }

theorem witness_Operations :
    (∃ w, Writes four K.opStart ([4, 7] ++ zeros 14) ready 4 w) ∧ (∃ w, Writes four K.opStart ([3, 0] ++ zeros 14) ready 4 w)
      ∧ (∃ w, Writes four K.opStart ([1, 0] ++ zeros 14) ready 4 w) ∧ (∃ w, Writes four K.opStart ([2, 0] ++ zeros 14) ready 4 w)
      ∧ (∃ w, Writes four K.ttLoad [1] ready 4 w) ∧ (∃ w, Writes four K.opAbort (leBytes 4 (1 : BitVec 32).toNat) saving 4 w)
      ∧ (∃ w, Writes four K.latchClear (leBytes 4 (0x10 : BitVec 32).toNat) ready 4 w) :=
  ⟨writes_now (by decide +kernel), writes_now (by decide +kernel), writes_now (by decide +kernel), writes_now (by decide +kernel), writes_now (by decide +kernel), writes_now (by decide +kernel),
    writes_now (by decide +kernel)⟩

theorem witness_upload : HasTurn four false [writeItem K.ttImage 0 [1, 2, 3, 4]] ready 4 (atTurn 4 false [writeItem K.ttImage 0 [1, 2, 3, 4]] ready)
    ∧ accepted 4 false [writeItem K.ttImage 0 [1, 2, 3, 4]] ready = true := ⟨hasTurn_now (by decide +kernel), by decide +kernel⟩

theorem witness_operation_step : let o := saving.dict.ops[(1 : Fin 8)]
    o.state = 1 ∧ o.reportReady = false ∧ o.stalled = false ∧ saving.cores.controlAlive = true ∧ o.stepsTotal ≤ o.stepsDone + 1 ∧ o.kind = 2 := by
  decide +kernel
theorem witness_operation_report : (savingReported.dict.ops[(1 : Fin 8)]).reportReady = true
    ∧ serialTurn (savingReported.elapse 0) = some .report := by decide +kernel

/-- Zone 5 is enabled; a trigger is queued; harvest 3 is complete. -/
def detecting : State :=
  let s := ringing.setBlock (K.zoneBlock 0) (zeros 160 ++ (zeros 4 ++ leBytes 4 8 ++ [1] ++ zeros 23) ++ zeros 1856)
  { s with
    detect := { s.detect with queue :=
      [{ bell := 6, timeNs := 0, timePs := 0, zone := 5, detectors := 1, flags := 0, point := 2, harvestSeq := 3 }] },
    granary := { s.granary with harvests := [{
      seq := 3, zone := 5, detectors := 1, triggerBell := 6, timeNs := 0, timePs := 0, uncertainty := 0, eventPoint := 2, firstPoint := 0, pointCount := 8, firstBell := 5, lastBell := 6, mode := 0, gauge := 4,
      timeSource := 0, timeState := 0, statValue := 0, forming := true, complete := true }] } }

theorem reads_by {i : Initiator} {it : Item} {s : State} (h : (turnComes i false [it] s
      && (match readChecks (atTurn i false [it] s) i (levelOf' (atTurn i false [it] s) i) it with
          | .ok _ => true
          | .error _ => false)) = true) : ∃ row w, Reads (.direct i 0 0) it row s i w := by
  simp only [Bool.and_eq_true] at h
  cases e : readChecks (atTurn i false [it] s) i (levelOf' (atTurn i false [it] s) i) it with
  | ok row => exact ⟨row, _, hasTurn_now h.1, e⟩
  | error r => simp [e] at h

theorem witness_DetectionAndHousekeepingEntries :
    (∃ w, Writes four K.manualTrigger (leBytes 2 (5 : BitVec 16).toNat) detecting 4 w)
      ∧ (∃ row w, Reads four (wholeRead K.triggerNext 32) row detecting 4 w)
      ∧ (∃ w, Writes four K.harvestRelease (leBytes 4 (3 : BitVec 32).toNat) detecting 4 w)
      ∧ (∃ w, Writes four K.harvestAreaBytes (leBytes 8 (0x4000000 : BitVec 64).toNat) ready 4 w) ∧ (∃ w, Writes four K.hkStart [1] ready 4 w)
      ∧ (∃ w, Writes four K.hkCalRun [1] ready 4 w) ∧ (∃ w, Writes four K.stickyClear [1] ready 4 w) ∧ ∃ w, Writes four K.logClear [3] ready 4 w :=
  ⟨writes_now (by decide +kernel), reads_by (by decide +kernel), writes_now (by decide +kernel), writes_now (by decide +kernel),
    writes_now (by decide +kernel), writes_now (by decide +kernel), writes_now (by decide +kernel), writes_now (by decide +kernel)⟩

/-- An application copy is valid. -/
def withFirmware : State :=
  { ready.setNum K.fwSelected 4 with cores := { ready.cores with copies := ready.cores.copies.set 2 (some { version := 3, image := zeros 64, load := [1, 2], entry := 0 }) } }

theorem witness_CoreAndPolicyEntries :
    (∃ w, Writes four K.pendingClear (List.replicate 24 0xFF) ready 4 w) ∧ (∃ w, Writes four K.routes (List.replicate 96 0x11) ready 4 w)
      ∧ (∃ w, Writes four K.targetDisable [0x0C] ready 4 w) ∧ (∃ w, Writes four K.appCoreRun [0] ready 4 w)
      ∧ (∃ w, Writes four K.appCoreRun [1] withFirmware 4 w) ∧ withFirmware.nat K.powerState ≠ 2
      ∧ (∃ w, Writes four K.levelReturn [1] ready 4 w) ∧ ready.nat K.levelInEffect ≠ 5 :=
  ⟨writes_now (by decide +kernel), writes_now (by decide +kernel), writes_now (by decide +kernel), writes_now (by decide +kernel),
    writes_now (by decide +kernel), by decide +kernel, writes_now (by decide +kernel), by decide +kernel⟩

/-- Blank, with a nonce out for the host. -/
def withNonce : State := { ready with sec := { ready.sec with nonces := ready.sec.nonces.set 2 (some (zeros 16)) } }

/-- A SESSION_OPEN of level 0 whose tag is the right one: the bytes of the HMAC, which holds the opaque identity of the unit, one by one. -/
def rightTag : List Byte := hmacSha256 (zeros 32) (sessionMessage 2 0 (zeros 16) (zeros 16))
def opening : List Byte := zeros 32 ++ (List.range 32).map fun i => rightTag.getD i 0
def openItem : Item := writeItem (K.sessionOpen 2) 0 opening
def openTurn : State := atTurn 2 false [openItem] withNonce

theorem rightTag_bytes : (List.range 32).map (fun i => rightTag.getD i 0) = rightTag :=
  List.ext_getElem (by simp [rightTag]) fun i _ h => by simp [h]

theorem opening_matches (s : State) (hn : s.sec.nonces[(2 : Fin 3)] = some (zeros 16)) (hk : sessionKey s 0 = some (zeros 32)) :
    tagMatches s 2 opening = true := by
  rw [tagMatches, hn, show fieldAt 0 1 opening = 0 by decide +kernel, hk, show slice 16 16 opening = zeros 16 by decide +kernel]
  show (slice 32 32 opening == rightTag) = true
  rw [opening, rightTag_bytes, beq_iff_eq, slice, List.drop_left' (by decide)]
  rw [List.take_of_length_le (by simp [rightTag])]
  simp [rightTag]

theorem opening_fits : stateBars openTurn 2 (itemKey openItem) (.bytes opening) = none := by
  unfold stateBars
  simp only
  repeat (rw [if_neg]; rotate_left; (· decide +kernel))
  rw [if_pos (by decide +kernel)]
  have d : (⟨(itemKey openItem / 256 - 0x6020) % 3, Nat.mod_lt _ (by decide)⟩ : Fin 3) = 2 := by decide +kernel
  simp only [d, opening_matches openTurn (by decide +kernel) (by decide +kernel), show lockedOut openTurn 2 = false by decide +kernel]
  rfl

/-- A write of one write-only byte block fits: its own checks, those of the state, and those that relate entries. -/
theorem single_block_fits (i : Initiator) (level : Nat) (it : Item) (s : State) (b : List Byte)
    (own : firstFailing level [it] s = none) (r : (entryOf s (itemKey it)).map (fun row => (row.ty.isBlock, row.access)) = some (true, .wo))
    (v : unreserved (itemKey it) it.data = b) (st : stateBars s i (itemKey it) (.bytes b) = none) (na : (itemKey it == K.opAbort) = false)
    (cross : crossBars s [itemKey it] (shadowStore s) (shadowStore s) = none) (ns : inScan s = false) : writeBars i level [it] true s = none := by
  obtain ⟨row, e⟩ : ∃ row, entryOf s (itemKey it) = some row := by
    cases e : entryOf s (itemKey it) with
    | none => simp [e] at r
    | some row => exact ⟨row, rfl⟩
  simp only [e, Option.map_some, Option.some.injEq, Prod.mk.injEq] at r
  have p : putOf s it = some { key := itemKey it, row, offset := it.offset.toNat, val := .bytes b } := by
    simp [putOf, e, entryVal, decodeVal, r.1, v]
  simp [writeBars, own, p, wholeBars, itemBars, st, na, shadowPuts, r.2, putAll, cross, firstByRank, ns]

theorem opening_whole : unreserved (itemKey openItem) openItem.data = opening := by
  simp only [unreserved]
  rw [if_neg (by decide +kernel), if_neg (by decide +kernel)]
  rfl

theorem witness_session : ∃ w, Writes (.direct 2 0 0) (K.sessionOpen 2) opening withNonce 2 w :=
  ⟨openTurn, hasTurn_now (by decide +kernel),
    single_block_fits 2 _ openItem openTurn opening (by decide +kernel) (by decide +kernel) opening_whole opening_fits (by decide +kernel) (by decide +kernel) (by decide +kernel)⟩

/-- In Watch, with Principal's key and one signing key programmed. -/
def withKeys : State :=
  let s := ready.setNum K.powerState 1
  { s with sec := { s.sec with keys := (s.sec.keys.set 4 (some (zeros 32))).set 0 (some (zeros 32)) } }

theorem witness_ProtectionEntries :
    (∃ w, Writes four K.lifecycleAdvance [1] withKeys 4 w) ∧ (∃ w, Writes four K.keyProgram ([3] ++ zeros 7 ++ zeros 32) withKeys 4 w)
      ∧ (∃ w, Writes four K.keyRevoke [0] withKeys 4 w)
      ∧ (∃ row w, Reads (.direct 2 0 0) (wholeRead (K.nonce 2) 16) row ready 2 w)
      ∧ (∃ w, Writes (.direct 2 0 0) (K.sessionClose 2) [1] ready 2 w)
      ∧ (∃ w, Writes four (K.window 2) (zeros 128) ready 4 w) ∧ (∃ w, Writes four K.debugRequest [0] ready 4 w)
      ∧ ∃ w, Writes four K.debugRequest [3] withKeys 4 w :=
  ⟨writes_now (by decide +kernel), writes_now (by decide +kernel), writes_now (by decide +kernel), reads_by (by decide +kernel),
    writes_by (by decide +kernel), writes_now (by decide +kernel), writes_now (by decide +kernel), writes_now (by decide +kernel)⟩


/-! ### The array: replay, failures, debug, prefetch -/

theorem reachable_of {t : Nat} {s : State} (h : (decide (s.clk.now ≤ t) && s.bell.due.all fun d => decide (t < d)) = true) :
    Reachable t s := by
  simp only [Bool.and_eq_true, decide_eq_true_eq, Option.all_eq_true] at h
  exact ⟨h.1, fun d e => h.2 d e⟩

/-- A detection in g3 asks for a replay. -/
def replaying : State := enginesWith fun x => { x with replayAt := some 990, dets := [⟨0, 3⟩] }
theorem witness_ReplayAndHalt :
    (Reaches here replaying replaying ∧ (replaying.eng 0).used = 0 ∧ safeNow (replaying.eng 0) = true ∧ replaysNow (replaying.eng 0) = true
      ∧ (replaying.eng 0).dets ≠ [] ∧ ∀ d ∈ (replaying.eng 0).dets, d.loc = 0 ∧ d ∉ (replaying.eng 0).cause)
    ∧ (let s := enginesWith fun x => { x with haltAt := some 1000 }
       Reaches here s s ∧ safeNow (s.eng 0) = true ∧ (s.eng 0).replayAt = none ∧ (s.eng 0).switchTo = false
        ∧ ∃ c, (s.eng 0).haltAt = some c ∧ c ≤ (s.eng 0).cycle) :=
  ⟨⟨⟨by decide, by decide, rfl⟩, by decide, by decide, by decide, by decide, by decide⟩,
    ⟨by decide, by decide, rfl⟩, by decide, by decide, by decide, 1000, by decide, by decide⟩

/-- Engine 0 in service. -/
def inUse (f : Engine → Engine) : State := (enginesWith f).setNum K.enginesInService 0xFFFFFFFF
theorem witness_EngineFailures :
    bitOf ((inUse id).nat K.enginesInService) (0 : Fin 32) = true
    ∧ (let s := inUse fun x => { x with cycle := 2024, replayAt := some 1000, lastSafe := 1000 }
       Reaches here s s ∧ 1000 ∈ requestsAt (s.eng 0) ∧ 1000 + 1024 ≤ (s.eng 0).cycle ∧ (s.eng 0).lastSafe ≤ 1000
        ∧ bitOf (s.nat K.enginesInService) (0 : Fin 32) = true)
    ∧ (let s := inUse fun x => { x with replayAt := some 990, dets := [⟨1, 20⟩], cause := [⟨1, 20⟩] }
       Reaches here s s ∧ stopsHere (s.eng 0) = true ∧ replaysNow (s.eng 0) = true ∧ (s.eng 0).dets = [⟨1, 20⟩]
        ∧ (⟨1, 20⟩ : Det) ∈ (s.eng 0).cause ∧ bitOf (s.nat K.enginesInService) (0 : Fin 32) = true)
    ∧ (engines.room 3).failed = false :=
  ⟨by decide, ⟨⟨by decide, by decide, rfl⟩, by decide, by decide, by decide, by decide⟩,
    ⟨⟨by decide, by decide, rfl⟩, by decide, by decide, by decide, by decide, by decide⟩, by decide⟩

theorem witness_SpareMapping : let s := { engines with array := { engines.array with spareAt := some (5, 1000) } }
    s.array.spareAt = some (5, 1000) ∧ Reachable 1000 s := ⟨rfl, reachable_of (by decide)⟩

/-- A prefetch of 32 bytes to the last granule of data memory waits in classroom 0. -/
def fetching (kind loc : Nat) : State :=
  let x : Xfer := { eng := 0, kind, loc, offset := 0, region := 1, length := 32, recWords := 8, held := false }
  { engines with array := { engines.array with rooms := engines.array.rooms.set 0 { queue := [x] } } }
theorem witness_PrefetchArrives (kl : Nat × Nat) (h : kl ∈ [(1, 0x5FFE0), (2, 0x100000), (2, 0x2FFFE0)]) :
    ∃ x, ((fetching kl.1 kl.2).room 0).queue.find? (fun x => !x.held) = some x ∧ roomIdx x.eng = 0 ∧ x.loc % 8 = 0 ∧ x.length % 8 = 0
      ∧ ((x.kind = 1 ∧ x.loc + x.length ≤ 0x60000) ∨ (x.kind = 2 ∧ 0x100000 ≤ x.loc ∧ x.loc + x.length ≤ 0x300000)) := by
  simp only [List.mem_cons, List.not_mem_nil, or_false] at h
  rcases h with rfl | rfl | rfl <;> exact ⟨_, rfl, by decide, by decide, by decide, by decide⟩

/-- Engine 0 open to the debug module, in ENGINE_STATE `st`. -/
def debugged (st : Nat) : State :=
  let s := ((engines.setNum (K.engineState 0) st).setNum K.debugState 2).setNum K.powerState 0
  { s with tap := { s.tap with ir := 0x20 } }.onEng 0 fun x => { x with resumeTo := 1 }
theorem debugged_open (st : Nat) (h : st ≤ 3) : DebugOpen 0 (debugged st) ∧ (debugged st).nat (K.engineState (0 : Fin 32)) = st := by
  have : st = 0 ∨ st = 1 ∨ st = 2 ∨ st = 3 := by omega
  rcases this with rfl | rfl | rfl | rfl <;> exact ⟨⟨by decide, by decide, by decide, by decide⟩, by decide⟩
theorem witness_DebugStopAndGo : DebugOpen 0 (debugged 0) ∧ DebugOpen 0 (debugged 1) ∧ DebugOpen 0 (debugged 3)
    ∧ (debugged 3).nat (K.engineState (0 : Fin 32)) = 3 ∧ ((debugged 3).eng 0).resumeTo = 1 :=
  ⟨(debugged_open 0 (by decide)).1, (debugged_open 1 (by decide)).1, (debugged_open 3 (by decide)).1, (debugged_open 3 (by decide)).2, by decide⟩
theorem witness_DebugReadsAndWrites : DebugOpen 0 (debugged 3) ∧ mapped (0x5FFFC : BitVec 24).toNat = true
    ∧ (debugged 3).nat (K.engineState (0 : Fin 32)) = 3 ∧ (debugged 1).stopped = true :=
  ⟨(debugged_open 3 (by decide)).1, by decide, (debugged_open 3 (by decide)).2, by decide⟩

/-- POST of a zone record read (kind 5) by g0 to g3. -/
def posting : State := enginesWith fun x => { x with
  regs := { x.regs with g := (((x.regs.g.set 0 ⟨0x50000400, false, false⟩).set 1 ⟨0, false, false⟩).set 2 ⟨32, false, false⟩).set 3 ⟨1, false, false⟩ } }
theorem witness_PointersAndPosts : Issues here 3 posting posting ∧ LPasses lAlways 0 posting
    ∧ Clean posting 0 (posting.eng 0).regs.p[7] ∧ Clean posting 0 (posting.eng 0).regs.l[7] ∧ Clean posting 0 (posting.eng 0).regs.m[7]
    ∧ (∀ i : Fin 4, Clean posting 0 (gAt posting 0 ⟨i.val, by omega⟩) ∧ (gAt posting 0 ⟨i.val, by omega⟩).tag = false)
    ∧ (posting.eng 0).posts < 16 ∧ (posting.room 0).queue.length < 32 ∧ (posting.eng 0).noStore = false
    ∧ (xferOf 0x50000400 0 32 1 0 posting).isSome = true :=
  ⟨⟨by decide, by decide, rfl, by decide, by decide, by decide⟩, lpasses_always _, ⟨by decide, by decide⟩, ⟨by decide, by decide⟩,
    ⟨by decide, by decide⟩, fun i => ⟨⟨by revert i; decide, by decide⟩, by revert i; decide⟩, by decide, by decide, by decide, by decide⟩

/-! ### Bells, launch, time -/

/-- Armed for a start at 2 ms; running, with the next start at 3 ms; the last bell suppressed; and a stop asked for. -/
def armed : State := ((ready.setNum K.bellState 1).setNum K.bellRun 1) |> fun s => { s with bell := { s.bell with due := some 2000000 } }
def stopAsked (s : State) : State := { s with bell := { s.bell with stopAt := some 1000 } }
def suppressedNow : State := { ringing with bell := { ringing.bell with acquiring := ringing.bell.acquiring.map fun b => { b with suppressed := true } } }

theorem witness_BellsStart : armed.bell.due = some 2000000 ∧ (armed.nat K.bellState == 1) = true ∧ stopBefore 2000000 armed = false
    ∧ ringing.bell.due = some 3000000 ∧ (ringing.nat K.bellState == 1) = false ∧ ringing.running = true
    ∧ ringing.bell.acquiring.any BellRec.suppressed = false := by decide +kernel
theorem witness_BellsEnd : (stopAsked armed).bell.due = some 2000000 ∧ (stopAsked armed).nat K.bellState = 1
    ∧ stopBefore 2000000 (stopAsked armed) = true ∧ suppressedNow.bell.due = some 3000000 ∧ suppressedNow.running = true
    ∧ suppressedNow.bell.acquiring.any BellRec.suppressed = true ∧ ready.dict.shadow = [] ∧ ready.tt.decided = none := by decide +kernel

/-- Bell 7 with `f` done to what is acquired, at `t` ns. -/
def acquiring (t : Nat) (f : BellRec → BellRec) : State :=
  { ringing with clk := { ringing.clk with now := t }, bell := { ringing.bell with acquiring := ringing.bell.acquiring.map f } }
def acquiredRec (f : BellRec → BellRec) : BellRec := f (ringing.bell.acquiring.getD {})

/-- The launch window closes 2 µs after the bell start: with an edge at 400 ns, and with none. -/
theorem witness_LaunchInstant :
    let s := acquiring 2000500 id
    let b := acquiredRec id
    s.bell.acquiring = some b ∧ b.suppressed = false ∧ b.launchFixed = false ∧ Reachable (b.startAt + 2000) s
      ∧ (∀ l : Fin 8, natIn b.settings (K.darkCheck l) ≠ 1 ∨ (s.drive.lines[l]).darkRun < 2)
      ∧ (acquiredRec fun b => { b with launchEdge := some 51200 }).launchEdge = some 51200 :=
  ⟨rfl, by decide +kernel, by decide +kernel, reachable_of (by decide +kernel), fun l => .inr (by revert l; decide +kernel), rfl⟩

/-- 1,024 points of 4 ns: the window closes at 7.120 µs, the trace end is known at 9.120 µs, the offsets at 11.096 µs. -/
theorem witness_TraceAcquired :
    let s := acquiring 2002000 fun b => { b with launchFixed := true, settings := (ready.setNum K.offsetTrack 1).dict.store }
    let b := acquiredRec fun b => { b with launchFixed := true, settings := (ready.setNum K.offsetTrack 1).dict.store }
    let n := b.header.points * tsOf b.header.mode
    s.bell.acquiring = some b ∧ b.suppressed = false ∧ b.launchFixed = true ∧ b.windowClosed = false ∧ b.endKnown = false
      ∧ b.offsetDone = false ∧ natIn b.settings K.offsetTrack = 1 ∧ Reachable (b.startAt + (n + 3024)) s
      ∧ Reachable (b.startAt + (n + 5024)) s ∧ Reachable (b.startAt + (n + 7000)) s :=
  ⟨rfl, by decide +kernel, by decide +kernel, by decide +kernel, by decide +kernel, by decide +kernel, by decide +kernel,
    reachable_of (by decide +kernel), reachable_of (by decide +kernel), reachable_of (by decide +kernel)⟩

/-- With a lesson for engine 0, which is in service. -/
def teaching (s : State) : State :=
  { s.setNum K.enginesInService 1 with tt := { s.tt with slots := s.tt.slots.set 0 { image := tinyImage } } }
theorem witness_LessonsStartAndStop :
    (hasLesson (teaching (acquiring 2000500 id)) 0 = true ∧ inService (teaching (acquiring 2000500 id)) 0 = true
      ∧ hasLesson (teaching (acquiring 2100000 id)) 0 = true ∧ inService (teaching (acquiring 2100000 id)) 0 = true)
    ∧ (let s := teaching (acquiring 2000500 id)
     let b := acquiredRec id
     s.bell.acquiring = some b ∧ s.bell.processing.any (fun p => !p.header.has .switching) = true ∧ b.lessonStarted = false
       ∧ Reachable (b.startAt + cyclesNs s 1000) s)
    ∧ (let s := teaching (acquiring 2100000 fun b => { b with lessonStarted := true })
       let b := acquiredRec fun b => { b with lessonStarted := true }
       s.bell.acquiring = some b ∧ b.deadlineDone = false ∧ Reachable (b.startAt + cyclesNs s (deadlineCycle s b.period)) s)
    ∧ (let w : Switch := { slot := 1, kind := 0, bell := none, load := 0, started := true, endsAt := 5000000 }
       let s := { ready with tt := { ready.tt with switching := some w } }
       s.tt.switching = some w ∧ w.done = false ∧ Reachable w.endsAt s ∧ s.stopped = true ∧ s.dict.shadow = [] ∧ s.tt.decided = none)
    ∧ (let w : Switch := { slot := 1, kind := 0, bell := some 9, load := 1, started := true, endsAt := 2500000 }
       let s := { ringing with tt := { ringing.tt with switching := some w } }
       s.tt.switching = some w ∧ w.done = false ∧ Reachable w.endsAt s ∧ s.stopped = false) :=
  ⟨⟨by decide +kernel, by decide +kernel, by decide +kernel, by decide +kernel⟩,
    ⟨rfl, by decide +kernel, by decide +kernel, reachable_of (by decide +kernel)⟩,
    ⟨rfl, by decide +kernel, reachable_of (by decide +kernel)⟩,
    ⟨rfl, rfl, reachable_of (by decide +kernel), by decide +kernel, by decide +kernel, by decide +kernel⟩,
    ⟨rfl, rfl, reachable_of (by decide +kernel), by decide +kernel⟩⟩

theorem witness_ReferenceStates (r : Fin 5) : (ready.setNum K.refState r.val).nat K.refState = r.val := by revert r; decide +kernel

/-- The servo, on PPS edges, tracks; its last measurement was at 0. -/
def tracking : State := ((ready.setNum K.timeSource 1).setNum K.timeState 2).setNum K.fineCalPeriod 60
theorem witness_TimeSource :
    (let s := tracking.setNum K.timeState 1
     s.nat K.timeSource = 1 ∧ s.nat K.timeState = 1)
    ∧ (tracking.nat K.timeSource ≠ 0 ∧ tracking.nat K.timeState = 2 ∧ Reachable (tracking.servo.lastMeasure + 2000000000) tracking)
    ∧ Reachable (tracking.tdc.lastCal + tracking.nat K.fineCalPeriod * 1000000000) tracking :=
  ⟨by decide +kernel, ⟨by decide +kernel, by decide +kernel, reachable_of (by decide +kernel)⟩, reachable_of (by decide +kernel)⟩

/-- Channel 7 stamps rising edges; one stamp waits in its queue, or 512 do. -/
def stamping (n : Nat) : State :=
  let s := (ringing.setNum K.tdcEnable 0x80).setNum (K.slope 7) 1
  { s with tdc := { s.tdc with chan := s.tdc.chan.set 7 { queue := List.replicate n 0x123456789ABCDEF0, lastEdge := some 128 } } }
theorem witness_EdgeStamps :
    bitOf ((stamping 511).nat K.tdcEnable) (7 : Fin 8) = true ∧ bitOf ((stamping 511).nat (K.slope 7)) 0 = true
      ∧ ((stamping 511).tdc.chan[(7 : Fin 8)]).tooClose (128 * (stamping 511).clk.now) = false
      ∧ ((stamping 511).tdc.chan[(7 : Fin 8)]).queue.length = 511 ∧ (stamping 511).nat (K.owner 7) = 0
      ∧ ((stamping 512).tdc.chan[(7 : Fin 8)]).queue.length = 512
      ∧ ((stamping 1).tdc.chan[(7 : Fin 8)]).tooClose (128 + 639) = true := by decide +kernel
theorem witness_StampQueues : CoreMay 0 0 (0x40030000 + 0x10 * 7 + 4) 0 (stamping 1) ∧ CoreMay 1 0 (0x40030000 + 0x10 * 7 + 4) 0 (stamping 1)
    ∧ CoreMay 1 1 (0x40030000 + 0x10 * 7) 0 (stamping 1) ∧ ((stamping 1).tdc.chan[(7 : Fin 8)]).queue = 0x123456789ABCDEF0 :: [] :=
  ⟨may_of (by decide +kernel), may_of (by decide +kernel), may_of (by decide +kernel), by decide +kernel⟩
theorem witness_StatusClear_control : coreActs 0 (stamping 1) = true := by decide +kernel

/-- TDC_POP_LO of the control core takes the oldest stamp's low half (R51). -/
theorem test_tdc_pop : ∃ u, exec (.tdcPopLo 0 7) (stamping 1) = .next u ∧ u.tdc.lastRead = 0x9ABCDEF0 ∧ (u.tdc.chan[(7 : Fin 8)]).queue = [] :=
  ⟨_, rfl, by decide +kernel⟩

/-! ### Power, the dictionary, the drive, the ends of long work -/

theorem witness_Power :
    (∃ w, Writes four K.powerRequest [0] (ready.setNum K.powerState 1) 4 w) ∧ (∃ w, Writes four K.powerRequest [1] ready 4 w)
      ∧ (∃ w, Writes four K.powerRequest [2] (ready.setNum K.powerState 1) 4 w)
      ∧ ∃ w, Writes four K.powerRequest [3] (ready.setNum K.powerState 1) 4 w :=
  ⟨writes_now (by decide +kernel), writes_now (by decide +kernel), writes_now (by decide +kernel), writes_now (by decide +kernel)⟩

def entryItem (k : Key) (op : BitVec 8) (n : Nat) : Item :=
  { index := BitVec.ofNat 16 (k / 256), sub := BitVec.ofNat 8 (k % 256), op, length := BitVec.ofNat 32 n }
def block? (i : Initiator) (it : Item) (s : State) : Option (Bool × Bool) :=
  if turnComes i false [it] s then
    match readChecks (atTurn i false [it] s) i (levelOf' (atTurn i false [it] s) i) it with
    | .ok row => some (row.ty.isBlock, decide (row.ty = .dom))
    | .error _ => none
  else none

/-- The last block of the profiler, 64 bytes, with a good word of the barn under it, or a bad one. -/
def blocked (m : WordMark) : State :=
  let s := ready.setBlock K.lastBlock (zeros 64)
  setMark (blockPlace s + 8) m s
/-- A scalar, its shadow, a byte block (one that is in the barn too, good and bad), and an entry that does not exist. -/
theorem witness_DictionaryReads :
    block? 4 (entryItem K.launchDelay 1 4) ready = some (false, false) ∧ block? 4 (entryItem K.launchDelay 3 4) ready = some (false, false)
      ∧ block? 4 (entryItem (K.zoneBlock 0) 1 2048) ready = some (true, true)
      ∧ block? 4 (entryItem K.lastBlock 1 64) (blocked .damaged) = some (true, true)
      ∧ (let t (m : WordMark) : State := atTurn 4 false [entryItem K.lastBlock 1 64] (blocked m)
         readsMarked (refreshBlock K.lastBlock (t .damaged)) K.lastBlock 0 64 = true
          ∧ readsMarked (refreshBlock K.lastBlock (t .good)) K.lastBlock 0 64 = false)
      ∧ turnComes 4 false [entryItem 0xFFFFFF 1 2] ready = true ∧ block? 4 (entryItem 0xFFFFFF 1 2) ready = none := by decide +kernel

def rwb? (items : List Item) (s : State) : Bool :=
  (items.filterMap (putOf (atTurn 4 (decide (1 < items.length)) items s))).all fun p => p.row.access = .rwb
def now? (items : List Item) (s : State) : Bool :=
  let puts := items.filterMap (putOf (atTurn 4 (decide (1 < items.length)) items s))
  puts.length == items.length && puts.all Put.immediate
def dwells (a b : Byte) : List Item := [writeItem K.returnDwell 0 [a, 0], writeItem K.slewLimit 0 [b, 0x30, 0, 0], writeItem K.slewLimit 0 [9, 0x20, 0, 0]]
def delays (a b : Byte) : List Item := [writeItem K.launchDelay 0 [a, 0, 0, 0], writeItem (K.gateDelay 1) 0 [b, 0]]
/-- One write, a group of two, of waiting entries and of ones in effect at once, one of them twice; and both refused: a value out of range in
one item. -/
theorem witness_DictionaryWrites :
    accepted 4 false [writeItem K.launchDelay 0 [0x20, 3, 0, 0]] ready = true ∧ rwb? [writeItem K.launchDelay 0 [0x20, 3, 0, 0]] ready = true
      ∧ accepted 4 true (delays 1 2) ready = true ∧ rwb? (delays 1 2) ready = true
      ∧ accepted 4 false [writeItem K.slewLimit 0 [9, 0x20, 0, 0]] ready = true ∧ now? [writeItem K.slewLimit 0 [9, 0x20, 0, 0]] ready = true
      ∧ accepted 4 true (dwells 60 8) ready = true ∧ now? (dwells 60 8) ready = true
      ∧ turnComes 4 false [writeItem K.timeSource 0 [9]] ready = true ∧ accepted 4 false [writeItem K.timeSource 0 [9]] ready = false
      ∧ turnComes 4 true (delays 1 2 ++ [writeItem (K.pass 1) 0 [9]]) ready = true
      ∧ accepted 4 true (delays 1 2 ++ [writeItem (K.pass 1) 0 [9]]) ready = false := by decide +kernel

/-- Two waiting writes of one entry. -/
def shadowed : State := { ready with dict := { ready.dict with shadow :=
  [{ csn := 1, at_ := 0, values := [(K.launchDelay, .num 5)] }, { csn := 2, at_ := 0, values := [(K.launchDelay, .num 7)] }] } }
theorem witness_PortAndShadow : CoreMay 1 1 0x4001F000 5 ready ∧ CoreMay 1 1 0x4001F004 5 ready ∧ unnamedWaits ready = false
    ∧ coreActs 1 (ready.setNum K.appCoreState 0) = false ∧ ready.dict.portBusy = false ∧ (ready.dict.waiting[(3 : Fin 5)]).isSome = false
    ∧ (1 : BitVec 32).getLsbD 0 = true :=
  ⟨may_of (by decide +kernel), may_of (by decide +kernel), by decide +kernel, by decide +kernel, by decide +kernel, by decide +kernel, by decide⟩
/-- An empty buffer spells a request that breaks R343, and it has the next turn. -/
theorem witness_port_malformed : let req := parseRequest (zeros 20480)
    malformed req = true ∧ serialTurn (presentRequest 3 req .port { ready with dict := { ready.dict with portBusy := true } }) = some (.place 3) := by
  decide +kernel
theorem witness_ShadowApply : shadowed.stopped = true ∧ shadowed.tt.switching = none ∧ shadowed.tt.decided = none
    ∧ (∀ e ∈ shadowed.dict.shadow.flatMap ShadowWrite.values, bellCommitted e.1 = true) ∧ bellCommitted K.launchDelay = true
    ∧ ringing.stopped = false := by decide +kernel
/-- The later of two waiting writes stays (R348). -/
theorem test_shadow_order : ∃ u, exec .shadowApplyStopped shadowed = .next u ∧ u.nat K.launchDelay = 7 ∧ u.nat K.csnInEffect = 2 :=
  ⟨_, rfl, by decide +kernel⟩

/-- Line 7 driven in mode `m`, with `f` done to it. -/
def lit (m : Nat) (f : Line → Line) (s : State) : State :=
  let s := (s.setNum (K.mode 7) m).setNum (K.gateDelay 7) 50000
  { s with drive := { s.drive with applied := true, lines := s.drive.lines.set 7 (f s.drive.lines[(7 : Fin 8)]) } }

/-- Where a proving pulse comes: no conduction; one without end; one that outlasts the pulse; one that ends within it. -/
def conducting : List (Option Nat × Option Nat) := [(none, none), (some 2040000, none), (some 2040000, some 2090000), (some 2040000, some 2049000)]

theorem witness_Conduction :
    (pwmCounts (lit 2 id ready) 7 = true ∧ ((lit 2 id ready).drive.lines[(7 : Fin 8)]).pwmFrom = none ∧ driven (lit 2 id ready) 7 = true)
    ∧ (let s := lit 2 (fun x => { x with pwmFrom := some 2039000, removed := true }) ringing
       pwmCounts s 7 = true ∧ driven s 7 = false ∧ Reachable (2039000 + 4 * pwmTicks s 7) s)
    ∧ (let s := lit 3 id ringing
       s.bell.acquiring.any (fun b => !b.suppressed && b.startAt == 2000000) = true ∧ driven s 7 = true ∧ inWatch s = false ∧ lineMode s 7 = 3
        ∧ (s.drive.lines[(7 : Fin 8)]).fired = false ∧ Reachable (2000000 + s.nat (K.gateDelay 7)) s)
    ∧ (let s := lit 3 (fun x => { x with conductFrom := some 2050000, conductUntil := some 2051000 }) ringing
       lineMode s 7 = 3 ∧ Reachable 2051000 s)
    ∧ (∀ c ∈ conducting, let s := lit 3 (fun x => { x with conductFrom := c.1, conductUntil := c.2 }) ready
       needsProof s 7 = true ∧ proofDue s 7 = some (1000000 * s.nat K.provePeriod) ∧ s.bell.due = none ∧ s.clk.now ≤ 1000000 * s.nat K.provePeriod)
    ∧ (let s := { ready with drive := { ready.drive with holdOff := true } }
       s.drive.holdOff = true ∧ Reachable (s.drive.roseAt + 10000000) s)
    ∧ Reachable (ready.drive.lastAverage + 100000) ready
    ∧ (let s := { ready with drive := { ready.drive with capNext := [(200, 1000), (180, 101000)] } }
       s.drive.capNext = (200, 1000) :: [(180, 101000)] ∧ Reachable (1000 + 500000) s)
    ∧ (let s := { ready.setNum K.capScale 200 with drive := { ready.drive with below135 := some 0 } }
       s.drive.below135 = some 0 ∧ s.running = false ∧ s.nat K.capScale < 255 ∧ Reachable (max (0 + 10000000) (s.drive.lastRaise + 1000000)) s) :=
  ⟨⟨by decide +kernel, by decide +kernel, by decide +kernel⟩, ⟨by decide +kernel, by decide +kernel, reachable_of (by decide +kernel)⟩,
    ⟨by decide +kernel, by decide +kernel, by decide +kernel, by decide +kernel, by decide +kernel, reachable_of (by decide +kernel)⟩,
    ⟨by decide +kernel, reachable_of (by decide +kernel)⟩, by decide +kernel,
    ⟨by decide +kernel, reachable_of (by decide +kernel)⟩, reachable_of (by decide +kernel), ⟨by decide +kernel, reachable_of (by decide +kernel)⟩,
    by decide +kernel, by decide +kernel, by decide +kernel, reachable_of (by decide +kernel)⟩

theorem own_free {s : State} (h : (s.cores.controlAlive && serialiserRuns s && s.policy.jobs.isEmpty
    && decide (∀ i : Initiator, s.dict.waiting[i] = none) && (mailRequest s 0).isNone && (mailRequest s 1).isNone && !reportWaits s) = true) :
    OwnFree s := by
  simp only [Bool.and_eq_true, List.isEmpty_iff, decide_eq_true_eq, Option.isNone_iff_eq_none, Bool.not_eq_true'] at h
  obtain ⟨⟨⟨⟨⟨⟨a, b⟩, c⟩, d⟩, e⟩, f⟩, g⟩ := h
  exact ⟨a, b, c, d, e, f, g⟩

theorem witness_LineFaults :
    (let s := lit 1 (fun x => { x with conductFrom := some 2050000 }) ringing
     s.nat K.lineDisable ≠ 1 ∧ judgementDue s.drive.lines[(7 : Fin 8)] = some 2051500 ∧ Reachable 2051500 s)
    ∧ (let s := ((lit 1 (fun x => { x with conductFrom := some 2050000 }) ringing).setNum K.lineDisable 1).setNum (K.lineSet 7) 255
       s.nat K.lineDisable = 1 ∧ judgementDue s.drive.lines[(7 : Fin 8)] = some 2051500 ∧ Reachable 2051500 s
        ∧ LineFault.openLine ∈ judge s 7 (onCurrent s 7) (0 * 100) 0 false ∧ (s.drive.lines[(7 : Fin 8)]).openF = false
        ∧ s.policy.disabled.getLsbD (7 : Fin 8) = false)
    ∧ (let s := lit 3 (fun x => { x with proving := some 2050000 }) ringing
       s.nat K.lineDisable ≠ 1 ∧ (s.drive.lines[(7 : Fin 8)]).proving = some 2050000 ∧ Reachable (2050000 + 1500) s)
    ∧ ready.drive.interlockLow = false ∧ State.reset.drive.interlockLow = true
    ∧ OwnFree ((lit 1 (fun x => { x with conductFrom := some 2050000 }) ringing).setNum K.lineDisable 1) :=
  ⟨⟨by decide +kernel, by decide +kernel, reachable_of (by decide +kernel)⟩,
    ⟨by decide +kernel, by decide +kernel, reachable_of (by decide +kernel), by decide +kernel, by decide +kernel, by decide +kernel⟩,
    ⟨by decide +kernel, by decide +kernel, reachable_of (by decide +kernel)⟩, by decide +kernel, by decide +kernel, own_free (by decide +kernel)⟩

/-- Long work near its end. -/
def working : State :=
  let s := ringing.setNum K.capState 2
  { s with
    capture := { s.capture with capturing := 7, length := 4 },
    chain := { s.chain with samples := [⟨1, 2, 3, 4⟩], samplesBell := 7, calSince := some 0 },
    raman := { s.raman with complete := [({ points := 2, short := true }, 2000000)] },
    profiler := { s.profiler with ended := some { points := 1 } },
    fibre := { s.fibre with learnLeft := 1 },
    granary := { s.granary with harvests := (detecting.granary.harvests.map fun h => { h with complete := false }) } }
theorem witness_WorkEnds :
    working.nat K.capState = 2 ∧ (capturedBell working).isSome = true
      ∧ (let s := { working with capture := { working.capture with taken := some {} } }
         capturedBell s = some {} ∧ s.capture.taken = some {} ∧ s.nat K.capState = 2) ∧ working.raman.complete.length = 1 ∧ working.profiler.ended.isSome = true
      ∧ working.fibre.learnLeft = 1 ∧ working.chain.calSince = some 0
      ∧ Reachable (0 + 3200000) { working with bell := { working.bell with due := some 4000000 } }
      ∧ (working.granary.harvests.any fun h => h.seq == (3 : BitVec 32).toNat && h.forming && !h.complete) = true :=
  ⟨by decide +kernel, by decide +kernel, by decide +kernel, by decide +kernel, by decide +kernel, by decide +kernel, by decide +kernel,
    reachable_of (by decide +kernel), by decide +kernel⟩

/-! ### Housekeeping, the barn, the interrupt controller, the cores, the policy -/

/-- The housekeeper: timer armed, an on-time start waiting; its slot 0 is inputs 0 and 12, one sample, settled after 100 ns × 2. -/
def keeping : State :=
  let s := (ringing.setNum K.hkMode 1).setNum (K.slot 0) (12 * 2 ^ 48 + 2 * 2 ^ 32 : Nat)
  { s with hk := { s.hk with calBusy := false, nextTimer := some 2500000, edges := [2050000] } }
def converting (n : Nat) : State :=
  let s := keeping.setNum K.hkSeqLength 2
  { s with hk := { s.hk with running := true, slot := 0, slotStart := 2040000, raws := List.replicate n (1000, 1000),
                             settings := s.dict.store } }
/-- The window of the application core permits nothing; a core is not at work. -/
def shut (s : State) : State := { s with sec := { s.sec with windows := s.sec.windows.set 0 (zeros 128) } }
def still (s : State) : State := { s.setNum K.appCoreState 0 with cores := { s.cores with controlAlive := false } }
theorem barred_of {core : Fin 2} {k a dt : Nat} {s : State} (h : (coreActs core s && (!pmpPermits ((coreArrives core dt s).hart core) k a 4
    || (core == 1 && !windowPermits (coreArrives core dt s) 0 k a 4))) = true) : CoreBarred core k a dt s := by
  simp only [Bool.and_eq_true, Bool.or_eq_true, beq_iff_eq, Bool.not_eq_true'] at h
  exact h

theorem witness_HousekeepingStarts :
    (keeping.hk.nextTimer = some 2500000 ∧ natIn (startSettings keeping) K.hkMode = 1 ∧ Reachable 2500000 keeping)
    ∧ (ready.hk.nextTimer = none ∧ natIn (startSettings ready) K.hkMode ≠ 2 ∧ ready.hk.edges = [])
    ∧ (let s := keeping.setNum K.hkMode 2
       s.hk.edges = 2050000 :: [] ∧ natIn (startSettings s) K.hkMode = 2 ∧ natIn (startSettings s) K.hkMode ≠ 1
        ∧ Reachable ((2050000 + 10 * natIn (startSettings s) K.pwmDelay + 3) / 4 * 4) s)
    ∧ CoreMay 1 1 0x40040004 0 keeping ∧ CoreMay 1 1 0x40040000 0 keeping ∧ (1 : BitVec 32).getLsbD 0 = true
    ∧ coreActs 0 keeping = true ∧ CoreBarred 1 1 0x40040004 0 (shut keeping) ∧ CoreBarred 1 1 0x40040000 0 (shut keeping)
    ∧ (∀ c, coreActs c (still keeping) = false) :=
  ⟨⟨by decide +kernel, by decide +kernel, reachable_of (by decide +kernel)⟩, by decide +kernel,
    ⟨by decide +kernel, by decide +kernel, by decide +kernel, reachable_of (by decide +kernel)⟩,
    may_of (by decide +kernel), may_of (by decide +kernel), by decide, by decide +kernel, barred_of (by decide +kernel), barred_of (by decide +kernel),
    by decide +kernel⟩

/-- The slot in progress, of the inputs 0 and 12, has its conversion: with `w` as its word, and changed by `f`. -/
def slotDone (w : Nat) (f : Housekeeping → Housekeeping) : State :=
  let s := converting 1
  { s with hk := f { s.hk with settings := (s.setNum (K.slot 0) w).dict.store } }
def plainSlot : Nat := 12 * 2 ^ 48 + 2 * 2 ^ 32
def slotEnds (s : State) : Bool :=
  let w := runSlot s s.hk.slot
  s.hk.running && decide (s.hk.raws.length = slotConversions w) && decide (slotA w < 48 ∨ slotA w = 255) && decide (slotB w < 48 ∨ slotB w = 255)
    && decide (s.clk.now ≤ s.hk.slotStart + slotLength w) && (match s.bell.due with
      | some d => decide (s.hk.slotStart + slotLength w < d)
      | none => true)
/-- A slot of two inputs, of one, a test slot, the thermal input twice, one before a waiting self-calibration, and the last of a run that
ends, goes on, or ends with its settings changed. -/
theorem witness_HousekeepingSlots :
    (let s := converting 0
     s.hk.running = true ∧ s.hk.raws.length < slotConversions (runSlot s 0)
      ∧ Reachable (s.hk.slotStart + slotSettle (runSlot s 0) * 100 + s.hk.raws.length * 1000) s)
    ∧ slotEnds (slotDone plainSlot id) = true ∧ slotTest plainSlot = false ∧ slotA plainSlot ≠ slotB plainSlot
    ∧ slotEnds (slotDone (255 * 2 ^ 48 + 2 * 2 ^ 32) id) = true
    ∧ slotEnds (slotDone (plainSlot + 2 ^ 27) id) = true ∧ slotTest (plainSlot + 2 ^ 27) = true
    ∧ slotEnds (slotDone (0x23 * 2 ^ 56 + 0x23 * 2 ^ 48 + 2 * 2 ^ 32) id) = true
    ∧ slotEnds (slotDone plainSlot fun h => { h with calWaits := true }) = true
    ∧ slotEnds ((slotDone plainSlot fun h : Housekeeping => { h with settings := ((slotDone plainSlot id).setNum K.hkSeqLength 1).hk.settings }).setNum K.hkMode 3) = true
    ∧ (∃ k ∈ hkStartKeys, valIn (slotDone plainSlot id).hk.settings k ≠ valIn ((slotDone plainSlot id).setNum K.timerPeriod 7).dict.store k)
    ∧ (let s := { ready with hk := { ready.hk with calSince := some 0, renewWaits := true } }
       s.hk.calSince = some 0 ∧ Reachable (0 + 1600000) s ∧ s.hk.renewWaits = true
        ∧ (∀ i < 68, factorOk i ((List.replicate 68 0).set i (if i = 0 ∨ i = 2 then 2048 else 31130) |>.getD i 0) = true)
        ∧ factorOk 0 2049 = false ∧ factorOk 1 31129 = false ∧ factorOk 67 34406 = true) :=
  ⟨⟨by decide +kernel, by decide +kernel, reachable_of (by decide +kernel)⟩, by decide +kernel, by decide, by decide, by decide +kernel, by decide +kernel,
    by decide, by decide +kernel, by decide +kernel, by decide +kernel, ⟨K.timerPeriod, by decide +kernel, by decide +kernel⟩,
    ⟨by decide +kernel, reachable_of (by decide +kernel), by decide +kernel, by decide +kernel, by decide +kernel, by decide +kernel, by decide +kernel⟩⟩

/-- A trained barn of two channels. Channel 1 has a scheduled read of line 1 and a background read of line 3 before it, and a write of two
bytes of line 4. -/
def served : State :=
  let s := (ready.setNum (K.trainingState 0) 2).setNum (K.trainingState 1) 2
  let s := { s with barn := { s.barn with inUse := ((State.reset.setNum (K.populated 0) 1).setNum (K.populated 1) 1).dict.store } }
  let q : List BarnReq := [{ requester := 8, scheduled := false, line := 3, write := false, at_ := 0 }, { requester := 1, scheduled := true, line := 1, write := false, at_ := 0 }]
  let w : BarnWrite := { line := 4, bytes := [(0, 0xAA), (63, 0x55)], requester := 9, at_ := 0 }
  { s with clk := { s.clk with now := 7000 }, barn := { s.barn with chans := s.barn.chans.set 0 { queue := q, writes := [w], burst := true } } }
/-- A read and a write of line 5 came in this very ns. -/
def arrived : State := served.onChan 0 fun x => { x with arrivals := [
  { at_ := 7000, requester := 8, scheduled := false, line := 5, bytes := [(3, 9)], data := zeros 64, given := [] }] }
/-- Below, at and above BARN_BYTES; each state of the barn; a core outside its area, at work or not; a read and a write before and after one of
the same instant; a write queue with and without room. -/
theorem witness_BarnRequests :
    (∀ st : Fin 4, barnState (served.setNum K.barnState (2 + st.val)) = 2 + st.val) ∧ 64 * (3 : BitVec 29).toNat < served.nat K.barnBytes
    ∧ (let s := served.setNum K.barnBytes (2 ^ 34 : Nat)
       s.nat K.barnBytes ≤ 64 * (2 ^ 28 : BitVec 29).toNat ∧ 64 * (2 ^ 28 - 1 : BitVec 29).toNat < s.nat K.barnBytes)
    ∧ requesterMay 10 3 served = false ∧ coreActs 1 served = true
    ∧ requesterMay 9 3 (still served) = false ∧ coreActs 0 (still served) = false
    ∧ requesterMay 9 3 served = true ∧ requesterMay 13 3 served = true ∧ requesterMay 10 (areaBase served 6 / 64) served = true
    ∧ (({ served with barn := { served.barn with idleFrom := some 0 } }).barn.idleFrom).isSome = true
    ∧ acceptedAfter (served.chan 0) 7000 5 (true, 1) = [] ∧ (acceptedAfter (arrived.chan 0) (arrived.elapse 0).clk.now 5 (true, 1)).length = 1
    ∧ chanOf served 5 = 0
    ∧ (served.chan 0).writes.length < 64 ∧ (queuedWrite served 4).isSome = true ∧ (∀ o ∈ (served.chan 0).writes, o.at_ ≠ 7000) := by
  decide +kernel
/-- The same with word 5 of line 1 marked. -/
def servedWith (m : WordMark) : State := setMark (64 * 1 + 8 * 5) m served
theorem witness_BarnReads :
    (nextRead (served.chan 0) = some 1
      ∧ ((served.chan 0).queue[1]?).any (fun r => chanOf served r.line == 0 && r.scheduled && decide (r.at_ + 6020 < (served.elapse 0).clk.now)) = true
      ∧ (∃ q ∈ (served.chan 0).queue, q.scheduled = true) ∧ (∀ w < 8, wordMark served (64 * 1 + 8 * w) = .good))
    ∧ (∀ m ∈ [WordMark.poison, WordMark.damaged], nextRead ((servedWith m).chan 0) = some 1 ∧ wordMark (servedWith m) (64 * 1 + 8 * 5) = m
        ∧ ∀ k < 8, k ≠ 5 → wordMark (servedWith m) (64 * 1 + 8 * k) = .good)
    ∧ (let x : BarnChan := { queue := [{ requester := 12, scheduled := false, line := 3, write := false, at_ := 0, given := List.range 64 },
                                       { requester := 4, scheduled := false, line := 2, write := false, at_ := 0 }], lastTurn := 9 }
       nextRead x = some 0 ∧ (∀ q ∈ x.queue, q.scheduled = false) ∧ x.lastTurn < 14 ∧ (∀ q ∈ x.queue, q.requester < 14)
        ∧ (x.queue[0]?).any BarnReq.full = true)
    ∧ (∀ m : WordMark, m ≠ .good → (({ requester := 9, scheduled := false, line := 3, write := false, at_ := 0, marks := some [(5, m)] } : BarnReq).marks.getD
        (lineMarks served 3)) = [(5, m)]) := by
  refine ⟨by decide +kernel, by decide +kernel, by decide +kernel, fun m _ => rfl⟩
theorem witness_BarnWrites :
    (served.chan 0).burst = true ∧ (served.chan 0).writes = [{ line := 4, bytes := [(0, 0xAA), (63, 0x55)], requester := 9, at_ := 0 }]
    ∧ ((served.chan 0).writes.map fun w => decide (w.bytes.map Prod.fst).Nodup && w.bytes.all fun b => decide (b.1 < 64)) = [true]
    ∧ (∀ i < 64, ¬(logPlace served ≤ 64 * 4 + i ∧ 64 * 4 + i < logPlace served + 1024))
    ∧ wordMark (setMark (64 * 4) .damaged served) (64 * 4) ≠ .good := by
  decide +kernel
/-- A background read came in this very ns. -/
def sameCycle : State := served.onChan 0 fun _ => { queue := [{ requester := 8, scheduled := false, line := 3, write := false, at_ := 7000 }] }
/-- A read of the scheduled class is in the queue before a background one of its own cycle (R311). -/
theorem test_accepted_first : ∃ u, exec (.barnRequest 1 5 none 0) sameCycle = .next u ∧ (u.chan 0).queue.map BarnReq.requester = [1, 8] :=
  ⟨_, rfl, by decide +kernel⟩
/-- The bank map of Example 12-1, of two 16 GiB channels. -/
def mappedBarn : State :=
  let m := [0xFFFFFFFF1B171307, 0xFFFFFFFFFFFFFFFF, 0xFFFFFFFFFF181408, 0xFFFFFFFFFF161206, 0xFFFFFFFFFF1C1A0E, 0xFFFFFFFFFF19150D]
  let s := m.zipIdx.foldl (fun (s : State) (e : Nat × Nat) => s.setNum (K.addrMap e.2) e.1) ((ready.setNum (K.populated 0) 1).setNum (K.populated 1) 1)
  { served with barn := { served.barn with inUse := s.dict.store } }
/-- Example 12-1: where barn address 0x3_5A7C_9E40 lies, and the next line's channel and bank group. -/
theorem test_bank_map :
    placeOf mappedBarn (0x35A7C9E40 / 64) = { rank := 0, group := 3, bank := 2, row := 0xD69F, col := 0x0F8 }
      ∧ chanOf mappedBarn (0x35A7C9E40 / 64) = 0 ∧ chanOf mappedBarn (0x35A7C9E80 / 64) = 1
      ∧ (placeOf mappedBarn (0x35A7C9E80 / 64)).group = 2 := by decide +kernel
theorem witness_BarnUpkeep :
    (chanInUse served 0 = true ∧ barnAwake served = true
      ∧ Reachable ((served.chan 0).lastRefresh[earliest served 0 (served.chan 0).lastRefresh] + refreshInterval served) { served with clk := { served.clk with now := 0 } })
    ∧ (let v := served.elapse 300000000000
       barnAwake v = true ∧ recalDue v 0 0 = true ∧ recalRank v 0 = some 0)
    ∧ (let s := served.setNum K.scrubPeriod 1
       s.nat K.scrubPeriod ≠ 0 ∧ barnAwake (s.elapse 1000000000) = true
        ∧ s.barn.lastScrub + s.nat K.scrubPeriod * 1000000000 ≤ (s.elapse 1000000000).clk.now)
    ∧ (let s := { ready.setNum K.powerState 2 with barn := { ready.barn with idleFrom := some 0 } }
       s.barn.idleFrom = some 0 ∧ s.nat K.powerState = 2 ∧ barnAwake s = true ∧ (s.chan 0).queue = [] ∧ (s.chan 1).queue = []
        ∧ Reachable (0 + 1000 * s.nat K.srEntryDelay) s) :=
  ⟨⟨by decide +kernel, by decide +kernel, reachable_of (by decide +kernel)⟩, by decide +kernel, by decide +kernel,
    by decide +kernel, by decide +kernel, by decide +kernel, by decide +kernel, by decide +kernel, reachable_of (by decide +kernel)⟩
theorem witness_BarnAlerts :
    (let s := served.onChan 0 fun x => { x with caRetried := [(1, 1), (8, 3), (9, 40), (2, 4)] }
     ((1 : Fin 14).val, (1 : BitVec 29).toNat) ∈ (s.chan 0).caRetried ∧ ((9 : Fin 14).val, (40 : BitVec 29).toNat) ∈ (s.chan 0).caRetried
      ∧ (7, 1) ∉ (s.chan 0).caRetried)
    ∧ ((served.chan 0).queue.find? fun q => q.requester == 1 && q.line == 1).isSome = true
    ∧ (served.chan 0).queue.find? (fun q => q.requester == 9 && q.line == 40) = none ∧ (∀ w ∈ (served.chan 0).writes, w.line ≠ 40)
    ∧ (let s := served.onChan 0 fun x => { x with crcTries := [(6, 2), (4, 3)] }
       let tries (l : BitVec 29) : Nat := (((s.chan 0).crcTries.find? fun t => t.1 == l.toNat).map Prod.snd).getD 0
       tries 4 = 3 ∧ tries 6 < 3 ∧ tries 5 = 0)
    ∧ (∀ i < 64, ¬(logPlace served ≤ 64 * 4 + i ∧ 64 * 4 + i < logPlace served + 1024)) := by decide +kernel

/-- Sources 3 and 191 wait, routed to both cores. Source 4 has an event in this cycle. -/
def signalling : State := { ready with ic := { ready.ic with
  pending := 2 ^ 191 + 8, routes := (ready.ic.routes.set 0 (BitVec.allOnes 192)).set 1 (BitVec.allOnes 192) } }
def inEvent : State := { signalling with ic := { signalling.ic with events := 16, cycle := 0 } }
theorem witness_InterruptRegisters :
    (∀ k : Fin 6, CoreMay 1 1 (0x40020000 + 4 * k.val) 0 signalling) ∧ (∀ k : Fin 24, CoreMay 1 1 (0x40020040 + 4 * k.val) 0 signalling)
      ∧ (∀ t : Fin 4, CoreMay 1 1 (0x40020200 + 4 * t.val) 0 signalling) ∧ (∀ t : Fin 2, CoreMay 1 0 (0x40020210 + 4 * t.val) 0 signalling)
      ∧ CoreMay 1 1 0x40020220 0 signalling ∧ CoreMay 0 1 0x40020220 0 signalling ∧ (∀ core, coreActs core (still signalling) = false)
      ∧ CoreBarred 1 0 0x40020210 0 (shut signalling) ∧ CoreBarred 1 1 0x40020220 0 (shut signalling)
      ∧ (eventsNow (CoreView 1 0 inEvent)).getLsbD 4 = true
      ∧ (let w := afterEvents (CoreView 1 0 signalling)
         w.ic.dictCycle ≠ some (w.clk.now / 4))
      ∧ (let w := afterEvents (CoreView 1 0 { signalling with ic := { signalling.ic with dictCycle := some 0 } })
         w.ic.dictCycle = some (w.clk.now / 4))
      ∧ (let o := signalling.ic.pending &&& targetMask 1 (CoreView 1 0 signalling)
         o.getLsbD 3 = true ∧ ∀ k < 3, o.getLsbD k = false)
      ∧ (ready.ic.pending &&& targetMask 1 (CoreView 1 0 ready) = 0) :=
  ⟨fun k => may_of (by revert k; decide +kernel), fun k => may_of (by revert k; decide +kernel), fun t => may_of (by revert t; decide +kernel),
    fun t => may_of (by revert t; decide +kernel), may_of (by decide +kernel), may_of (by decide +kernel), by decide +kernel,
    barred_of (by decide +kernel), barred_of (by decide +kernel), by decide +kernel, by decide +kernel, by decide +kernel, by decide +kernel,
    by decide +kernel⟩
theorem witness_TimerAndLoad :
    CoreMay 1 0 0x40050000 0 signalling ∧ CoreBarred 1 0 0x40050000 0 (shut signalling) ∧ (∀ core, coreActs core (still signalling) = false)
      ∧ (let s := { ready with timer := { ready.timer with cmp := ready.timer.cmp.set 1 77 } }
         s.mtip 1 = false ∧ s.cores.waiting[(1 : Fin 2)] = false ∧ Reachable (1000 * (s.timer.cmp[(1 : Fin 2)]).toNat) s
          ∧ ({ s with cores := { s.cores with waiting := s.cores.waiting.set 1 true } }).cores.waiting[(1 : Fin 2)] = true)
      ∧ (let s := { withFirmware with cores := { withFirmware.cores with appLoading := true } }
         s.cores.appLoading = true ∧ (appCopy s).isSome = true ∧ appCopy { s with cores := { s.cores with copies := Vector.replicate 4 none } } = none) :=
  ⟨may_of (by decide +kernel), barred_of (by decide +kernel), by decide +kernel,
    ⟨by decide +kernel, by decide +kernel, reachable_of (by decide +kernel), by decide +kernel⟩, by decide +kernel⟩

/-- Full windows, a far weight, a high fade; causes standing; instants set. -/
def judging : State :=
  let s := (((ringing.setNum K.powerLine 0).setNum K.weightEnable 1).setNum K.spatialMode 2).setNum K.patternEnable 1
  let s := (s.setNum K.levelCause 12).setNum K.holdoverLimit 60
  let s := ((s.setNum (K.lineSet 0) 100).setNum K.patternCandidates 0x03020100).setNum K.patternInEffect 0
  { s with policy := { s.policy with powerBells := 256, powerDen := 1, weightBells := 65535, weightSums := #v[100, 0, 0, 0],
                                     fadeBells := 256, fadeSum := 65536, fadeRun := 100,
                                     belowSince := some 0, holdoverSince := some 0, lastCleared := some 0 },
           bell := { s.bell with due := none } }
def behind (s : State) : State := { s with policy := { s.policy with jobs := [.line 0] } }
def scanned (s : State) : State := s.setNum K.debugState 3
/-- LINE_SET of line 0 after the window, as O47 says it, with its sum `m`. -/
def setAfter (m : Nat) : Nat := newLineSet 0 { judging with policy := { judging.policy with powerSum := m } }
theorem own_accepted {values : List (Key × DVal)} {s : State} (h : (writeBars 4 0 (values.map fun e => itemOf s e.1 e.2) false s).isNone = true) :
    OwnAccepted values s := Option.isNone_iff_eq_none.mp h
theorem own_refused {values : List (Key × DVal)} {s : State} (h : (writeBars 4 0 (values.map fun e => itemOf s e.1 e.2) false s).isNone = false) :
    ¬OwnAccepted values s := fun e => by simp [OwnAccepted] at e; simp [e] at h

/-- A window below the target, above it, between; its write at its turn, behind a waiting decision, accepted, refused. -/
theorem witness_PolicyPower :
    judging.cores.controlAlive = true ∧ judging.nat K.powerLine < 8 ∧ 256 ≤ judging.policy.powerBells
      ∧ (let t := judging.nat K.powerTarget * 256
         100 < setAfter 0 ∧ setAfter t = 100 ∧ setAfter (2 * t) < 100)
      ∧ (let p := [(K.lineSet 0, DVal.num (setAfter 0))]
         setAfter 0 ≤ 4095 ∧ ownTurn p judging = true ∧ ownTurn p (behind judging) = false ∧ OwnAccepted p (restartPower judging)
          ∧ ownTurn p (scanned judging) = true ∧ ¬OwnAccepted p (restartPower (scanned judging))) :=
  ⟨by decide +kernel, by decide +kernel, by decide +kernel, by decide +kernel, by decide +kernel, by decide +kernel, by decide +kernel,
    own_accepted (by decide +kernel), by decide +kernel, own_refused (by decide +kernel)⟩

/-- The four weights follow their sums: far from those in effect, or equal to them. -/
def weighed : State := [1, 2, 3].foldl (fun s b => s.setNum (K.bandWeight b) (judging.nat K.weightMin)) (judging.setNum (K.bandWeight 0) 32768)
theorem witness_PolicyWeights :
    judging.nat K.weightEnable = 1 ∧ judging.nat K.spatialMode = 2 ∧ judging.nat K.weightPeriod ≤ judging.policy.weightBells
      ∧ (let ws := (newWeights judging).1
         (∃ b < 4, 512 + judging.nat (K.bandWeight b) ≤ ws.getD b 0 ∨ 512 + ws.getD b 0 ≤ judging.nat (K.bandWeight b)) ∧ (∀ b < 4, ws.getD b 0 ≤ 32768)
          ∧ ownTurn (weightPuts ws) judging = true ∧ ownTurn (weightPuts ws) (behind judging) = false
          ∧ OwnAccepted (weightPuts ws) (restartWeights (newWeights judging).2)
          ∧ ¬OwnAccepted (weightPuts ws) (restartWeights (newWeights (scanned judging)).2)) :=
  ⟨by decide +kernel, by decide +kernel, by decide +kernel, by decide +kernel, by decide +kernel, by decide +kernel, by decide +kernel,
    own_accepted (by decide +kernel), own_refused (by decide +kernel)⟩
theorem witness_PolicyWeights_near :
    ¬∃ b < 4, 512 + weighed.nat (K.bandWeight b) ≤ (newWeights weighed).1.getD b 0 ∨ 512 + (newWeights weighed).1.getD b 0 ≤ weighed.nat (K.bandWeight b) := by
  decide +kernel

theorem witness_PolicyFade :
    judging.nat K.patternEnable = 1 ∧ 256 ≤ judging.policy.fadeBells ∧ judging.nat K.fadeLimit * 256 < judging.policy.fadeSum * 1000
      ∧ judging.nat K.fadeEvals ≤ judging.policy.fadeRun + 1 ∧ (∀ n, judging.policy.sincePattern = some n → judging.nat K.patternDwell ≤ n)
      ∧ nextCandidates judging = some [1, 2, 3] ∧ nextCandidates (judging.setNum K.patternInEffect 9) = none
      ∧ ownTurn [(K.seqEntry 0, .num 1)] judging = true ∧ ownTurn [(K.seqEntry 0, .num 1)] (behind judging) = false := by decide +kernel

theorem witness_PolicyInstants :
    judging.policy.belowSince = some 0 ∧ bitOf (judging.nat K.levelCause) 2 = true ∧ Reachable (0 + judging.nat K.returnDwell * 1000000000) judging
      ∧ judging.policy.holdoverSince = some 0 ∧ judging.nat K.holdoverLimit ≠ 0
      ∧ judging.policy.holdoverNoted = false ∧ Reachable (0 + judging.nat K.holdoverLimit * 1000000000) judging
      ∧ judging.policy.lastCleared = some 0 ∧ judging.nat K.levelInEffect ≠ 5 ∧ OwnFree judging :=
  ⟨by decide +kernel, by decide +kernel, reachable_of (by decide +kernel), by decide +kernel, by decide +kernel, by decide +kernel,
    reachable_of (by decide +kernel), by decide +kernel, by decide +kernel, own_free (by decide +kernel)⟩

/-! ### The ring, the host port, the stream port -/

/-- Node 120 of ring 5 with both links up; its delay is known; its session, its mailbox and its slots are empty. -/
def node (a : Nat) : State :=
  let s := ((ready.setNum K.ringAddress a).setNum K.ringId 5).setNum K.timeSource 2
  let s := (((s.setNum (K.linkState 0) 2).setNum (K.linkState 1) 2).setNum (K.delayValid 0) 1).setNum K.linkHold 50
  { s with node := { s.node with ports := s.node.ports.map fun p => { p with looped := false, upSince := some 0 } } }
/-- A payload of type `k` with bytes 8 to 31 `h` and the rest `d`. -/
def payload (k : Nat) (h d : List Byte) : List Byte := [BitVec.ofNat 8 k, 1, 7, 0, 0, 0, 5, 0] ++ slice 0 24 h ++ d
def frame (k : Nat) (h d : List Byte) : RxFrame := { port := 0, dt := 0, payload := payload k h d }

/-- A downlink slot: control byte, a read of the scalar TIME_SOURCE, and its CRC. -/
def downlink (ctrl : Byte) (good : Bool) : List Byte :=
  let d := [ctrl, 0, 0, 0] ++ slice 0 32 ([1, 0, 0, 0, 9, 0, 0, 0] ++ leBytes 2 (K.timeSource / 256) ++ [BitVec.ofNat 8 (K.timeSource % 256), 1, 0, 0, 0, 0, 1, 0, 0, 0])
  d ++ (if good then leBytes 4 (crc32 d) else zeros 4)
/-- A carriage frame for the one node 120. -/
def carriage (ctrl : Byte) (good : Bool) : RxFrame := frame 1 ([3, 1, 120, 0, 224, 0]) (slice 0 192 (downlink ctrl good) ++ zeros 52)

theorem witness_RingFrames : ringRuns (node 120) = true ∧ (node 120).nat (K.linkState 0) ≠ 0 ∧ 4200 < (frame 1 [] (zeros 4151)).payload.length + 18
    ∧ Carries (carriage 1 true) (node 120) ∧ isFrame 1 (carriage 1 true).payload = true
    ∧ forNode (node 120) (carriage 1 true).payload = true ∧ forNode ready (carriage 1 true).payload = false
    ∧ carriageOk (frame 1 [3, 1, 120, 0, 225, 0] (zeros 244)).payload = false
    ∧ carriageOk (carriage 1 true).payload = true ∧ carriageOk (frame 1 [] (zeros 4151)).payload = false
    ∧ (∀ k < 6, isFrame (k + 1) (frame 7 [] []).payload = false) ∧ Carries (frame 1 [] (zeros 4150)) (node 120) :=
  ⟨by decide +kernel, by decide +kernel, by decide +kernel, ⟨by decide +kernel, by decide +kernel, by decide +kernel⟩, by decide +kernel,
    by decide +kernel, by decide +kernel, by decide +kernel, by decide +kernel, by decide +kernel, by decide +kernel,
    ⟨by decide +kernel, by decide +kernel, by decide +kernel⟩⟩

/-- Node 120 remembers a first copy of the slot of RING_ID 5, SEQ 7, CARRIAGE 3: its slot, its answer and the latest one then. -/
def copied (slot : List Byte) (answer : Option (List Byte)) (latest : Option (Nat × List Byte)) : State :=
  let s := (node 120).setNum K.dupWindow 100
  { s with node := { s.node with copies := [⟨5, 7, 3, 0, slot, answer, latest⟩], latest := some (6, zeros 48) } }
/-- The slots of a carriage frame with CTRL 0, 1 and 2: good, bad, and with a first copy that equals them or differs. -/
theorem witness_RingSlots :
    let s := node 120
    let b (c : Byte) (g : Bool) : List Byte := (carriage c g).payload
    let d (c : Byte) : List Byte := downSlot (b c true) 0
    Carries (carriage 0 true) s ∧ (∀ c ∈ [0, 1, 2], carriagePosition s (b (BitVec.ofNat 8 c) true) = some 0 ∧ fieldAt 0 1 (d (BitVec.ofNat 8 c)) = c
        ∧ slotCrcOk (d (BitVec.ofNat 8 c)) = true ∧ slotCrcOk (downSlot (b (BitVec.ofNat 8 c) false) 0) = false)
      ∧ firstCopy (s.elapse 0) 5 7 3 = none ∧ (slotRequest (d 1)).any (expedited (s.elapse 0)) = true
      ∧ s.dict.waiting[portIni 0] = none ∧ s.nat K.ringAddress ≤ 120 ∧ (s.node.ports[(0 : Fin 2)]).slotted = none
      ∧ (firstCopy ((copied (d 1) (some (zeros 48)) none).elapse 0) 5 7 3).any (fun c => c.slot == d 1) = true
      ∧ (firstCopy ((copied (d 0) none none).elapse 0) 5 7 3).any (fun c => c.slot != d 1 && c.slot == d 0) = true
      ∧ slotPresents (s.elapse 0) ([1, 0, 0, 0] ++ List.replicate 32 0xFF) = none ∧ (slotPresents (s.elapse 0) (d 1)).isSome = true :=
  ⟨⟨by decide +kernel, by decide +kernel, by decide +kernel⟩, by decide +kernel, by decide +kernel, by decide +kernel, by decide +kernel,
    by decide +kernel, by decide +kernel, by decide +kernel, by decide +kernel, by decide +kernel, by decide +kernel⟩

/-- A slot answered before, or not yet, refetched with and without a latest answer, or refused, of the carriage frame that comes now. -/
theorem witness_RingUplink :
    let b := (carriage 1 true).payload
    let x (ustat : Nat) : Slotted := { ringId := frameRing b, seq := frameSeq b, carriage := fieldAt 8 1 b, ustat, payload := b, passed := 72 }
    let s (ustat : Nat) (answer : Option (List Byte)) (latest : Option (Nat × List Byte)) : State :=
      let v := copied (downSlot b 0) answer latest
      { v with node := { v.node with ports := v.node.ports.set 0 { v.node.ports[0] with slotted := some (x ustat) } } }
    (∀ u ∈ [1, 3, 4, 5, 6], ((s u (some (zeros 48)) none).node.ports[(0 : Fin 2)]).slotted = some (x u))
      ∧ carriagePosition (s 1 none none) b = some 0 ∧ (s 1 none none).dict.waiting[portIni 0] = none
      ∧ (copyOf (x 1) (s 1 (some (zeros 48)) none)).bind (·.answer) = some (zeros 48)
      ∧ (copyOf (x 1) (s 1 none none)).bind (·.answer) = none
      ∧ (copyOf (x 6) (s 6 none (some (6, zeros 48)))).bind (·.latest) = some (6, zeros 48)
      ∧ (copyOf (x 6) (s 6 none none)).bind (·.latest) = none
      ∧ (x 1).ringId = frameRing b ∧ 32 ≤ (x 1).passed ∧ (x 1).passed ≤ (x 1).payload.length := by decide +kernel

/-- A fragment (the last of a request that breaks R343, and a first of two), a poll, and mailboxes: empty, busy, answered. -/
theorem witness_RingMailbox :
    let s := node 120
    let fragment (flags : Byte) : RxFrame := frame 5 ([120, 0, 0, flags] ++ [1, 0, 0, 0] ++ zeros 4 ++ [16, 0, 0, 0]) (zeros 16)
    let b := (fragment 1).payload
    let q := (frame 6 ([120, 0, 0, 0] ++ [1, 0, 0, 0] ++ zeros 4 ++ [16, 0, 0, 0]) (zeros 16)).payload
    let boxed (x : MailboxBuf) : State := { s with node := { s.node with ports := s.node.ports.set 0 { s.node.ports[0] with mailbox := x } } }
    Carries (fragment 1) s ∧ forNode s b = true ∧ fieldAt 8 2 b = s.nat K.ringAddress ∧ isFrame 5 b = true ∧ mailSeen (s.elapse 0) (fieldAt 12 4 b) = false
      ∧ fieldAt 16 4 b = 0 ∧ 0 < fieldAt 20 4 b ∧ fieldAt 20 4 b ≤ 4096 ∧ 32 + fieldAt 20 4 b ≤ b.length
      ∧ ((s.node.ports[(0 : Fin 2)]).mailbox).seq = none ∧ ((s.node.ports[(0 : Fin 2)]).mailbox).presented = false ∧ unnamedWaits s = false
      ∧ bitOf (fieldAt 11 1 b) 0 = true ∧ bitOf (fieldAt 11 1 (fragment 0).payload) 0 = false
      ∧ malformed (parseRequest (slice 32 16 b)) = true ∧ serialiserRuns s = true ∧ (∀ i : Initiator, s.dict.waiting[i] = none)
      ∧ mailRequest s 1 = none ∧ reportWaits s = false
      ∧ (let v := boxed { seq := some 2, presented := true }
         ((v.node.ports[(0 : Fin 2)]).mailbox).presented = true ∧ ((v.node.ports[(0 : Fin 2)]).mailbox).answer = none
          ∧ mailSeen (v.elapse 0) (fieldAt 12 4 b) = false)
      ∧ isFrame 6 q = true ∧ forNode s q = true ∧ ((s.node.ports[(0 : Fin 2)]).mailbox).seq ≠ some (fieldAt 12 4 q)
      ∧ (let v := boxed { seq := some 1, presented := true, answer := some (zeros 20) }
         ((v.node.ports[(0 : Fin 2)]).mailbox).seq = some (fieldAt 12 4 q) ∧ ((v.node.ports[(0 : Fin 2)]).mailbox).answer = some (zeros 20)) := by
  refine ⟨⟨by decide +kernel, by decide +kernel, by decide +kernel⟩, ?_⟩
  decide +kernel

theorem witness_RingAddressesTimeLinks :
    let s := node 120
    let roll (n : Byte) : List Byte := (frame 4 [n, 0] (zeros 1920)).payload
    let sweep := (frame 3 [] (zeros 3840)).payload
    let mark := (frame 2 (zeros 24) []).payload
    Carries (frame 4 [119, 0] (zeros 1920)) s ∧ Carries (frame 3 [] (zeros 3840)) s ∧ Carries (frame 2 (zeros 24) []) s
      ∧ s.node.rollTaken ≠ some (frameRing (roll 119), frameSeq (roll 119)) ∧ isFrame 4 (roll 119) = true ∧ 1952 ≤ (roll 119).length ∧ fieldAt 8 1 (roll 119) < 120 ∧ 120 ≤ fieldAt 8 1 (roll 120)
      ∧ isFrame 3 sweep = true ∧ 3872 ≤ sweep.length ∧ forNode s sweep = true ∧ isFrame 2 mark = true
      ∧ (s.nat K.timeSource == 2 && frameRing mark == s.nat K.ringId && s.nat (K.delayValid 0) == 1 && !markSeen (s.elapse 0) (frameSeq mark)) = true
      ∧ (s.nat K.timeSource == 2 && frameRing mark == (ready.nat K.ringId)) = false
      ∧ ringRuns s = true ∧ s.nat (K.linkState 0) ≠ 0 ∧ ready.nat (K.linkState 0) = 0 :=
  ⟨⟨by decide +kernel, by decide +kernel, by decide +kernel⟩, ⟨by decide +kernel, by decide +kernel, by decide +kernel⟩,
    ⟨by decide +kernel, by decide +kernel, by decide +kernel⟩, by decide +kernel⟩
theorem witness_loop_end : let s := { node 1 with node := { (node 1).node with ports := (node 1).node.ports.map fun p => { p with looped := true } } }
    (s.node.ports[(0 : Fin 2)]).upSince = some 0 ∧ (s.node.ports[(0 : Fin 2)]).looped = true ∧ Reachable (0 + s.nat K.linkHold * 1000000) s :=
  ⟨by decide +kernel, by decide +kernel, reachable_of (by decide +kernel)⟩

/-- The host has posted entries; ring 1 has room for one record; its vector is open. -/
def hosting : State :=
  let s := (ready.setNum K.hostLink 2).setNum K.hostDState 0
  { s with host := { s.host with enable := true, rqTail := 3, rqHead := 1, msixEnable := true, functionMask := false, maskBits := 0,
                                 rings := s.host.rings.set 1 { size := 4, written := 3, timer := some 0, modReg := 0x10002 } } }
theorem witness_HostRequests : hosting.host.enable = true ∧ hosting.host.rqHead ≠ hosting.host.rqTail ∧ dmaRuns hosting = true
    ∧ hosting.host.fetched.length < 16 ∧ hosting.host.fetched = [] ∧ hosting.dict.waiting[(2 : Fin 5)] = none ∧ hosting.host.presented = false
    ∧ (hosting.host.rings[(1 : Fin 4)]).held = [] ∧ (hosting.host.rings[(1 : Fin 4)]).room = true ∧ dmaRuns ready = false
    ∧ (∀ k : Fin 8, hosting.streams[k].records = [] ∧ hosting.tdc.chan[k].queue = [])
    ∧ unnamedWaits hosting = false ∧ (∀ i : Initiator, hosting.dict.waiting[i] = none) ∧ mailRequest hosting 0 = none ∧ mailRequest hosting 1 = none
    ∧ reportWaits hosting = false ∧ serialiserRuns hosting = true
    ∧ malformed { broken := true, items := [] } = true ∧ malformed { items := [wholeRead K.timeSource 1] } = false
    ∧ (let s := { hosting with host := { hosting.host with buffers := hosting.host.buffers.set 15 (List.replicate 64 { tag := 0, cq := 1, channel := 15, addr := 0, len := 64 }) } }
       s.host.buffers[(15 : Fin 16)].length = 64)
    ∧ (let s := { hosting with host := { hosting.host with presented := true, fetched := List.replicate 16 { tag := 0, cq := 1, channel := 0, dst := 0, dstLen := 64, req := { items := [] } } } }
       s.host.presented = true ∧ 16 ≤ s.host.fetched.length)
    ∧ hostOpen hosting = true ∧ hostOpen { hosting with host := { hosting.host with crs := true } } = false := by decide +kernel
/-- PCI Express is off; the endpoint answers CRS. -/
def unlinked : State := { hosting with power := { hosting.power with off := true } }
def waitingCrs : State := { hosting with host := { hosting.host with crs := true } }
theorem witness_host_closed : hostOn unlinked = false ∧ hostOpen unlinked = false ∧ hostOn waitingCrs = true ∧ hostOpen waitingCrs = false := by
  decide +kernel

def stalled : State := { hosting with host := { hosting.host with rings := hosting.host.rings.set 1 { size := 4, written := 4, held := [{ tag := 9 }], modReg := 1 } } }
def collecting : State :=
  let p : Posted := { tag := 4, cq := 1, channel := 15, addr := 0x1000, len := 64, bytes := zeros 8, firstAt := 0 }
  ({ hosting with host := { hosting.host with buffers := hosting.host.buffers.set 15 [p] } }.setNum K.tdcFlush 100)
theorem witness_HostCompletions :
    ((stalled.host.rings[(1 : Fin 4)]).held = [{ tag := 9 }] ∧ dmaRuns stalled = true
      ∧ ¬((4 + 2 ^ 32 - (0 : BitVec 32).toNat) % 2 ^ 32 < 4) ∧ (4 + 2 ^ 32 - (1 : BitVec 32).toNat) % 2 ^ 32 < 4
      ∧ vectorOpen 1 stalled = true ∧ max 1 (1 % 65536) ≤ 0 + 1
      ∧ (0 : Nat) + 1 < max 1 ((hosting.host.rings[(1 : Fin 4)]).modReg % 65536)
      ∧ vectorOpen 1 (hosting.setNum K.hostDState 3) = false ∧ (hosting.setNum K.hostDState 3).nat K.hostDState = 3
      ∧ (let s := { hosting with host := { hosting.host with pba := 3, maskBits := 1 } }
         s.host.pba.getLsbD 1 = true ∧ s.host.maskBits.getLsbD 1 = false ∧ s.host.maskBits.getLsbD 0 = true ∧ s.host.msixEnable = true
          ∧ s.host.functionMask = false ∧ s.nat K.hostDState = 0))
    ∧ ((hosting.host.rings[(1 : Fin 4)]).timer = some 0 ∧ Reachable (0 + 1000 * ((hosting.host.rings[(1 : Fin 4)]).modReg / 65536)) hosting)
    ∧ (∃ p, collecting.posted (tdcChannel 7) = p :: [] ∧ p.bytes ≠ [] ∧ Reachable (p.firstAt + 1000 * collecting.nat K.tdcFlush) collecting
        ∧ (collecting.host.rings[p.cq]).held = [] ∧ (collecting.host.rings[p.cq]).room = true) :=
  ⟨by decide +kernel, ⟨by decide +kernel, reachable_of (by decide +kernel)⟩,
    { tag := 4, cq := 1, channel := 15, addr := 0x1000, len := 64, bytes := zeros 8, firstAt := 0 }, by decide +kernel, by decide +kernel,
    reachable_of (by decide +kernel), by decide +kernel, by decide +kernel⟩

/-- One record of stream 7 waits for the host, and for the port. -/
def streaming : State :=
  let s := ((((hosting.setNum K.streamLink 1).setNum K.streamPortEnable 1).setNum K.streamIp 0x0A000001).setNum (K.destIp 7) 0x0A000002).setNum K.mtu 1500
  let r : StreamRec := { seq := 3, header := zeros 64, bytes := 128, slot := 0, period := 0, toHost := true, toPort := true }
  { s with streams := s.streams.set 7 { records := [r] },
           port := { s.port with txDisable := false, queues := s.port.queues.set 7 [{ seq := 3, bytes := 128, period := 0 }] } }
/-- Its first datagram has left. -/
def halfSent : State := { streaming with port := { streaming.port with queues := streaming.port.queues.set 7 [{ seq := 3, bytes := 128, period := 0, sent := 64 }] } }
theorem witness_HostStreamRecords : fetches streaming = true ∧ (128 : BitVec 32).toNat % 64 = 0 ∧ streaming.posted (streamChannel 7) = []
    ∧ (streaming.streams[(7 : Fin 8)].records.find? StreamRec.toHost).any (fun r => r.bytes == 128) = true
    ∧ (∀ j : Fin 8, j ≠ 7 → streaming.streams[j].records.find? StreamRec.toHost = none) ∧ (∀ j : Fin 8, streaming.tdc.chan[j].queue = [])
    ∧ (∀ j : Fin 4, streaming.host.rings[j].held = []) ∧ (streaming.host.rings[(1 : Fin 4)]).room = true ∧ dmaRuns (streaming.elapse 0) = true
    ∧ (64 : BitVec 32).toNat < 128 ∧ (List.range 128).filter (fun i => barnBad 7 (streaming.elapse 0) (0 + i)) = []
    ∧ (List.range 128).filter (fun i => barnBad 7 ((setMark 8 .poison streaming).elapse 0) (0 + i)) ≠ [] := by decide +kernel
theorem witness_StreamPort : streaming.nat K.streamLink = 1 ∧ portSends streaming = true ∧ streaming.nat K.streamIp ≠ 0
    ∧ nextTurn streaming = some 7 ∧ streaming.port.queues[(7 : Fin 8)] = { seq := 3, bytes := 128, period := 0 } :: [] ∧ portDiscards 7 streaming = false
    ∧ (streaming.streams[(7 : Fin 8)].records.find? (fun y => y.seq == 3 && y.toPort)).isSome = true
    ∧ portDiscards 7 (streaming.setNum (K.destIp 7) 0) = true ∧ nextTurn halfSent = some 7 ∧ (halfSent.setNum K.streamLink 0).nat K.streamLink = 0
    ∧ halfSent.nat K.streamLink ≠ 0 ∧ halfSent.nat K.powerState ≠ 2 ∧ portsOn halfSent = true ∧ fetches streaming = true
    ∧ 0 + 128 ≤ logPlace streaming ∧ (streaming.setNum K.streamLink 0).nat K.streamLink = 0 ∧ streaming.port.los = false
    ∧ ({ streaming with port := { streaming.port with los := true } }).port.los = true := by
  decide +kernel

theorem witness_HostResetsAndPower :
    (let s := { hosting with host := { hosting.host with aspmEnable := true } }
     s.host.aspmEnable = true ∧ s.nat K.hostLink = 2 ∧ Reachable (s.host.lastTlp + 10000) s)
    ∧ 2 ≤ hosting.nat K.hostLink ∧ hosting.nat K.hostDState = 0
    ∧ (let s := hosting.setNum K.hostDState 3
       2 ≤ s.nat K.hostLink ∧ s.nat K.hostDState = 3 ∧ (∀ r : Fin 4, s.host.rings[r].held = []) ∧ ∀ c : Fin 16, s.host.buffers[c] = [])
    ∧ ready.nat K.hostLink ≤ 1 ∧ (3 : BitVec 2) ≠ 0 ∧ hostOn ready = true ∧ ready.nat K.hostLink = 0 ∧ portsOn hosting = true
    ∧ (let s := stalled.setNum K.hostDState 3
       let s := { s with host := { s.host with rings := s.host.rings.set 1 { size := 4, written := 3, held := [{ tag := 9 }], modReg := 1 }, pba := 2 } }
       (s.host.rings[(1 : Fin 4)]).held = [{ tag := 9 }] ∧ (s.host.rings[(1 : Fin 4)]).room = true ∧ s.host.pba.getLsbD 1 = true
        ∧ s.host.maskBits.getLsbD 1 = false) :=
  ⟨⟨by decide +kernel, by decide +kernel, reachable_of (by decide +kernel)⟩, by decide +kernel, by decide +kernel,
    by decide +kernel, by decide +kernel, by decide +kernel, by decide, by decide +kernel, by decide +kernel, by decide +kernel, by decide +kernel⟩

/-- The window of 256 MiB at barn address 0. -/
theorem witness_Bar2Window : hosting.sec.windowNext[(1 : Fin 3)] = none ∧ hosting.sec.baseNext = none
    ∧ bar2Reaches (0x0FFFFFFC : BitVec 32).toNat 4 hosting = true ∧ windowPermits hosting 1 0 (0x0FFFFFFC : BitVec 32).toNat 4 = true
    ∧ (let v := awaitBase (awaitWindow 1 (hosting.elapse 0))
       windowPermits v 1 0 0 4 = true ∧ windowPermits v 1 1 0 4 = true)
    ∧ (∀ c : Fin 2, (hosting.chan c).writes.length + 4 / 64 + 2 ≤ 64) ∧ bar2Reaches (0x0FFFFFFD : BitVec 32).toNat 4 hosting = false ∧ windowPermits hosting 1 1 0 4 = true
    ∧ windowPermits { hosting with sec := { hosting.sec with windows := hosting.sec.windows.set 1 (zeros 128) } } 1 0 0 4 = false
    ∧ (∀ c : Fin 2, ∀ x ∈ (hosting.chan c).arrivals, x.at_ ≠ hosting.clk.now)
    ∧ windowPermits (awaitBase (awaitWindow 1 (({ hosting with sec := { hosting.sec with windows := hosting.sec.windows.set 1 (zeros 128) } }).elapse 0))) 1 1 0 4 = false
    ∧ (∀ i < 4, barnBad 7 hosting i = false) ∧ barnBad 7 { hosting with barn := { hosting.barn with marked := [(0, .poison)] } } 0 = true
    ∧ (∀ i < 4, barnMarked hosting i = false) ∧ barnMarked { hosting with barn := { hosting.barn with marked := [(0, .poison)] } } 0 = true := by
  decide +kernel

theorem witness_HostRegisters : hosting.host.pba = 0 ∧ (hosting.host.rings[(3 : Fin 4)]).held = [] ∧ (0 : BitVec 32).getLsbD 1 = false
    ∧ hostOpen hosting = true ∧ hosting.nat K.hostDState = 0 ∧ (0x8103 : BitVec 16).toNat % 4 = 3 ∧ (0x8100 : BitVec 16).toNat % 4 = 0 := by decide +kernel

/-- The barn area of the supervisor cores holds 1 MiB. -/
def supplied : State := { ready with barn := { ready.barn with supArea := 1048576 } }
/-- Stores at the edges of each memory, misaligned, barred, of a core that is not at work, into the barn and into a closed block. -/
theorem witness_CoreStores :
    (∀ a ∈ [0x10000000, 0x1007FFFC, 0x18000000, 0x1807FFFC, 0x20000000, 0x200FFFFC, 0x80000000, 0x800FFFFC], CoreMay 0 1 (BitVec.ofNat 32 a).toNat 0 supplied)
    ∧ (∀ a ∈ [0x18000000, 0x1807FFFC, 0x20000000, 0x200FFFFC, 0x80000000, 0x800FFFFC], CoreMay 1 1 (BitVec.ofNat 32 a).toNat 0 supplied)
    ∧ (∀ c, coreActs c supplied = true ∧ coreActs c (still supplied) = false) ∧ (0x2000FFFD : BitVec 32).toNat % 4 ≠ 0
    ∧ CoreBarred 1 1 (0x2000FFFC : BitVec 32).toNat 0 (shut supplied)
    ∧ (∀ k : Fin 2, (supplied.chan k).writes.length < 64 ∧ ∀ x ∈ (supplied.chan k).arrivals, x.at_ ≠ (coreArrives 1 0 supplied).clk.now) := by
  refine ⟨fun a ha => may_of ?_, fun a ha => may_of ?_, by decide +kernel, by decide, barred_of (by decide +kernel), by decide +kernel⟩ <;>
    (revert a; decide +kernel)

/-- The application core with a reservation, and in user mode. -/
def reserving : State := { ready with cores := { ready.cores with harts := ready.cores.harts.set 1 { reserved := some 0x20000000 } } }
def inUser : State := { ready with cores := { ready.cores with harts := ready.cores.harts.set 1 { mode := .user } } }
theorem witness_CoreOperations :
    coreActs 1 reserving = true ∧ coreActs 1 (still reserving) = false ∧ coreRam 1 (0x20000000 : BitVec 32).toNat = true
      ∧ coreRam 1 (0x10000000 : BitVec 32).toNat = false
      ∧ CoreMay 1 0 (0x20000000 : BitVec 32).toNat 0 reserving ∧ CoreMay 1 1 (0x20000000 : BitVec 32).toNat 0 reserving
      ∧ (reserving.hart 1).reserved = some 0x20000000 ∧ (ready.hart 1).reserved ≠ some 0x20000000
      ∧ ((reserving.hart (1 - 0)).reserved.any fun x => x.toNat / 4 == (0x20000000 : BitVec 32).toNat / 4)
      ∧ CoreBarred 1 0 (0x20000000 : BitVec 32).toNat 0 (shut ready) ∧ CoreBarred 1 0 (0x20000000 : BitVec 32).toNat 0 inUser
      ∧ (ready.hart 1).stepping = false ∧ (ready.hart 1).mode = .machine ∧ (inUser.hart 1).mode = .user
      ∧ wfiPasses 1 (ready.elapse 0) = false
      ∧ wfiPasses 1 ({ ready with cores := { ready.cores with meip := ready.cores.meip.set 1 true } }.elapse 0) = true :=
  ⟨by decide +kernel, by decide +kernel, by decide, by decide, may_of (by decide +kernel), may_of (by decide +kernel), by decide +kernel,
    by decide +kernel, by decide +kernel, barred_of (by decide +kernel), barred_of (by decide +kernel), by decide +kernel, by decide +kernel,
    by decide +kernel, by decide +kernel, by decide +kernel⟩

/-- DMI stands in the instruction register, in debug state `d`; the application core is halted. -/
def debugging (d : Nat) (halted : Bool) : State :=
  let s := ready.setNum K.debugState d
  { s with tap := { s.tap with ir := TapInstr.dmi.opcode }, cores := { s.cores with harts := s.cores.harts.set 1 { halted } } }
theorem witness_CoreDebug :
    (tapInstr (debugging 2 true) = .dmi ∧ (debugging 2 true).nat K.debugState = 2 ∧ coreAvailable 1 (debugging 2 true) = true
      ∧ ((debugging 2 true).hart 1).halted = true ∧ coreAvailable 1 (still (debugging 2 false)) = false)
    ∧ tapInstr ready ≠ .dmi ∧ tapInstr (debugging 0 false) ≠ .dmi
    ∧ (tapInstr (debugging 1 false) = .dmi ∧ (debugging 1 false).nat K.debugState = 1)
    ∧ (let s := debugging 1 false
       windowPermits (awaitWindow 2 (s.elapse 0)) 2 0 (0x20000000 : BitVec 32).toNat 4 = true ∧ coreRam 0 (0x20000000 : BitVec 32).toNat = true
        ∧ windowPermits (awaitWindow 2 (s.elapse 0)) 2 0 (0xFFFFFFFC : BitVec 32).toNat 4 = false)
    ∧ ready.power.hold = false ∧ ready.power.off = false ∧ (∀ i : TapInstr, i.opcode ≠ 0x7F) := by
  refine ⟨by decide +kernel, by decide +kernel, by decide +kernel, by decide +kernel, by decide +kernel, by decide +kernel, by decide +kernel, fun i => ?_⟩
  cases i with
  | scanChain c => revert c; decide
  | _ => decide

/-! ### Protection, power, start, the black box, the machine as a whole -/

def guarded : State :=
  let s := (ready.setNum (K.sessionLevel 2) 0).setNum K.sessionIdle 60
  { s with sec := { s.sec with lockUntil := s.sec.lockUntil.set 2 (some 60000000000), windowNext := s.sec.windowNext.set 2 (some (2000, zeros 128)) } }
theorem witness_ProtectionExpiries : guarded.nat (K.sessionLevel (2 : Fin 3)) < 2
    ∧ Reachable (guarded.sec.lastRequest[(2 : Fin 3)] + guarded.nat K.sessionIdle * 1000000000) guarded
    ∧ guarded.sec.lockUntil[(2 : Fin 3)] = some 60000000000 ∧ Reachable 60000000000 guarded
    ∧ guarded.sec.windowNext[(2 : Fin 3)] = some (2000, zeros 128) ∧ Reachable 2000 guarded :=
  ⟨by decide +kernel, reachable_of (by decide +kernel), by decide +kernel, reachable_of (by decide +kernel), by decide +kernel,
    reachable_of (by decide +kernel)⟩

theorem witness_PowerTransitions :
    (let s := { ready.setNum K.powerState 3 with power := { ready.power with transition := some (2, 1, 0) } }
     s.power.transition = some (2, 1, 0) ∧ s.nat K.barnState ≠ 6)
    ∧ (1 : Nat) ≠ 3 ∧ quiet ready = false ∧ quiet (ready.setNum K.quietCause 1) = true := by decide +kernel

def braced : State :=
  { ready.setNum K.supplyState 1 with power := { ready.power with crossed := ready.power.crossed.set 2 (some (100, 100)) } }
theorem witness_SupplyDips : awake ready = true ∧ ready.nat K.supplyState ≠ 1 ∧ ready.power.crossed[(2 : Fin 3)] = none
    ∧ awake braced = true ∧ braced.nat K.supplyState = 1 ∧ braced.power.crossed[(1 : Fin 3)] = none ∧ braced.power.waiting = none
    ∧ braced.power.crossed = (Vector.replicate 3 none).set (2 : Fin 3) (some (100, 100))
    ∧ (let s := ({ braced with power := { braced.power with waiting := some 2, crossed := Vector.replicate 3 none } }).setNum K.debugState 3
       s.nat K.supplyState = 1 ∧ s.power.waiting = some 2 ∧ s.power.crossed = Vector.replicate 3 none ∧ s.nat K.debugState = 3) := by decide +kernel

def aRecord : Record := { seq := 0, time := 0, bell := 0, cls := 1, coalesced := false, inHold := false, unlocked := false, wraps := 0,
                          source := 0x4800, code := 0x0603, data := [], startCount := 1 }
/-- In an orderly shut-down that began at 0, `n` ns ago; in reset since the start; off. -/
def shutting (n : Nat) : State :=
  { ready.setNum K.bistOnShutdown 1 with power := { ready.power with shutdownAt := some 0 }, clk := { ready.clk with now := n } }
def inReset (now : Nat) (note : Option ResetNote) : State :=
  { ready with power := { ready.power with inReset := true, note }, clk := { ready.clk with now } }
theorem witness_Resets : awake ready = true ∧ ready.power.hold = false ∧ ready.power.inReset = false ∧ ready.power.held = none
    ∧ ({ ready with power := { ready.power with hold := true } }).power.hold = true
    ∧ bbSlot { ready with bb := { ready.bb with slots := [(5, some aRecord)] } } 5 = some aRecord
    ∧ (∃ n, n.writes = [] ∧ (inReset 999999 (some n)).power.note = some n
        ∧ ((inReset 999999 (some n)).elapse 0).clk.now < 1000000 ∧ (inReset 999999 (some n)).power.hold = false ∧ (inReset 999999 (some n)).power.inReset = true)
    ∧ ((inReset 0 none).power.note = none ∧ 1000000 ≤ ((inReset 1000000 none).elapse 0).clk.now)
    ∧ (100 : Nat) ≤ 999 ∧ ({ ready with power := { ready.power with off := true } }).power.off = true
    ∧ (let s := shutting 43100000
       s.power.shutdownAt = some 0 ∧ s.nat K.supplyState ≠ 1 ∧ s.nat K.bistOnShutdown = 1 ∧ s.power.cardDone = false ∧ 0 + 43100000 ≤ s.clk.now + 0
        ∧ s.clk.now + 0 < 0 + 43200000 ∧ newestCardSlot s ≠ some 0)
    ∧ (0 + 43000000 ≤ ((shutting 43000000).elapse 0).clk.now ∧ ((shutting 43000000).elapse 0).clk.now < 0 + 43100000)
    ∧ ¬(shutting 45000000).clk.now + 0 < 0 + 43200000
    ∧ (let s := { shutting 45000000 with power := { (shutting 45000000).power with cardDone := true } }
       s.power.cardDone = true) := by
  refine ⟨by decide +kernel, by decide +kernel, by decide +kernel, by decide +kernel, by decide +kernel, by decide +kernel, ⟨⟨1, 0, 0, 0, false, 1, 0, []⟩, rfl, ?_⟩, ?_⟩ <;>
    decide +kernel

/-- In reset, with a control copy; with a passed card of the last start, or a failed one. -/
def resetting (cards : Vector (Option Card) 2) : State :=
  let s := ((State.reset.setNum K.startTtSlot 255).setNum K.profileAuto 255).setNum K.startBells 0
  let s := s.setNum K.enginesInService 0xFFFFFFFF
  { s with power := { s.power with inReset := true, cause := 1 }, bb := { s.bb with cards },
           cores := { s.cores with copies := s.cores.copies.set 0 (some { version := 1 }) } }
theorem witness_DeviceStarts :
    let s := resetting (Vector.replicate 2 none)
    let f : StartFacts := { times := Vector.replicate 3 0 }
    s.power.inReset = true ∧ s.power.off = false ∧ s.power.held = none ∧ s.start.ran = false ∧ f.cells = []
      ∧ (∀ i : Fin 8, s.dict.imageSlots[i] = []) ∧ s.nat K.startTtSlot = 255 ∧ s.nat K.profileAuto = 255 ∧ s.nat K.startBells = 0
      ∧ (s.cores.copies[0]).isSome ∧ newestCard s = none
      ∧ (newestCard (resetting #v[some { result := 0 }, none])).any (fun c => c.result == 0 && c.startCount == s.nat K.startCount) = true
      ∧ (newestCard (resetting #v[some { result := 1 }, none])).any (fun c => c.result == 1) = true
      ∧ trainingKept { s with bb := { s.bb with training := s.bb.training.set 0 true } } = true ∧ trainingKept s = false
      ∧ s.nat K.enginesInService = 0xFFFFFFFF ∧ s.bb.bistLog = [] ∧ s.bb.marks = [] ∧ f.verified = true ∧ s.power.cause ≠ 4 := by decide +kernel

def starting (n : Nat) : State := { ready with start := { ready.start with next := n, ran := true } }
theorem witness_ControlFirmware : awake (starting 11) = true ∧ (starting 11).nat K.debugState ≠ 3 ∧ (starting 11).start.restartBells = false
    ∧ opRuns (starting 11) 1 = false ∧ ((starting 11).setNum K.ttLoadState 3).nat K.ttLoadState = 3
    ∧ opRuns (ready.setNum K.opsRunning 1) 1 = true ∧ opRuns (ready.setNum K.opsRunning 4) 3 = true
    ∧ loadsNow (starting 13) = false ∧ (starting 13).nat K.startBells = 0
    ∧ loadsNow { starting 13 with tt := { ready.tt with switching := some { slot := 0, kind := 0, bell := none, load := 1, started := true, endsAt := 9 } } } = true
    ∧ (starting 14).nat K.powerState = 0 ∧ ((starting 14).setNum K.powerState 1).nat K.powerState ≠ 0
    ∧ (starting 0).start.ran = true ∧ (starting 0).cores.controlAlive = true ∧ (starting 0).nat K.quietCause ≠ 3
    ∧ unnamedWaits (starting 11) = false ∧ (starting 15).start.next = 15
    ∧ locked ((starting 24).setNum K.refState 1) = false
    ∧ ownTurn [(K.ttLoad, .num 1)] { behind (starting 20) with cores := { (starting 20).cores with controlAlive := true } } = false
    ∧ (let s := { starting 0 with cores := { (starting 0).cores with copies := (starting 0).cores.copies.set 0 (some { version := 1, load := [1, 2], entry := 4 }) } }
       ((s.nat K.fwSelected).testBit 0 = false ∧ (s.cores.copies[0]).any fun f => f.load.length == 2)) := by
  decide +kernel

/-- A record waits; a slice is due in the recess of a bell. -/
def recording : State :=
  let s := (((ringing.setNum K.sliceEnable 1).setNum K.slicePeriod 2))
  { s with start := { s.start with ran := true }, bb := { s.bb with queue := [aRecord], sliceBells := 2 }, array := { s.array with deadline := 400000 } }.setNum (K.engineState 3) 2
theorem witness_BlackBoxWrites : bbState recording = 1 ∧ recording.bb.queue = aRecord :: [] ∧ (∀ c : Fin 6, recording.bb.drops[c].count = 0)
    ∧ freeSealed recording = some 0 ∧ keySealed recording aRecord = false
    ∧ keySealed { recording with bb := { recording.bb with slots := [(5, some aRecord)] } } aRecord = true
    ∧ recording.nat K.sliceEnable = 1 ∧ recording.running = true ∧ recording.nat K.slicePeriod ≤ recording.bb.sliceBells
    ∧ sliceFits recording = true ∧ (List.replicate 64 (0x11 : Byte)).length = 64 ∧ freeBytes64 (List.replicate 64 0x11) = true := by decide +kernel
theorem witness_slice : recess (targetNow recording) recording = true ∧ faultIn (targetNow recording) { kind := 1, unit := 0, bank := 0, outcome := 1, word := 0, bit := 0 } = true := by decide +kernel

theorem witness_TestAccessPort : ready.power.hold = false ∧ ready.power.off = false ∧ ({ ready with power := { ready.power with off := true } }).power.off = true
    ∧ (ready.setNum K.debugState 2).nat K.debugState = 2 ∧ (ready.setNum K.debugState 3).nat K.debugState = 3
    ∧ (ready.setNum K.debugState 0).nat K.debugState = 0 ∧ (ready.setNum K.debugState 1).nat K.debugState = 1 := by
  decide +kernel

/-- The reset state latches what stands in it, and its idle step goes on. -/
theorem witness_StatusStaysLatched : StatusLatched State.reset ∧ ∃ t, step State.reset = .next t :=
  ⟨by unfold StatusLatched; decide +kernel, _, rfl⟩

/-- LAUNCH_DELAY and TIME_SOURCE exist in the reset state (R333). -/
theorem witness_HighestSubIndexes : State.reset.nat K.quietCause ≠ 3 ∧ (entryOf State.reset (256 * 0x2200 + 2)).isSome = true
    ∧ (entryOf State.reset K.timeSource).isSome = true := by decide +kernel

/-- A command in front runs (the queue's first), and the row's command is what runs. -/
theorem test_step_runs_front : step { State.reset with pending := [.tapBypass, .tapIdcode] }
    = exec .tapBypass { State.reset with pending := [.tapIdcode] } := rfl
/-- The one stop: no such line in a barn of 0 bytes (R307). -/
theorem test_barn_absent : exec (.barnRequest 4 0 none 0) (served.setNum K.barnBytes 0) = .fault .noSuchBarnAddress := rfl
/-- The TAP takes EXTEST in Scan alone (R449). -/
theorem test_extest : ∃ u, exec .tapExtest (ready.setNum K.debugState 0) = .next u ∧ tapInstr u = .bypass := ⟨_, rfl, by decide +kernel⟩
/-- SHA-256 of "abc" (FIPS 180-4), and P-256's base point (FIPS 186). -/
theorem test_sha256_abc : beNat (sha256 [0x61, 0x62, 0x63]) = 0xBA7816BF8F01CFEA414140DE5DAE2223B00361A396177A9CB410FF61F20015AD := by
  decide +kernel
theorem test_base_point : onCurve ecG = true := by decide +kernel
/-- A quarter and a half turn, in half-units of PHASE (R124). -/
theorem test_arguments : argFloor 0 5 = 2 ^ 15 ∧ argFloor (-7) 0 = 2 ^ 16 ∧ argFloor 3 0 = 0 := by decide +kernel

end Sys2Proof.Tests
end

section
/-!
PROOFS. The landing of results (R148, R149): what a register holds once results have landed in it, the order in which `landAll`
lands them, and that of two results for one register the later slot's stays.
-/

namespace Sys2Proof.Machine

/-! ### A register by its destination -/

/-- What the register that a destination names holds; a word of memory is no register. -/
abbrev Dest.Content : Dest → Type
  | .g _ => Reg 32
  | .acc _ => Reg 40
  | .p _ | .m _ | .l _ => Reg 24
  | .q _ => Bool
  | .word _ | .half _ => Unit

/-- A result as its register holds it. -/
def Dest.content (value : BitVec 40) (tag : Bool) : (d : Dest) → d.Content
  | .g _ => ⟨value.setWidth 32, tag, false⟩
  | .acc _ => ⟨value, tag, false⟩
  | .p _ | .m _ | .l _ => ⟨value.setWidth 24, tag, false⟩
  | .q _ => value.getLsbD 0
  | .word _ | .half _ => ()

/-- The register that a destination names. -/
def EngRegs.get (x : EngRegs) : (d : Dest) → d.Content
  | .g i => x.g[i]
  | .acc i => x.acc[i]
  | .p i => x.p[i]
  | .m i => x.m[i]
  | .l i => x.l[i]
  | .q i => x.q[i]
  | .word _ | .half _ => ()

theorem EngRegs.get_put_same (x : EngRegs) (d : Dest) (v : BitVec 40) (tag : Bool) : (x.put d v tag).get d = d.content v tag := by
  cases d <;> simp [EngRegs.get, EngRegs.put, Dest.content]

/-- A result changes no register but its own: registers of two kinds stand in two files, and those of one kind differ in their
number. -/
theorem EngRegs.get_put_of_ne (x : EngRegs) {d d' : Dest} (v : BitVec 40) (tag : Bool) (h : d ≠ d') :
    (x.put d v tag).get d' = x.get d' := by
  cases d <;> cases d' <;> try rfl
  all_goals exact vmod_get_of_ne _ _ _ (fun _ => _) fun hij => h (hij ▸ rfl)

/-! ### One result lands -/

@[simp] theorem setWord_regs (e : Fin 32) (a : Nat) (w : MemWord) (s : State) :
    ((setWord e a w s).eng e).regs = (s.eng e).regs := by
  unfold setWord
  split <;> simp

/-- A result that lands is put in its register; one for memory leaves the registers as they are. -/
theorem landOne_regs (e : Fin 32) (s : State) (r : Landing) :
    ((landOne e s r).eng e).regs = (s.eng e).regs.put r.dest r.value r.tag := by
  unfold landOne
  split <;> simp [EngRegs.put, *]

theorem landOne_get_own (e : Fin 32) (s : State) (r : Landing) :
    ((landOne e s r).eng e).regs.get r.dest = r.dest.content r.value r.tag := by
  rw [landOne_regs, EngRegs.get_put_same]

theorem landOne_get_of_ne (e : Fin 32) (s : State) {r : Landing} {d : Dest} (h : r.dest ≠ d) :
    ((landOne e s r).eng e).regs.get d = (s.eng e).regs.get d := by
  rw [landOne_regs, EngRegs.get_put_of_ne _ _ _ h]

/-! ### A list of results lands in turn -/

theorem foldl_landOne_get_untouched (e : Fin 32) (s : State) (d : Dest) (rs : List Landing) (h : ∀ q ∈ rs, q.dest ≠ d) :
    ((rs.foldl (landOne e) s).eng e).regs.get d = (s.eng e).regs.get d :=
  List.foldlRecOn (motive := fun t => (t.eng e).regs.get d = (s.eng e).regs.get d) rs (landOne e) rfl fun t ht q hq =>
    (landOne_get_of_ne e t (h q hq)).trans ht

/-- A result stays in its register if all that follow it go elsewhere, or are that result again. -/
theorem foldl_landOne_get_last (e : Fin 32) (s : State) (r : Landing) (before after : List Landing)
    (h : ∀ q ∈ after, q.dest = r.dest → q = r) :
    (((before ++ r :: after).foldl (landOne e) s).eng e).regs.get r.dest = r.dest.content r.value r.tag := by
  rw [List.foldl_append, List.foldl_cons]
  refine List.foldlRecOn (motive := fun t => (t.eng e).regs.get r.dest = r.dest.content r.value r.tag) after (landOne e)
    (landOne_get_own e _ r) fun t ht q hq => ?_
  by_cases hd : q.dest = r.dest
  · rw [h q hq hd]
    exact landOne_get_own e t r
  · exact (landOne_get_of_ne e t hd).trans ht

/-! ### The order of landing -/

/-- The results of slot `k` that are readable now, as they land: R149 leaves the order within one slot free. -/
def slotLandings (e : Fin 32) (x : Engine) (k : Nat) : List Landing :=
  let xs := (x.flight.filter fun r => r.ready ≤ x.cycle).filter fun r => r.slot == k
  if Config.laterKept e x.cycle then xs else xs.reverse

/-- All results that are readable now, as they land: slot by slot. -/
def landings (e : Fin 32) (x : Engine) : List Landing := (List.range 5).flatMap (slotLandings e x)

theorem landAll_eq (e : Fin 32) (s : State) :
    landAll e s = (landings e (s.eng e)).foldl (landOne e)
      (s.onEng e fun x => { x with flight := x.flight.filter fun r => !(r.ready ≤ x.cycle) }) := rfl

theorem mem_slotLandings {e : Fin 32} {x : Engine} {k : Nat} {q : Landing} :
    q ∈ slotLandings e x k ↔ q ∈ x.flight ∧ q.slot = k ∧ q.ready ≤ x.cycle := by
  unfold slotLandings
  split <;> simp

theorem mem_landings {e : Fin 32} {x : Engine} {q : Landing} :
    q ∈ landings e x ↔ q ∈ x.flight ∧ q.slot < 5 ∧ q.ready ≤ x.cycle := by
  simp [landings, mem_slotLandings, and_left_comm]

/-- Results land in the order of their slots, whenever they issued. -/
theorem landings_sorted (e : Fin 32) (x : Engine) : (landings e x).Pairwise fun a b => a.slot ≤ b.slot := by
  refine List.pairwise_flatMap.mpr ⟨fun k _ => List.pairwise_of_forall_mem_list fun a ha b hb => ?_,
    List.pairwise_lt_range.imp fun hkl a ha b hb => ?_⟩
  all_goals
    obtain ⟨-, hka, -⟩ := mem_slotLandings.mp ha
    obtain ⟨-, hkb, -⟩ := mem_slotLandings.mp hb
    omega

/-! ### All results land -/

theorem landAll_get_untouched (e : Fin 32) (s : State) (d : Dest)
    (h : ∀ q ∈ (s.eng e).flight, q.ready ≤ (s.eng e).cycle → q.dest ≠ d) :
    ((landAll e s).eng e).regs.get d = (s.eng e).regs.get d := by
  rw [landAll_eq, foldl_landOne_get_untouched e _ d]
  · simp
  · intro q hq
    obtain ⟨hmem, -, hready⟩ := mem_landings.mp hq
    exact h q hmem hready

/-- A readable result is in its register if every other readable one for that register is of an earlier slot: what lands after
it is of no earlier slot, so goes elsewhere. -/
theorem landAll_get_latest (e : Fin 32) (s : State) (r : Landing) (hmem : r ∈ (s.eng e).flight)
    (hready : r.ready ≤ (s.eng e).cycle) (hslot : r.slot < 5)
    (hlast : ∀ q ∈ (s.eng e).flight, q ≠ r → q.dest = r.dest → q.ready ≤ (s.eng e).cycle → q.slot < r.slot) :
    ((landAll e s).eng e).regs.get r.dest = r.dest.content r.value r.tag := by
  obtain ⟨before, after, hsplit⟩ := List.append_of_mem (mem_landings.mpr ⟨hmem, hslot, hready⟩ : r ∈ landings e (s.eng e))
  rw [landAll_eq, hsplit]
  refine foldl_landOne_get_last e _ r before after fun q hq hd => Classical.byContradiction fun hne => ?_
  have hq' : q ∈ landings e (s.eng e) := by
    rw [hsplit]
    exact List.mem_append_right _ (List.mem_cons_of_mem _ hq)
  obtain ⟨hqmem, -, hqready⟩ := mem_landings.mp hq'
  have hsorted := landings_sorted e (s.eng e)
  rw [hsplit, List.pairwise_append, List.pairwise_cons] at hsorted
  obtain ⟨-, ⟨hafter, -⟩, -⟩ := hsorted
  exact Nat.not_le_of_gt (hlast q hqmem hne hd hqready) (hafter q hq)

/-- Settles O17: results land in slot order, so nothing that lands after the latest slot's result goes to its register. -/
theorem laterSlotIsKept : Obligations.LaterSlotIsKept := by
  intro e s r x u hmem hready hslot hlast
  have hkept : u.regs.get r.dest = r.dest.content r.value r.tag := landAll_get_latest e s r hmem hready hslot hlast
  refine ⟨fun i hi => ?_, fun i hi => ?_, fun i hi => ?_, fun i hi => ?_, fun i hi => ?_, fun i hi => ?_,
    fun i hi => landAll_get_untouched e s (.g i) hi⟩
  all_goals
    rw [hi] at hkept
    exact hkept

end Sys2Proof.Machine
end

section
/-!
PROOFS. Pulses of ALERT_N (R319, R320): what the work that an alert brings with it (the error log in the barn, the record, the
interrupt, the marks) leaves of the retries, and so that a pulse counts at one entry of its kind.
-/

namespace Sys2Proof.Machine

/-! ### A field that a change of a channel keeps -/

theorem chan_onChan_keeps {α : Type} (field : BarnChan → α) (s : State) (c d : Fin 2) (f : BarnChan → BarnChan)
    (hf : ∀ x, field (f x) = field x := by intro _; rfl) : field ((s.onChan c f).chan d) = field (s.chan d) := by
  by_cases hcd : c = d
  · subst hcd
    exact (congrArg field (vmod_get_self s.barn.chans c f)).trans (hf _)
  · exact congrArg field (vmod_get_of_ne s.barn.chans c d f hcd)

/-! ### What keeps the retries -/

/-- From `s` to `t` no entry changes but those that events change, and no channel's record of what was retried. -/
structure RetriesKept (s t : State) : Prop where
  nat : ∀ k ∉ eventKeys, t.nat k = s.nat k
  crcTries : ∀ c, (t.chan c).crcTries = (s.chan c).crcTries
  caRetried : ∀ c, (t.chan c).caRetried = (s.chan c).caRetried

namespace RetriesKept

variable {s t u : State}

/-- Whatever leaves the dictionary's store and the channels alone keeps the retries. -/
theorem of_eq (hstore : t.dict.store = s.dict.store) (hchans : t.barn.chans = s.barn.chans) : RetriesKept s t :=
  ⟨fun _ _ => by rw [State.nat, hstore]; rfl, fun _ => by rw [State.chan, hchans]; rfl,
    fun _ => by rw [State.chan, hchans]; rfl⟩

theorem refl (s : State) : RetriesKept s s := of_eq rfl rfl

theorem trans (h : RetriesKept s t) (g : RetriesKept t u) : RetriesKept s u where
  nat k hk := (g.nat k hk).trans (h.nat k hk)
  crcTries c := (g.crcTries c).trans (h.crcTries c)
  caRetried c := (g.caRetried c).trans (h.caRetried c)

theorem foldl {α : Type} (f : State → α → State) (hf : ∀ s a, RetriesKept s (f s a)) (l : List α) (s : State) :
    RetriesKept s (l.foldl f s) :=
  List.foldlRecOn (motive := RetriesKept s) l f (refl s) fun t h a _ => h.trans (hf t a)

theorem onChan (s : State) (c : Fin 2) (f : BarnChan → BarnChan) (hcrc : ∀ x, (f x).crcTries = x.crcTries := by intro _; rfl)
    (hca : ∀ x, (f x).caRetried = x.caRetried := by intro _; rfl) : RetriesKept s (s.onChan c f) :=
  ⟨fun _ _ => rfl, fun d => chan_onChan_keeps _ s c d f hcrc, fun d => chan_onChan_keeps _ s c d f hca⟩

end RetriesKept

theorem EventFrame.retriesKept {s t : State} (h : EventFrame s t) : RetriesKept s t :=
  ⟨h.nat, fun c => by rw [State.chan, h.barn]; rfl, fun c => by rw [State.chan, h.barn]; rfl⟩

theorem setMark_retriesKept (a : Nat) (p : WordMark) (s : State) : RetriesKept s (setMark a p s) := .of_eq rfl rfl

theorem poisonLine_retriesKept (line : Nat) (s : State) :
    RetriesKept s ((List.range 8).foldl (fun (s : State) (w : Nat) => setMark (64 * line + 8 * w) .poison s) s) :=
  .foldl _ (fun t _ => setMark_retriesKept _ _ t) _ s

theorem setBarnByte_retriesKept (a : Nat) (v : Byte) (s : State) : RetriesKept s (setBarnByte a v s) :=
  setBarnByte_cases (RetriesKept s) a v s (fun _ => .of_eq rfl rfl) (fun _ => .of_eq rfl rfl) (fun _ _ => .of_eq rfl rfl)
    (.of_eq rfl rfl)

theorem storeByte_retriesKept (a : Nat) (v : Byte) (s : State) : RetriesKept s (storeByte a v s) := by
  unfold storeByte
  split
  · exact .onChan _ _ _
  · exact setBarnByte_retriesKept a v s

theorem endWord_retriesKept (start a : Nat) (s : State) : RetriesKept s (endWord start a s) := by
  unfold endWord
  split
  · exact .refl s
  split
  · exact setMark_retriesKept _ _ s
  split
  · exact setMark_retriesKept _ _ s
  · exact .refl s

theorem writeFrom_retriesKept (start a : Nat) (bs : List Byte) (s : State) : RetriesKept s (writeFrom start a bs s) := by
  induction bs generalizing a s with
  | nil => exact .refl s
  | cons b bs ih =>
    refine .trans ?_ (ih (a + 1) _)
    split
    · exact (storeByte_retriesKept a b s).trans (endWord_retriesKept start a _)
    · exact storeByte_retriesKept a b s

theorem readsFirst_retriesKept (p : Nat → Bool) (s : State) : RetriesKept s (readsFirst p s) :=
  ⟨fun _ _ => rfl, fun c => by simp [readsFirst, State.chan], fun c => by simp [readsFirst, State.chan]⟩

theorem bumpGeneration_retriesKept (k : Key) (s : State) : RetriesKept s (s.bumpGeneration k) := .of_eq rfl rfl

theorem touchBlocks_retriesKept (a : Nat) (bs : List Byte) (s : State) : RetriesKept s (touchBlocks a bs s) :=
  .foldl _ (fun t (x : Key × Nat × Nat) => bumpGeneration_retriesKept x.1 t) _ s

theorem writeBarn_retriesKept (a : Nat) (bs : List Byte) (s : State) : RetriesKept s (writeBarn a bs s) :=
  ((touchBlocks_retriesKept a bs s).trans (readsFirst_retriesKept _ _)).trans (writeFrom_retriesKept a a bs _)

theorem logError_retriesKept (c : Fin 2) (line type requester word syndrome : Nat) (s : State) :
    RetriesKept s (logError c line type requester word syndrome s) :=
  (RetriesKept.onChan s c _).trans (writeBarn_retriesKept _ _ _)

theorem barnFailure_retriesKept (c : Fin 2) (code line type requester word syndrome : Nat) (s : State) :
    RetriesKept s (barnFailure c code line type requester word syndrome s) :=
  ((logError_retriesKept c line type requester word syndrome s).trans (eventFrame_record _ _ _ _ _).retriesKept).trans
    (eventFrame_raise _ _).retriesKept

/-- A command that fails its CA parity takes a read from the queue or a write from the write queue, or waits for its read. -/
theorem caFails_retriesKept (c : Fin 2) (requester line : Nat) (s : State) : RetriesKept s (caFails c requester line s) := by
  unfold caFails
  simp only
  split
  · split
    · exact (RetriesKept.onChan s c _).trans (.of_eq rfl rfl)
    · exact .onChan s c _
  split
  · refine .trans (t := s.draw) (.of_eq rfl rfl) (.onChan _ _ _ (fun x => ?_) fun x => ?_)
    · split <;> rfl
    · split <;> rfl
  · exact .onChan s c _

/-! ### One count -/

/-- From `s` to `t` one event is counted at `k`; every other entry stays but those that events change. -/
def CountedAt (k : Key) (s t : State) : Prop := ∀ j ∉ eventKeys, t.nat j = (s.inc k).nat j

theorem CountedAt.then_kept {k : Key} {s t u : State} (h : CountedAt k s t) (g : RetriesKept t u) : CountedAt k s u :=
  fun j hj => (g.nat j hj).trans (h j hj)

theorem CountedAt.of_kept {k : Key} {s t u : State} (hk : k ∉ eventKeys) (g : RetriesKept s t) (h : CountedAt k t u) :
    CountedAt k s u := by
  intro j hj
  rw [h j hj]
  by_cases hjk : j = k
  · rw [hjk, nat_inc_same, nat_inc_same, g.nat k hk]
  · rw [nat_inc_other _ _ _ hjk, nat_inc_other _ _ _ hjk, g.nat j hj]

theorem countedAt_onChan_inc (s : State) (c : Fin 2) (f : BarnChan → BarnChan) (k : Key) :
    CountedAt k s ((s.onChan c f).inc k) := fun _ _ => rfl

theorem CountedAt.nat_same {k : Key} {s t : State} (h : CountedAt k s t) (hk : k ∉ eventKeys) (hmax : s.nat k < 2 ^ 32 - 1) :
    t.nat k = s.nat k + 1 := by
  rw [h k hk, nat_inc_same, Nat.min_eq_left hmax]

theorem CountedAt.nat_other {k j : Key} {s t : State} (h : CountedAt k s t) (hj : j ∉ eventKeys) (hjk : j ≠ k) :
    t.nat j = s.nat j := by
  rw [h j hj, nat_inc_other _ _ _ hjk]

/-- An event that is counted at one of two entries moves their sum by one, and no third entry. -/
theorem nat_add_of_countedAt {k k' : Key} {s t : State} (h : CountedAt k s t ∨ CountedAt k' s t) (hk : k ∉ eventKeys)
    (hk' : k' ∉ eventKeys) (hne : k ≠ k') (hmax : s.nat k < 2 ^ 32 - 1) (hmax' : s.nat k' < 2 ^ 32 - 1) :
    t.nat k + t.nat k' = s.nat k + s.nat k' + 1 ∧ ∀ j ∉ eventKeys, j ≠ k → j ≠ k' → t.nat j = s.nat j := by
  rcases h with h | h
  · refine ⟨?_, fun j hj hjk _ => h.nat_other hj hjk⟩
    rw [h.nat_same hk hmax, h.nat_other hk' hne.symm, Nat.add_right_comm]
  · refine ⟨?_, fun j hj _ hjk' => h.nat_other hj hjk'⟩
    rw [h.nat_other hk hne, h.nat_same hk' hmax', Nat.add_assoc]

/-! ### The pulse -/

theorem barnCounters_not_eventKeys (c : Fin 2) :
    K.caParityRetries c ∉ eventKeys ∧ K.caParityFails c ∉ eventKeys ∧ K.crcRetries c ∉ eventKeys ∧ K.crcFails c ∉ eventKeys := by
  revert c
  decide

theorem barnCounters_distinct (c : Fin 2) :
    K.caParityRetries c ≠ K.caParityFails c ∧ K.caParityRetries c ≠ K.crcRetries c ∧ K.caParityRetries c ≠ K.crcFails c
      ∧ K.caParityFails c ≠ K.crcRetries c ∧ K.caParityFails c ≠ K.crcFails c ∧ K.crcRetries c ≠ K.crcFails c := by
  revert c
  decide

/-- A pulse of 12 cycles or more tells of a CA parity error: the first of its command is counted as a retry, the second as a
failure (R320), and no line's count of CRC retries moves. -/
theorem alert_caParity (c : Fin 2) (requester line cycles : Nat) (s : State) (h : 12 ≤ cycles) :
    (CountedAt (K.caParityRetries c) s (alert c requester line cycles s)
        ∨ CountedAt (K.caParityFails c) s (alert c requester line cycles s))
      ∧ ((alert c requester line cycles s).chan c).crcTries = (s.chan c).crcTries := by
  obtain ⟨-, hfails, -, -⟩ := barnCounters_not_eventKeys c
  unfold alert
  simp only [if_pos h]
  split
  · have hfailed := caFails_retriesKept c requester line s
    have hkept := barnFailure_retriesKept c 0x0703 line 5 requester 0 0
    exact ⟨.inr (.then_kept (.of_kept hfails hfailed (countedAt_onChan_inc _ c _ _)) (hkept _)),
      ((hkept _).crcTries c).trans ((chan_onChan_keeps _ _ c c _).trans (hfailed.crcTries c))⟩
  · have hkept := logError_retriesKept c line 4 requester 0 0
    exact ⟨.inl (.then_kept (countedAt_onChan_inc s c _ _) (hkept _)),
      ((hkept _).crcTries c).trans (chan_onChan_keeps _ s c c _)⟩

/-- A shorter pulse tells of a write CRC error: up to three of a line are counted as retries, the next as a failure (R320), and no
command's CA parity retry is noted or forgotten. -/
theorem alert_writeCrc (c : Fin 2) (requester line cycles : Nat) (s : State) (h : cycles < 12) :
    (CountedAt (K.crcRetries c) s (alert c requester line cycles s)
        ∨ CountedAt (K.crcFails c) s (alert c requester line cycles s))
      ∧ ((alert c requester line cycles s).chan c).caRetried = (s.chan c).caRetried := by
  obtain ⟨-, -, -, hfails⟩ := barnCounters_not_eventKeys c
  unfold alert
  simp only [if_neg (Nat.not_le.mpr h)]
  split
  · have hkept := logError_retriesKept c line 6 requester 0 0
    exact ⟨.inl (.then_kept (countedAt_onChan_inc s c _ _) (hkept _)),
      ((hkept _).caRetried c).trans (chan_onChan_keeps _ s c c _)⟩
  · have hread := readsFirst_retriesKept (fun l => l == line) s
    have hkept (t : State) := (poisonLine_retriesKept line t).trans (barnFailure_retriesKept c 0x0704 line 7 requester 0 0 _)
    exact ⟨.inr (.then_kept (.of_kept hfails hread (countedAt_onChan_inc _ c _ _)) (hkept _)),
      ((hkept _).caRetried c).trans ((chan_onChan_keeps _ _ c c _).trans (hread.caRetried c))⟩

theorem exec_barnAlert (c : Fin 2) (r : Fin 14) (line : BitVec 29) (cycles dt : Nat) (s : State) :
    exec (.barnAlert c r line cycles dt) s = .next (latchStatus (alert c r line.toNat cycles (s.elapse dt))) := rfl

/-- Settles O45: an alert counts at one of the two entries that its length tells of, and all that it brings with it in the log, the
black box and the interrupt controller leaves the counters and the records of the other kind alone. -/
theorem barnAlertPulses : Obligations.BarnAlertPulses := by
  intro s c r line cycles dt hcaRetries hcaFails hcrcRetries hcrcFails
  obtain ⟨kcaRetries, kcaFails, kcrcRetries, kcrcFails⟩ := barnCounters_not_eventKeys c
  obtain ⟨hca, hcaR_crcR, hcaR_crcF, hcaF_crcR, hcaF_crcF, hcrc⟩ := barnCounters_distinct c
  rw [← elapse_nat s dt] at hcaRetries hcaFails hcrcRetries hcrcFails
  refine ⟨_, exec_barnAlert c r line cycles dt s, fun hlong => ?_, fun hshort => ?_⟩
  · obtain ⟨hcounted, htries⟩ := alert_caParity c r line.toNat cycles (s.elapse dt) hlong
    obtain ⟨hsum, hothers⟩ := nat_add_of_countedAt hcounted kcaRetries kcaFails hca hcaRetries hcaFails
    have hcrcRetries' := hothers _ kcrcRetries hcaR_crcR.symm hcaF_crcR.symm
    have hcrcFails' := hothers _ kcrcFails hcaR_crcF.symm hcaF_crcF.symm
    simp only [elapse_nat] at hsum hcrcRetries' hcrcFails'
    exact ⟨hsum, hcrcRetries', hcrcFails', by simpa [State.chan] using htries⟩
  · obtain ⟨hcounted, hretried⟩ := alert_writeCrc c r line.toNat cycles (s.elapse dt) hshort
    obtain ⟨hsum, hothers⟩ := nat_add_of_countedAt hcounted kcrcRetries kcrcFails hcrc hcrcRetries hcrcFails
    have hcaRetries' := hothers _ kcaRetries hcaR_crcR hcaR_crcF
    have hcaFails' := hothers _ kcaFails hcaF_crcR hcaF_crcF
    simp only [elapse_nat] at hsum hcaRetries' hcaFails'
    exact ⟨hcaRetries', hcaFails', by simpa [State.chan] using hretried, hsum⟩

end Sys2Proof.Machine
end

section
/-!
PROOFS. Sub-index 0x00 (R333): the greatest of a list of numbers is one of them, every sub-index that a table or an image defines fits
its byte, and so the highest sub-index of an index names an entry.
-/

namespace Sys2Proof.Machine

/-! ### The greatest of a list -/

theorem max?_zero_cons (l : List Nat) : (0 :: l).max? = some (maxOf l) := List.max?_cons'

theorem le_maxOf {l : List Nat} {x : Nat} (h : x ∈ l) : x ≤ maxOf l :=
  (List.max?_eq_some_iff.mp (max?_zero_cons l)).2 x (List.mem_cons_of_mem 0 h)

theorem maxOf_mem {l : List Nat} (h : 0 < maxOf l) : maxOf l ∈ l :=
  (List.mem_cons.mp (List.max?_eq_some_iff.mp (max?_zero_cons l)).1).resolve_left (Nat.pos_iff_ne_zero.mp h)

/-! ### A field of an image in its width -/

@[simp] theorem slice_length (o n : Nat) (b : List Byte) : (slice o n b).length = n := by
  simp only [slice, List.length_append, List.length_take, List.length_replicate]
  omega

theorem leNat_lt (b : List Byte) : leNat b < 256 ^ b.length := by
  induction b with
  | nil => simp [leNat]
  | cons x xs ih =>
    have hx : x.toNat < 256 := x.isLt
    simp only [leNat, List.length_cons, Nat.pow_succ]
    omega

theorem fieldAt_lt (o n : Nat) (b : List Byte) : fieldAt o n b < 256 ^ n := by
  simpa [fieldAt] using leNat_lt (slice o n b)

theorem paramsOf_sub_lt {img : List Byte} {p : ParamRec} (h : p ∈ paramsOf img) : p.sub < 256 := by
  obtain ⟨x, -, rfl⟩ := List.mem_map.mp h
  exact fieldAt_lt 2 1 x

/-! ### The parts of a key -/

theorem key_index {index sub : Nat} (h : sub < 256) : (256 * index + sub) / 256 = index := by omega

theorem key_sub {index sub : Nat} (h : sub < 256) : (256 * index + sub) % 256 = sub := by omega

/-! ### The sub-indices of the tables -/

/-- A row stands at an index. -/
def EntryRow.standsAt (r : EntryRow) (index : Nat) : Bool := r.index ≤ index && index < r.index + r.indices

/-- The highest sub-index of a row. -/
def EntryRow.topSub (r : EntryRow) : Nat := r.sub + r.subs - 1

theorem EntryRow.holds_iff (r : EntryRow) (index sub : Nat) :
    r.holds index sub = true ↔ r.standsAt index = true ∧ r.sub ≤ sub ∧ sub < r.sub + r.subs := by
  simp [EntryRow.holds, EntryRow.standsAt, and_assoc]

/-- Every row of the tables has a sub-index, and its sub-indices fit a byte. -/
theorem entriesOfRange_subs : ∀ hi < 256, ∀ r ∈ entriesOfRange hi, 0 < r.subs ∧ r.sub + r.subs ≤ 256 := by
  decide +kernel

theorem highestSub_eq_maxOf (index : Nat) :
    highestSub index = maxOf (((entriesOfRange (index / 256)).filter (·.standsAt index)).map EntryRow.topSub) := by
  simp [highestSub, maxOf, List.foldl_map, List.foldl_filter, EntryRow.standsAt, EntryRow.topSub]

theorem mem_topSubs {index n : Nat} :
    n ∈ ((entriesOfRange (index / 256)).filter (·.standsAt index)).map EntryRow.topSub ↔
      ∃ r ∈ entriesOfRange (index / 256), r.standsAt index = true ∧ r.topSub = n := by
  simp [and_assoc]

theorem findRow_isSome_iff {index sub : Nat} (hsub : sub < 256) : (findRow (256 * index + sub)).isSome = true ↔
    ∃ r ∈ entriesOfRange (index / 256), r.holds index sub = true := by
  rw [findRow, show (256 * index + sub) / 65536 = index / 256 by omega, key_index hsub, key_sub hsub, List.find?_isSome]

theorem le_highestSub {index sub : Nat} (hsub : sub < 256) (h : (findRow (256 * index + sub)).isSome = true) :
    sub ≤ highestSub index := by
  obtain ⟨r, hr, hholds⟩ := (findRow_isSome_iff hsub).mp h
  obtain ⟨hat, -, hlt⟩ := (r.holds_iff index sub).mp hholds
  have htop := le_maxOf (mem_topSubs.mpr ⟨r, hr, hat, rfl⟩)
  rw [← highestSub_eq_maxOf, EntryRow.topSub] at htop
  omega

theorem highestSub_defined {index : Nat} (hindex : index < 0x10000) (h : 0 < highestSub index) :
    highestSub index < 256 ∧ (findRow (256 * index + highestSub index)).isSome = true := by
  rw [highestSub_eq_maxOf] at h
  obtain ⟨r, hr, hat, htop⟩ := mem_topSubs.mp (maxOf_mem h)
  rw [← highestSub_eq_maxOf, EntryRow.topSub] at htop
  obtain ⟨hpos, hfit⟩ := entriesOfRange_subs (index / 256) (by omega) r hr
  have hlt : highestSub index < 256 := by omega
  exact ⟨hlt, (findRow_isSome_iff hlt).mpr ⟨r, hr, (r.holds_iff _ _).mpr ⟨hat, by omega, by omega⟩⟩⟩

/-! ### The sub-indices of the active timetable's parameters -/

/-- The active timetable's parameters at an index. -/
def paramsAt (s : State) (index : Nat) : List ParamRec := (paramDefs (activeImage s)).filter fun p => p.index == index

/-- The highest sub-index of the active timetable's parameters at an index. -/
def highestParam (s : State) (index : Nat) : Nat := maxOf ((paramsAt s index).map ParamRec.sub)

theorem paramsAt_sub_lt {s : State} {index : Nat} {p : ParamRec} (h : p ∈ paramsAt s index) : p.sub < 256 :=
  paramsOf_sub_lt (List.mem_filter.mp (List.mem_filter.mp h).1).1

theorem highestParam_defined {s : State} {index : Nat} (h : 0 < highestParam s index) :
    ∃ p ∈ paramsAt s index, p.sub = highestParam s index :=
  List.mem_map.mp (maxOf_mem h)

/-! ### The entry at a key -/

/-- The row of sub-index 0x00 where `top` is the highest sub-index (R333). -/
def subZeroRow (index top : Nat) : EntryRow := ⟨index, 1, 0, 1, .u8, .const, .rRR, top, 0, 0, 255⟩

theorem readVal_subZeroRow (s : State) (index top : Nat) : readVal s (subZeroRow index top) (256 * index) = .num top := by
  simp [readVal, subZeroRow, Ty.isBlock]

/-- Sub-index 0x00 of an index holds `top`, the sub-index of an entry there. -/
def SubZeroHolds (s : State) (index top : Nat) : Prop :=
  entryOf s (256 * index) = some (subZeroRow index top) ∧ top < 256 ∧ (entryOf s (256 * index + top)).isSome = true

/-- The indices of timetable parameters (R220). -/
def ParamIndex (index : Nat) : Prop := 0x3400 ≤ index ∧ index ≤ 0x343F

section
variable {s : State} {index sub : Nat} (hrom : s.nat K.quietCause ≠ 3)
include hrom

theorem entryOf_param (hp : ParamIndex index) (hpos : 0 < sub) (hsub : sub < 256) :
    entryOf s (256 * index + sub) = ((paramsAt s index).find? fun p => p.sub == sub).map paramRow := by
  unfold ParamIndex at hp
  simp [entryOf, hrom, key_index hsub, key_sub hsub, hp, Nat.ne_of_gt hpos, paramsAt]

theorem entryOf_param_zero (hp : ParamIndex index) (hne : paramsAt s index ≠ []) :
    entryOf s (256 * index) = some (subZeroRow index (highestParam s index)) := by
  unfold ParamIndex at hp
  simp only [paramsAt] at hne
  simp [entryOf, hrom, hp, hne, subZeroRow, highestParam, paramsAt]

theorem entryOf_table (hp : ¬ ParamIndex index) (hpos : 0 < sub) (hsub : sub < 256) :
    entryOf s (256 * index + sub) = findRow (256 * index + sub) := by
  unfold ParamIndex at hp
  simp [entryOf, hrom, key_index hsub, key_sub hsub, hp, Nat.ne_of_gt hpos]

theorem entryOf_table_zero (hp : ¬ ParamIndex index) (hpos : 0 < highestSub index) :
    entryOf s (256 * index) = some (subZeroRow index (highestSub index)) := by
  unfold ParamIndex at hp
  simp [entryOf, hrom, hp, Nat.ne_of_gt hpos, subZeroRow]

/-! ### The highest sub-index of an index -/

theorem entryOf_param_isSome_iff (hp : ParamIndex index) (hpos : 0 < sub) (hsub : sub < 256) :
    (entryOf s (256 * index + sub)).isSome = true ↔ ∃ p ∈ paramsAt s index, p.sub = sub := by
  simp [entryOf_param hrom hp hpos hsub]

theorem param_highest (hp : ParamIndex index) (hpos : 0 < sub) (hsub : sub < 256)
    (h : (entryOf s (256 * index + sub)).isSome = true) :
    ∃ top, sub ≤ top ∧ SubZeroHolds s index top := by
  obtain ⟨p, hmem, rfl⟩ := (entryOf_param_isSome_iff hrom hp hpos hsub).mp h
  have hle : p.sub ≤ highestParam s index := le_maxOf (List.mem_map_of_mem hmem)
  have htop : 0 < highestParam s index := by omega
  obtain ⟨q, hq, hqtop⟩ := highestParam_defined htop
  have hlt : highestParam s index < 256 := hqtop ▸ paramsAt_sub_lt hq
  exact ⟨_, hle, entryOf_param_zero hrom hp (List.ne_nil_of_mem hmem), hlt,
    (entryOf_param_isSome_iff hrom hp htop hlt).mpr ⟨q, hq, hqtop⟩⟩

theorem table_highest (hp : ¬ ParamIndex index) (hindex : index < 0x10000) (hpos : 0 < sub) (hsub : sub < 256)
    (h : (entryOf s (256 * index + sub)).isSome = true) :
    ∃ top, sub ≤ top ∧ SubZeroHolds s index top := by
  rw [entryOf_table hrom hp hpos hsub] at h
  have hle := le_highestSub hsub h
  have htop : 0 < highestSub index := by omega
  obtain ⟨hlt, hdefined⟩ := highestSub_defined hindex htop
  refine ⟨_, hle, entryOf_table_zero hrom hp htop, hlt, ?_⟩
  rwa [entryOf_table hrom hp htop hlt]

end

/-- Settles O38: sub-index 0x00 holds the greatest sub-index of the table's rows, or of the active timetable's parameters, at its
index, and a row or a parameter that reaches it exists. -/
theorem highestSubIndexes : Obligations.HighestSubIndexes := by
  intro s index sub hindex hpos hsub hrom h
  obtain ⟨top, hle, hzero, hlt, hdefined⟩ : ∃ top, sub ≤ top ∧ SubZeroHolds s index top := by
    by_cases hp : ParamIndex index
    · exact param_highest hrom hp hpos hsub h
    · exact table_highest hrom hp hindex hpos hsub h
  exact ⟨subZeroRow index top, top, hzero, rfl, rfl, rfl, readVal_subZeroRow s index top, hle, hlt, hdefined⟩

end Sys2Proof.Machine
end
